-- ==== Sys2Proof/Word.lean ====
section
/-! DEFINITION. The plain value types of the XL4: words, counters, cycle numbers, tags, and the two fixed
collections (one per feeder, one per lane) that the state is built from. -/

namespace Sys2Proof

/-- One byte of a frame. -/
abbrev Byte := BitVec 8

/-- One upstream word, bit 31 sent first (13, opening). -/
abbrev Word := BitVec 32

/-- A line cycle number, 32 bits and wrapping (R1). -/
abbrev CycleNo := BitVec 32

/-- A counter that wraps from 4,294,967,295 to 0. -/
abbrev Counter := BitVec 32

/-- A drop unit's factory tag: 16-bit maker code above a 48-bit serial (section 4.4 of 00). -/
abbrev FactoryTag := BitVec 64

/-- An Ethernet address. -/
abbrev Mac := BitVec 48

/-- The four feeders F0 to F3. -/
inductive FeederId where
  | f0 | f1 | f2 | f3
deriving DecidableEq, Repr

/-- One value for each feeder. -/
structure PerFeeder (α : Type) where
  f0 : α
  f1 : α
  f2 : α
  f3 : α
deriving DecidableEq, Repr

/-- Four values numbered 0 to 3: one for each lane of a drop, or one for each slot of a ring. -/
structure Quad (α : Type) where
  q0 : α
  q1 : α
  q2 : α
  q3 : α
deriving DecidableEq, Repr

/-- A table held as key and value pairs. An unlisted key reads as the table's default value. -/
abbrev Tbl (α : Type) := List (Nat × α)

end Sys2Proof
end

