-- ==== Sys2Proof/Syntax.lean ====
section
/-! DEFINITION. The commands of the XL4: one constructor for each row of spec/opcode_table.json, with the
operands the rule of the row names. Fields of requests are the numbers the frame carries (R187), so that a
value out of range can be written and refused. -/

namespace Sys2Proof

/-- What every management request carries beside the fields of its kind (R177, R178, R187). -/
structure MgmtHead where
  /-- source address of the frame -/
  src : Mac
  /-- destination address of the frame -/
  dst : Mac
  /-- request tag, echoed in the response -/
  tag : BitVec 16
deriving DecidableEq, Repr

/-- The record of a WRITE to the ADMISSION table (R85). -/
structure AdmissionFields where
  tag : FactoryTag
  verdict : Nat
  restriction : Nat
  preferred : Option Nat
  account : Nat
  profiles : Quad Nat
deriving DecidableEq, Repr

/-- The record of a WRITE to the PROFILE table (R17). -/
structure ProfileFields where
  cls : Nat
  rate : Nat
  cap : Nat
  minGrant : Nat
deriving DecidableEq, Repr

/-- The record of a WRITE to the FLOW table (R143). -/
structure FlowFields where
  feeder : Nat
  drop : Nat
  lane : Nat
  tag : Nat
  enable : Nat
deriving DecidableEq, Repr

/-- The record of a WRITE to the ACCOUNT table (R154). With `loaded` 0 the other fields are not sent. -/
structure AccountFields where
  loaded : Nat
  code : Nat
  mode : Nat
  plan : Nat
  scale : Nat
  allowance : Nat
  floorProfile : Nat
  floorRate : Nat
deriving DecidableEq, Repr

/-- The record of a WRITE to the TARIFF_PLAN table: 96 band selectors and four weights (R168). -/
structure PlanFields where
  bands : List Nat
  weights : List Nat
deriving DecidableEq, Repr

/-- The record of a WRITE to the FEEDER table, in the order R187 gives. -/
structure FeederFields where
  td : Nat
  rtdMin : Nat
  rtdMax : Nat
  dk : Nat
  poll : Nat
  keepalive : Nat
  period : Nat
  timeout : Nat
  declineHold : Nat
  idleLimit : Nat
  missLimit : Nat
  rouseInterval : Nat
  rouseLimit : Nat
  filter : Nat
  stuckLimit : Nat
  alertLimit : Nat
  strikeLimit : Nat
  observe : Nat
  autoIsolate : Nat
deriving DecidableEq, Repr

/-- The fields of an ADMIT after the feeder (R88). -/
structure AdmitFields where
  tag : FactoryTag
  restriction : Nat
  preferred : Option Nat
  account : Nat
  profiles : Quad Nat
deriving DecidableEq, Repr

/-- One run of whole words as the light detector sees them: light or dark, and how many (R121). -/
structure LightRun where
  light : Bool
  words : Nat
deriving DecidableEq, Repr

/-- A rising transition of the upstream light: its position in eighth-bit ticks from the start of the upstream cycle being
received, and the runs around it in whole bit times, dark before it and lit from it on (R55, R186, log 37). -/
structure RisingTransition where
  ticks : Int
  dark : Nat
  lit : Nat
deriving DecidableEq, Repr

/-- A piece of work that a block does at a cycle start. CYCLE_START's operand lists them in the order in
which they are taken, wherever the rules leave that order open (R2, R6, R15, R20, R21, R36, R106, R110,
R126, R131, R146, R160, R164, R165). -/
inductive CycleWork where
  /-- the Grant Scheduler's build, the layout and the handing on of the plan (R23, R42) -/
  | build (f : FeederId)
  /-- the framer takes line orders and reports them (R15, R78) -/
  | orders (f : FeederId)
  /-- the framer takes data frames and the cycle goes out (R3, R6) -/
  | frames (f : FeederId)
  /-- the feeder's frames are taken and metered before its plan is built, and the cycle goes out with both (the
  second order of the worked case in chapter 10; R6, R160); it stands for `build` and `frames` -/
  | framesFirst (f : FeederId)
  /-- the framer takes data frames, while they fit, until the cycle holds `count` of them; other work may come before it
  takes the rest, the build of the feeder's plan too where it is not yet done (R6, R160, R170) -/
  | framesTo (f : FeederId) (count : Nat)
  /-- idle counts grow (R110, first part) -/
  | idle (f : FeederId)
  /-- the doze tests of the feeder's drops (R110, second part; the row DOZE otherwise) -/
  | doze (f : FeederId)
  /-- query ages grow (R87) -/
  | queryAge (f : FeederId)
  /-- the admission timeouts due (R87; the row ADMISSION_TIMEOUT otherwise) -/
  | queryTimeout (f : FeederId)
  /-- the decay count grows (R126) -/
  | decay (f : FeederId)
  /-- the strike decay due (R126; the row STRIKE_DECAY otherwise) -/
  | strikeDecay (f : FeederId)
  /-- the automatic isolation test (R131) -/
  | autoIsolate (f : FeederId)
  /-- floor buckets refill (R146) -/
  | refill
  /-- outage cycles are counted (R164) -/
  | outage
  /-- the in-quarter count grows (R165) -/
  | quarter
  /-- the quarter boundary due (R169; the row QUARTER_BOUNDARY otherwise) -/
  | boundary
  /-- the close steps of the slots up to `slot` that a pass has not yet visited (R170; the row CLOSE_STEP otherwise) -/
  | closeThrough (slot : Nat)
  /-- the cycle's export count becomes 0 (R173) -/
  | exportCount
  /-- the bind age grows (R176) -/
  | bindAge
  /-- the bind timeout due (R176; the row BIND_TIMEOUT otherwise) -/
  | bindTimeout
  /-- reassembly slots are examined for age (R69; the row REASSEMBLY_AGE_OUT otherwise) -/
  | ageOut
deriving DecidableEq, Repr

/-- The commands: one constructor for each row of the table. -/
inductive Instr where
  /-- POWER_ON_RESET (R93) -/
  | powerOnReset
  /-- CYCLE_START (R1): the order of the cycle-start work -/
  | cycleStart (order : List CycleWork)
  /-- DOZE (R110) -/
  | doze (f : FeederId) (d : Nat)
  /-- ADMISSION_TIMEOUT (R87) -/
  | admissionTimeout (f : FeederId) (tag : FactoryTag)
  /-- BIND_TIMEOUT (R176) -/
  | bindTimeout
  /-- REASSEMBLY_AGE_OUT (R69) -/
  | reassemblyAgeOut (f : FeederId) (d lane : Nat)
  /-- STRIKE_DECAY (R126) -/
  | strikeDecay (f : FeederId)
  /-- QUARTER_BOUNDARY (R169) -/
  | quarterBoundary
  /-- CLOSE_STEP (R172) -/
  | closeStep
  /-- UPSTREAM_CYCLE_BEGIN (R44) -/
  | upstreamCycleBegin (f : FeederId) (n : CycleNo)
  /-- UPSTREAM_CYCLE_END (R44), with the light of the cycle's words not yet examined (R121) -/
  | upstreamCycleEnd (f : FeederId) (n : CycleNo) (light : List LightRun)
  /-- SYNC_FIRST_TRANSITION (R55, R186): where it stands and the runs around it -/
  | syncFirstTransition (f : FeederId) (edge : RisingTransition)
  /-- SYNC_MARK_MEASURED (R13): the span counter at the fifth transition -/
  | syncMarkMeasured (f : FeederId) (span : Nat)
  /-- SYNC_OVERLONG (R13) -/
  | syncOverlong (f : FeederId)
  /-- LABEL_READ (R57): the label word -/
  | labelRead (f : FeederId) (label : Word)
  /-- SEGMENT_SPLIT (R66): the words read up to and with the last word of the segment, or the overrunning header -/
  | segmentSplit (f : FeederId) (words : List Word)
  /-- END_MARK_READ (R58): the body words not yet read, then the end mark -/
  | endMarkRead (f : FeederId) (words : List Word) (endMark : Word)
  /-- RANGE_REPLY_READ (R60): label, echo word, end mark -/
  | rangeReplyRead (f : FeederId) (label echo endMark : Word)
  /-- DISCOVERY_REPLY_READ (R61): label, the two tag words, info word, end mark -/
  | discoveryReplyRead (f : FeederId) (label tagHigh tagLow info endMark : Word)
  /-- ADMISSION_LOOKUP (R86): the feeder's oldest LOOKUP entry -/
  | admissionLookup (f : FeederId)
  /-- BURST_WINDOW_RESOLVED (R59): plan cycle and owner index -/
  | burstWindowResolved (f : FeederId) (n : CycleNo) (d : Nat)
  /-- RANGING_WINDOW_RESOLVED (R60): plan cycle and owner index -/
  | rangingWindowResolved (f : FeederId) (n : CycleNo) (d : Nat)
  /-- DISCOVERY_WINDOW_RESOLVED (R61): plan cycle -/
  | discoveryWindowResolved (f : FeederId) (n : CycleNo)
  /-- STUCK_ONSET (R123): the words of light just examined -/
  | stuckOnset (f : FeederId) (words : Nat)
  /-- STUCK_CLEAR (R123): the dark words just examined -/
  | stuckClear (f : FeederId) (words : Nat)
  /-- UPLINK_FRAME_RECEIVED (R141): the frame's bytes, its check sequence last, and whether that passed -/
  | uplinkFrameReceived (bytes : List Byte) (fcsOk : Bool)
  /-- UPLINK_LINK_CHANGE (R150) -/
  | uplinkLinkChange (up : Bool)
  /-- TRANSMISSION_END (R150) -/
  | transmissionEnd
  /-- RESPONSE_HOLD_RELEASE (R179) -/
  | responseHoldRelease
  /-- NOTICE_OFFER (R183) -/
  | noticeOffer
  /-- STATEMENT_EXPORT (R173) -/
  | statementExport
  /-- BIND (R176) -/
  | bind (h : MgmtHead) (number : Nat)
  /-- READ (R180) -/
  | read (h : MgmtHead) (table index : Nat)
  /-- WRITE_ADMISSION (R85) -/
  | writeAdmission (h : MgmtHead) (place : Nat) (r : AdmissionFields)
  /-- WRITE_PROFILE (R17) -/
  | writeProfile (h : MgmtHead) (entry : Nat) (r : ProfileFields)
  /-- WRITE_FLOW (R143) -/
  | writeFlow (h : MgmtHead) (record : Nat) (r : FlowFields)
  /-- WRITE_TAG_MAP (R142) -/
  | writeTagMap (h : MgmtHead) (tagNumber : Nat) (flow : Option Nat)
  /-- WRITE_ACCOUNT (R154) -/
  | writeAccount (h : MgmtHead) (slot : Nat) (r : AccountFields)
  /-- WRITE_TARIFF_PLAN (R168) -/
  | writeTariffPlan (h : MgmtHead) (plan : Nat) (r : PlanFields)
  /-- WRITE_FEEDER (R95) -/
  | writeFeeder (h : MgmtHead) (feeder : Nat) (r : FeederFields)
  /-- FEEDER_START (R181) -/
  | feederStart (h : MgmtHead) (feeder : Nat)
  /-- FEEDER_STOP (R92) -/
  | feederStop (h : MgmtHead) (feeder : Nat)
  /-- DISCOVERY (R79): OFF 0, ONCE 1, CONTINUOUS 2 -/
  | discovery (h : MgmtHead) (feeder mode : Nat)
  /-- ADMIT (R88) -/
  | admitReply (h : MgmtHead) (feeder : Nat) (r : AdmitFields)
  /-- REFUSE (R88) -/
  | refuse (h : MgmtHead) (feeder : Nat) (tag : FactoryTag)
  /-- REMOVE (R114) -/
  | remove (h : MgmtHead) (feeder index : Nat)
  /-- DARKEN (R116) -/
  | darken (h : MgmtHead) (feeder index : Nat)
  /-- RELIGHT (R117) -/
  | relight (h : MgmtHead) (feeder index : Nat)
  /-- RELEASE (R119) -/
  | release (h : MgmtHead) (feeder index : Nat)
  /-- ISOLATE (R132) -/
  | isolate (h : MgmtHead) (feeder : Nat) (index : Option Nat)
  /-- TOP_UP (R161) -/
  | topUp (h : MgmtHead) (slot points : Nat)
  /-- SUSPEND (R162) -/
  | suspend (h : MgmtHead) (slot : Nat)
  /-- RESUME (R163) -/
  | resume (h : MgmtHead) (slot : Nat)
  /-- SET_TARIFF_CLOCK (R166) -/
  | setTariffClock (h : MgmtHead) (day quarter closeEvery : Nat)
  /-- EXPORT_HOLD (R174) -/
  | exportHold (h : MgmtHead)
  /-- EXPORT_RESUME (R174) -/
  | exportResume (h : MgmtHead)
  /-- CLEAR_FLAGS (R184): NOTICE_LOST 0, then OVERBOOKED and REPLY_OVERRUN of each feeder, 1 to 8 -/
  | clearFlags (h : MgmtHead) (flags : List Nat)
  /-- PART_RESET (R182) -/
  | partReset (h : MgmtHead)
  /-- CUT_OFF_MARK (R13) -/
  | cutOffMark (f : FeederId)
  /-- RESET_PIN_HELD (R1) -/
  | resetPinHeld
deriving DecidableEq, Repr

end Sys2Proof
end

