-- ==== Sys2Proof/Decode.lean ====
section
/-! DEFINITION. The command that a word spells. spec/opcode_table.json gives no row any bits: the commands of this
block are operations and events, so no word spells one (log 31). The frames that carry requests are read in
Machine/MgmtFrame.lean. -/

namespace Sys2Proof

/-- The command a word of `nbits` bits spells by the table: none, for every word. -/
def decodeTableWord (_nbits _w : Nat) : Option Instr := none

end Sys2Proof
end

