-- ==== Sys2Proof/Config.lean ====
section
/-! DEFINITION. What is fixed for the part: sizes and limits the rules give, and the one value the spec leaves
open (the Ethernet frame check sequence). -/

namespace Sys2Proof.Config

/-- The check sequence of an Ethernet frame, of the bytes before it. The spec names the sequence and gives no
rule for its value, so it is opaque: no statement can rest on it (log 11). -/
opaque ethernetFcs : List Byte → BitVec 32

/-- Words of an upstream cycle (R7). -/
def cycleWords : Nat := 25000

/-- Bit times of an upstream cycle (R7). -/
def cycleBits : Nat := 800000

/-- Bytes of a downstream cycle (R5). -/
def cycleBytes : Nat := 400000

/-- Bytes that the data area has whatever the plan and the orders (R5). -/
def leastDataArea : Nat := 398004

/-- Guard words after a BURST or RANGING window (R8). -/
def guardWords : Nat := 16

/-- A RANGING window's words (R8). -/
def rangingWords : Nat := 48

/-- Places of the line order queue (R15), and orders one cycle carries (R3). -/
def orderPlaces : Nat := 32

/-- Orders that one downstream cycle carries at most (R15). -/
def ordersPerCycle : Nat := 8

/-- Places of a feeder's reply queue (R82). -/
def replyPlaces : Nat := 4

/-- Places of a downstream queue (R147). -/
def downPlaces : Nat := 512

/-- Places of the response, notice and statement classes (R150). -/
def classPlaces : Nat := 8

/-- Places of the upstream traffic class (R150). -/
def trafficPlaces : Nat := 1000

/-- Places of the response hold (R179). -/
def holdPlaces : Nat := 8

/-- Places of the notice queue (R183). -/
def noticePlaces : Nat := 64

/-- Places of the statement queue (R171, R173). -/
def statementPlaces : Nat := 512

/-- Account slots (R153). -/
def accountSlots : Nat := 256

/-- Statements handed over in one cycle at most (R173). -/
def exportsPerCycle : Nat := 4

/-- The largest frame carried, in bytes (R3, R144). -/
def maxFrame : Nat := 2000

/-- The smallest frame carried, in bytes (R3, R70, R144). -/
def minFrame : Nat := 64

/-- Largest value of a 40-bit saturating quantity: allowance, overrun, period counters (R153). -/
def max40 : Nat := 2 ^ 40 - 1

/-- Lifetime byte counters wrap at this value (R153). -/
def wrap48 : Nat := 2 ^ 48

/-- Largest value of a 32-bit saturating count (R164). -/
def max32 : Nat := 2 ^ 32 - 1

/-- Cycles of a quarter of the tariff clock (R165). -/
def quarterCycles : Nat := 3600000

/-- The bind age at which a BINDING agent gives up (R176), the age at which a partial frame is dropped
(R69), and the length of the strike decay (R126), in cycles. -/
def longCycles : Nat := 4000

/-- Quiet cycles that end a WATCH, and the age at which a symptom cycle leaves the recent list (R128, R129). -/
def watchCycles : Nat := 64

/-- Range tries that fail a ranging (R101). -/
def rangeTries : Nat := 3

/-- The strike count saturates here (R125). -/
def maxStrikes : Nat := 15

/-- Strikes of a GARBLE and of a MISLABEL (R125). -/
def garbleStrikes : Nat := 1

/-- Strikes of a MISLABEL (R125). -/
def mislabelStrikes : Nat := 4

/-- The idle count saturates here (R110). -/
def maxIdle : Nat := 32000

/-- The span counter saturates here (R13). -/
def spanMax : Nat := 1023

/-- Part identity in the BIND_ECHO: maker code, part kind, part revision (R187). -/
def makerCode : Nat := 0x4A4B
/-- Part kind (R187). -/
def partKind : Nat := 0x0004
/-- Part revision (R187). -/
def partRevision : Nat := 1

end Sys2Proof.Config
end

