-- ==== Sys2Proof/Machine/Types.lean ====
section
/-! DEFINITION. The records, queues and counters that the nine blocks own, and the value each takes at power-on
reset. Each structure's docstring names the rule that gives its fields. -/

namespace Sys2Proof.Machine

/-! ## Grant Scheduler -/

/-- Class of a lane profile (R16). -/
inductive LaneClass where
  | fixed | assured | shared
deriving DecidableEq, Repr

/-- A profile table entry (R16): class, rate R in credit units, cap K in words, minimum grant M in words. -/
structure Profile where
  cls : LaneClass
  rate : Nat
  cap : Nat
  minGrant : Nat
deriving DecidableEq, Repr

/-- Every entry after power-on reset (R16). -/
def Profile.reset : Profile := ⟨.shared, 0, 1, 1⟩

/-- A lane record (R18). -/
structure LaneRecord where
  credit : Nat
  backlog : Nat
  outstanding : Nat
  lastReport : CycleNo
deriving DecidableEq, Repr

/-- The value of R19. -/
def LaneRecord.zero : LaneRecord := ⟨0, 0, 0, 0⟩

/-! ## Enrolment Controller -/

/-- State of a drop record (R73, R74). -/
inductive DropState where
  | empty | ranging | active | dozing | silent | darkened | quarantined | leaving
deriving DecidableEq, Repr

/-- Line order kinds, in the order of the table of R14. -/
inductive OrderKind where
  | assign | equalise | darken | relight | disable | enable | remove | decline
deriving DecidableEq, Repr

/-- Status of a pending order (R76). -/
inductive OrderStatus where
  | held | queued
deriving DecidableEq, Repr

/-- A pending order (R73, R76). -/
structure PendingOrder where
  kind : OrderKind
  status : OrderStatus
deriving DecidableEq, Repr

/-- Who darkened a drop (R73). -/
inductive DarkenCause where
  | host | isolation
deriving DecidableEq, Repr

/-- Why a record left (R113), and why a record was freed (R75): the leave reasons come first. -/
inductive RemoveReason where
  | lost | hostRemove | rangeFail | outOfReach | reappeared | feederStop
deriving DecidableEq, Repr

/-- Phase of a ranging (R98). -/
inductive RangingPhase where
  | awaitingAssign | measuring | equalising
deriving DecidableEq, Repr

/-- The ranging window in flight (R98). -/
structure RangingWindow where
  cycle : CycleNo
  start : Nat
  delay : Nat
deriving DecidableEq, Repr

/-- A drop record (R73), with the ranging phase and window of R98. `serial` is the identity that R78 asks of
a record ("a record freed and then created anew counts as a different record"); `dozeDue` is the model's own
(log 4). -/
structure DropRecord where
  state : DropState
  tag : FactoryTag
  account : Nat
  laneCount : Nat
  profiles : Quad Nat
  rtd : Nat
  eqd : Nat
  resume : Option DropState
  cause : Option DarkenCause
  leave : Option RemoveReason
  pending : Option PendingOrder
  following : Option OrderKind
  lastSent : Option (OrderKind × CycleNo)
  miss : Nat
  rouse : Nat
  idle : Nat
  strikes : Nat
  lastPlanned : CycleNo
  rangeTries : Nat
  correctionPending : Bool
  equaliseCycle : Option CycleNo
  phase : Option RangingPhase
  inFlight : Option RangingWindow
  serial : Nat
  dozeDue : Bool
deriving DecidableEq, Repr

/-- An EMPTY record: every number 0, every optional field absent (R73). -/
def DropRecord.empty : DropRecord where
  state := .empty
  tag := 0
  account := 0
  laneCount := 0
  profiles := ⟨0, 0, 0, 0⟩
  rtd := 0
  eqd := 0
  resume := none
  cause := none
  leave := none
  pending := none
  following := none
  lastSent := none
  miss := 0
  rouse := 0
  idle := 0
  strikes := 0
  lastPlanned := 0
  rangeTries := 0
  correctionPending := false
  equaliseCycle := none
  phase := none
  inFlight := none
  serial := 0
  dozeDue := false

/-- Verdict of an admission place (R85). -/
inductive AdmissionVerdict where
  | permit | deny
deriving DecidableEq, Repr

/-- An entry of the admission table (R85). `restriction` absent is ANY. -/
structure AdmissionEntry where
  tag : FactoryTag
  verdict : AdmissionVerdict
  restriction : Option FeederId
  preferred : Option Nat
  account : Nat
  profiles : Quad Nat
deriving DecidableEq, Repr

/-- Reasons of a decline (R91). -/
inductive DeclineReason where
  | wrongFeeder | denied | timeout | hostRefused | accountMissing | accountInUse | feederFull
deriving DecidableEq, Repr

/-- Status of a reply queue entry (R82). -/
inductive ReplyStatus where
  | lookup | waitingHost
deriving DecidableEq, Repr

/-- A reply queue entry (R82). `serial` is its identity for R78; `timeoutDue` is the model's own (log 4). -/
structure ReplyEntry where
  tag : FactoryTag
  laneCount : Nat
  k : Nat
  rtd : Nat
  arrival : CycleNo
  status : ReplyStatus
  age : Nat
  decline : Option (DeclineReason × OrderStatus)
  serial : Nat
  timeoutDue : Bool
deriving DecidableEq, Repr

/-- The ONCE part of a sweep (R79). -/
inductive OncePart where
  | none | due | inFlight (n : CycleNo)
deriving DecidableEq, Repr

/-- A feeder's sweep state but for the period, which is a setting (R79). -/
structure Sweep where
  once : OncePart
  continuous : Bool
  lastDiscovery : Option CycleNo
deriving DecidableEq, Repr

/-- A sweep that is OFF (R79). -/
def Sweep.off : Sweep := ⟨.none, false, none⟩

/-- An element of the discovery window list (R81). -/
structure DiscoveryWindow where
  cycle : CycleNo
  live : Bool
deriving DecidableEq, Repr

/-- Feeder settings: the reach settings of R94 and those of R26, R79, R87, R91, R107 and R120. -/
structure Settings where
  td : Nat
  rtdMin : Nat
  rtdMax : Nat
  dk : Nat
  poll : Nat
  keepalive : Nat
  period : Nat
  timeout : Nat
  declineHold : Nat
  idleLimit : Nat
  missLimit : Nat
  rouseInterval : Nat
  rouseLimit : Nat
  filter : Nat
  stuckLimit : Nat
  alertLimit : Nat
  strikeLimit : Nat
  observe : Nat
  autoIsolate : Bool
deriving DecidableEq, Repr

/-- The settings after power-on reset (R94, R26, R79, R87, R91, R107, R120). -/
def Settings.reset : Settings where
  td := 1920000
  rtdMin := 128000
  rtdMax := 640000
  dk := 64
  poll := 8
  keepalive := 16
  period := 400
  timeout := 8000
  declineHold := 16000
  idleLimit := 16000
  missLimit := 4
  rouseInterval := 40
  rouseLimit := 8
  filter := 2
  stuckLimit := 2
  alertLimit := 4
  strikeLimit := 8
  observe := 16
  autoIsolate := true

/-- The Enrolment Controller's counters (R84). -/
structure EnrolCounters where
  cancelled : Counter
  duplicate : Counter
  clash : Counter
  heldTag : Counter
  overrun : Counter
  skipped : Counter
  declines : Counter
deriving DecidableEq, Repr

/-- The counters at 0. -/
def EnrolCounters.zero : EnrolCounters := ⟨0, 0, 0, 0, 0, 0, 0⟩

/-! ## Plans and the expectation ring -/

/-- Flag of a BURST entry (R8, R26). -/
inductive BurstFlag where
  | poll | rouse
deriving DecidableEq, Repr

/-- A window entry of a plan (R8). A BURST entry's allocations are pairs of lane and granted words. -/
inductive Entry where
  | burst (d start len : Nat) (allocs : List (Nat × Nat)) (flag : Option BurstFlag)
  | ranging (d start delay : Nat)
  | discovery (start len delay : Nat)
  | dark (start len : Nat)
deriving DecidableEq, Repr

/-- Names a window within a plan: a plan holds at most one BURST or RANGING entry for an index, and at most
one DISCOVERY entry (R37). -/
inductive WindowId where
  | burst (d : Nat)
  | ranging (d : Nat)
  | discovery
deriving DecidableEq, Repr

/-- What a received burst gave (R56, R58): arrival position, reports in the order of the allocations, and the
two notes. -/
structure Reading where
  arrival : Int
  reports : List Nat
  carriedData : Bool
  allZero : Bool
deriving DecidableEq, Repr

/-- What the reader has found for a window (R54 to R60). -/
inductive Found where
  /-- no first transition taken -/
  | nothing
  /-- a first transition taken, nothing decided yet -/
  | taken
  | garbledSpan
  | garbledLabel
  | garbledEnd
  | mislabelled (named : Nat)
  | received (r : Reading)
deriving DecidableEq, Repr

/-- Resolution of a window (R43, R59). -/
inductive Resolution where
  | unresolved | excused | missing | garbled | mislabelled | received
  /-- a DISCOVERY window once resolved -/
  | resolved
deriving DecidableEq, Repr

/-- A window of a held plan (R43) with the reader's finding for it. A DARK entry keeps `unresolved` and is
never counted. -/
structure Window where
  entry : Entry
  found : Found
  resolution : Resolution
deriving DecidableEq, Repr

/-- The Light Monitor's record of one upstream cycle (R121): runs of filtered light as start word and length,
the windows whose resolution carried a STRAY, and whether STUCK was active during part of it (R123). -/
structure LightRecord where
  lit : List (Nat × Nat)
  strays : List WindowId
  stuck : Bool
deriving DecidableEq, Repr

/-- An empty light record. -/
def LightRecord.dark : LightRecord := ⟨[], [], false⟩

/-- State of a ring slot that is not FREE (R43). -/
inductive SlotState where
  | waiting | receiving | draining
deriving DecidableEq, Repr

/-- A ring slot that is not FREE (R43), with the light record of its cycle (R121). -/
structure Slot where
  state : SlotState
  cycle : CycleNo
  windows : List Window
  light : LightRecord
deriving DecidableEq, Repr

/-- A resume mark that is not absent (R48). -/
inductive ResumeMark where
  | waiting
  | cycle (m : CycleNo)
deriving DecidableEq, Repr

/-! ## Burst Receiver -/

/-- A segment split from a burst (R66). -/
structure Segment where
  flow : Nat
  first : Bool
  last : Bool
  payload : List Byte
deriving DecidableEq, Repr

/-- An element of the staging list (R65): a segment or an overrun mark, with its lane key and the plan cycle of
the window it came from. -/
structure Staged where
  cycle : CycleNo
  d : Nat
  lane : Nat
  item : Option Segment
deriving DecidableEq, Repr

/-- Where the reader stands in a lane's granted words (R66). -/
inductive LanePlace where
  /-- a segment header is expected -/
  | header
  /-- in a payload: the segment so far and the payload bytes still to come -/
  | payload (seg : Segment) (left : Nat)
  /-- the rest of the lane's words are passed over -/
  | passing
deriving DecidableEq, Repr

/-- The body of a DATA burst being read (R58): the words read from the label on, the reports read and the
number still to come, and the lanes still to read with their words left. -/
structure Body where
  words : List Word
  reports : List Nat
  reportsLeft : Nat
  lanes : List (Nat × Nat)
  place : LanePlace
  carriedData : Bool
deriving DecidableEq, Repr

/-- The burst reader (R54). `b` is the arrival position B of R12 in the window's own upstream cycle. -/
inductive Reader where
  | idle
  | measuring (cycle : CycleNo) (w : WindowId) (b : Int) (overlong : Bool)
  /-- READING, with the label still to come -/
  | label (cycle : CycleNo) (w : WindowId) (b : Int)
  /-- READING the body of a DATA burst -/
  | body (cycle : CycleNo) (w : WindowId) (b : Int) (body : Body)
deriving DecidableEq, Repr

/-- Reception counters (R64). -/
structure ReceptionCounters where
  received : Counter
  missing : Counter
  garbledSpan : Counter
  garbledLabel : Counter
  garbledEnd : Counter
  mislabelled : Counter
  excused : Counter
  repliesTaken : Counter
  repliesGarbled : Counter
deriving DecidableEq, Repr

/-- The counters at 0. -/
def ReceptionCounters.zero : ReceptionCounters := ⟨0, 0, 0, 0, 0, 0, 0, 0, 0⟩

/-! ## Downstream Framer -/

/-- Where a line order came from, by identity (R78). -/
inductive OrderOrigin where
  | drop (d serial : Nat)
  | reply (serial : Nat)
deriving DecidableEq, Repr

/-- An order in the line order queue (R14, R15, R77): its field values were given when it was placed. `index`
is 0 for ASSIGN and DECLINE and `tag` 0 for the others; `value` is what bytes 12 to 15 carry (R186). -/
structure LineOrder where
  kind : OrderKind
  index : Nat
  tag : FactoryTag
  value : Nat
  origin : OrderOrigin
deriving DecidableEq, Repr

/-- A frame in a downstream queue (R147): the bytes of the untagged frame before its check sequence (log 11),
the flow number and the drop index. -/
structure DownFrame where
  data : List Byte
  flow : Nat
  index : Nat
deriving DecidableEq, Repr

/-- The downstream cycle in transmission (R3). -/
structure DownCycle where
  cycle : CycleNo
  restart : Bool
  plan : List Entry
  orders : List LineOrder
  segments : List DownFrame
deriving DecidableEq, Repr

/-! ## Light Monitor -/

/-- Feeder rogue state (R128). -/
inductive RogueState where
  | clear | watch | alert | isolating | unattributed
deriving DecidableEq, Repr

/-- The light detector (R121, R123): whether it is looking, whether an upstream cycle is under way and which is
or was last, its word in that cycle, the run of raw light under the glitch filter and whether that run has passed
it, the dark run, the measured run. -/
structure Detector where
  looking : Bool
  inCycle : Bool
  cycle : CycleNo
  pos : Nat
  raw : Nat
  passed : Bool
  dark : Nat
  measured : Nat
deriving DecidableEq, Repr

/-- A detector that does not look (R121). -/
def Detector.off : Detector := ⟨false, false, 0, 0, 0, false, 0, 0⟩

/-- Kind of an isolation (R133). -/
inductive IsolationKind where
  | full | targeted
deriving DecidableEq, Repr

/-- Phase of an isolation (R133). -/
inductive IsolationPhase where
  | darkening | observing | relighting | confirming
deriving DecidableEq, Repr

/-- Outcome of an isolation (R139). -/
inductive IsolationEnding where
  | quarantine | unattributed
deriving DecidableEq, Repr

/-- The isolation record (R133). `confirmStep` is the model's own: it tells a halving step whose suspects have
left but one from the confirm step (log 38). -/
structure Isolation where
  kind : Option IsolationKind
  suspects : List Nat
  test : List Nat
  step : Nat
  phase : Option IsolationPhase
  awaited : List Nat
  lastDarken : CycleNo
  observeStart : CycleNo
  observeEnd : CycleNo
  faultSeen : Bool
  departed : List Nat
  ending : Option IsolationEnding
  confirmStep : Bool
deriving DecidableEq, Repr

/-- The record outside an isolation (R133; the numbers by log 24). -/
def Isolation.none : Isolation where
  kind := Option.none
  suspects := []
  test := []
  step := 0
  phase := Option.none
  awaited := []
  lastDarken := 0
  observeStart := 0
  observeEnd := 0
  faultSeen := false
  departed := []
  ending := Option.none
  confirmStep := false

/-- Light counters (R124). -/
structure LightCounters where
  darkLight : Counter
  stray : Counter
  stuckOnsets : Counter
  garble : Counter
  mislabel : Counter
  strikeLimits : Counter
  isolations : Counter
  quarantines : Counter
  unattributed : Counter
deriving DecidableEq, Repr

/-- The counters at 0. -/
def LightCounters.zero : LightCounters := ⟨0, 0, 0, 0, 0, 0, 0, 0, 0⟩

/-! ## Flow Engine -/

/-- A flow record (R143). -/
structure FlowRecord where
  feeder : FeederId
  drop : Nat
  lane : Nat
  tag : Nat
  enable : Bool
deriving DecidableEq, Repr

/-- A flow record after power-on reset (R143). -/
def FlowRecord.reset : FlowRecord := ⟨.f0, 0, 0, 1, false⟩

/-- An occupied reassembly slot (R67). Bytes so far is the length of the payload. -/
structure Partial where
  flow : Nat
  arrival : CycleNo
  payload : List Byte
deriving DecidableEq, Repr

/-- Upstream discard counters (R72). -/
structure UpstreamCounters where
  lostInFlight : Counter
  laneOverrun : Counter
  lostToState : Counter
  displaced : Counter
  orphan : Counter
  flowBreak : Counter
  oversize : Counter
  agedOut : Counter
  runt : Counter
  misrouted : Counter
  uplinkFull : Counter
deriving DecidableEq, Repr

/-- The counters at 0. -/
def UpstreamCounters.zero : UpstreamCounters := ⟨0, 0, 0, 0, 0, 0, 0, 0, 0, 0, 0⟩

/-- Downstream counters kept for each feeder (R148). -/
structure DownstreamCounters where
  flowDisabled : Counter
  notDelivering : Counter
  suspended : Counter
  floorExceeded : Counter
  queueFull : Counter
  queued : Counter
deriving DecidableEq, Repr

/-- The counters at 0. -/
def DownstreamCounters.zero : DownstreamCounters := ⟨0, 0, 0, 0, 0, 0⟩

/-! ## Usage Meter -/

/-- Mode of an account (R153). -/
inductive AccountMode where
  | counted | openMode
deriving DecidableEq, Repr

/-- State of an account (R153). -/
inductive AccountState where
  | normal | throttled | suspended
deriving DecidableEq, Repr

/-- An account slot (R153). The period counters are four bands down and four up. -/
structure Account where
  loaded : Bool
  code : Nat
  mode : AccountMode
  state : AccountState
  plan : Nat
  scale : Nat
  allowance : Nat
  overrun : Nat
  floorProfile : Nat
  floorRate : Nat
  bucket : Nat
  bound : Option (FeederId × Nat)
  down : Quad Nat
  up : Quad Nat
  outage : Nat
  lifeDown : Nat
  lifeUp : Nat
  saturated : Bool
  wrapped : Bool
  lateClose : Bool
  periods : Nat
deriving DecidableEq, Repr

/-- A slot after power-on reset (R153). -/
def Account.reset : Account where
  loaded := false
  code := 0
  mode := .counted
  state := .normal
  plan := 0
  scale := 0
  allowance := 0
  overrun := 0
  floorProfile := 0
  floorRate := 0
  bucket := 0
  bound := none
  down := ⟨0, 0, 0, 0⟩
  up := ⟨0, 0, 0, 0⟩
  outage := 0
  lifeDown := 0
  lifeUp := 0
  saturated := false
  wrapped := false
  lateClose := false
  periods := 1

/-- One copy of a tariff plan: 96 bands and four weights (R167). -/
structure PlanCopy where
  bands : List Nat
  weights : List Nat
deriving DecidableEq, Repr

/-- A copy after power-on reset (R167). -/
def PlanCopy.reset : PlanCopy := ⟨List.replicate 96 0, List.replicate 4 0⟩

/-- A tariff plan (R167). -/
structure TariffPlan where
  active : PlanCopy
  pending : Option PlanCopy
deriving DecidableEq, Repr

/-- A plan after power-on reset (R167). -/
def TariffPlan.reset : TariffPlan := ⟨PlanCopy.reset, none⟩

/-- The tariff clock (R165). -/
structure TariffClock where
  day : Nat
  quarter : Nat
  count : Nat
  closeEvery : Nat
deriving DecidableEq, Repr

/-- The clock after power-on reset (R165). -/
def TariffClock.reset : TariffClock := ⟨0, 0, 0, 96⟩

/-- A close stamp (R169). -/
structure CloseStamp where
  day : Nat
  quarter : Nat
  cycle : CycleNo
deriving DecidableEq, Repr

/-- A close pass under way (R170). -/
structure ClosePass where
  cursor : Nat
  stamp : CloseStamp
deriving DecidableEq, Repr

/-- A statement record (R171). -/
structure Statement where
  number : Counter
  slot : Nat
  code : Nat
  stamp : CloseStamp
  periods : Nat
  down : Quad Nat
  up : Quad Nat
  outage : Nat
  overrun : Nat
  saturated : Bool
  lateClose : Bool
deriving DecidableEq, Repr

/-- What the Usage Meter owns (R153, R165, R167, R170 to R175, R156). `boundaryDue` is the model's own (log 4). The
statements exported and the late closes wrap from 4,294,967,295 to 0 (R175 says only that they wrap: DESIGN CHOICE,
log 60). -/
structure Meter where
  accounts : Tbl Account
  plans : Tbl TariffPlan
  clock : TariffClock
  boundaryDue : Bool
  pass : Option ClosePass
  queue : List Statement
  nextNumber : Counter
  held : Bool
  exportCount : Nat
  exported : Counter
  lateCloses : Counter
  unbilled : Counter
deriving DecidableEq, Repr

/-- The Usage Meter after power-on reset. -/
def Meter.reset : Meter where
  accounts := []
  plans := []
  clock := TariffClock.reset
  boundaryDue := false
  pass := none
  queue := []
  nextNumber := 0
  held := false
  exportCount := 0
  exported := 0
  lateCloses := 0
  unbilled := 0

/-! ## Management Agent and Uplink Port -/

/-- Bind state (R176). -/
inductive BindState where
  | unbound | binding | bound
deriving DecidableEq, Repr

/-- Cause of a ROGUE_ALERT (R183). -/
inductive AlertCause where
  | symptoms
  | stuck
  | strikes (d count : Nat)
deriving DecidableEq, Repr

/-- Notices, in the order of the table of R183. -/
inductive Notice where
  | admissionQuery (f : FeederId) (tag : FactoryTag) (laneCount rtd : Nat)
  | dropEnrolled (f : FeederId) (d : Nat) (tag : FactoryTag) (account rtd eqd : Nat)
  | dropRemoved (f : FeederId) (d : Nat) (tag : FactoryTag) (account : Nat) (reason : RemoveReason)
  | replyOverrun (f : FeederId)
  | tagClash (f : FeederId) (tag : FactoryTag) (other : FeederId)
  | declined (f : FeederId) (tag : FactoryTag) (reason : DeclineReason)
  | rogueAlert (f : FeederId) (cause : AlertCause)
  | rogueFound (f : FeederId) (d : Nat) (tag : FactoryTag) (account step : Nat)
  | rogueUnattributed (f : FeederId) (step : Nat)
  | rogueCleared (f : FeederId)
  | overbooked (f : FeederId) (n : CycleNo)
  | accountThrottled (slot code : Nat) (bound : Option (FeederId × Nat)) (overrun : Nat)
  | accountRestored (slot code : Nat) (bound : Option (FeederId × Nat)) (allowance : Nat)
deriving DecidableEq, Repr

/-- A built notice: the cycle number current when it was asked for, then its kind and fields (R183). -/
structure QueuedNotice where
  cycle : CycleNo
  notice : Notice
deriving DecidableEq, Repr

/-- Reasons of a refusal of a request, in the order of the table of R179. -/
inductive Reject where
  | badRequest | badTable | badIndex | badValue | wrongState | busy | tooLate
deriving DecidableEq, Repr

/-- The agent's counters (R185). -/
structure AgentCounters where
  notBound : Counter
  foreign : Counter
  malformed : Counter
  dropped : Counter
  noticesLost : Counter
  taken : Counter
deriving DecidableEq, Repr

/-- The counters at 0. -/
def AgentCounters.zero : AgentCounters := ⟨0, 0, 0, 0, 0, 0⟩

/-- Classifier counters and the part-wide downstream counters (R148). -/
structure ClassifierCounters where
  receiveError : Counter
  notBound : Counter
  untagged : Counter
  lengthError : Counter
  unmapped : Counter
deriving DecidableEq, Repr

/-- The counters at 0. -/
def ClassifierCounters.zero : ClassifierCounters := ⟨0, 0, 0, 0, 0⟩

/-- Transmit counters (R152). -/
structure TransmitCounters where
  responses : Counter
  notices : Counter
  statements : Counter
  traffic : Counter
  discardedAtReset : Counter
deriving DecidableEq, Repr

/-- The counters at 0. -/
def TransmitCounters.zero : TransmitCounters := ⟨0, 0, 0, 0, 0⟩

/-- A feeder's entry of the part status record (R185). -/
structure FeederStatus where
  running : Bool
  pointer : Nat × Nat
  overbooked : Bool
  replyOverrun : Bool
  enrol : EnrolCounters
  rogue : RogueState
  stuck : Bool
  quiet : Nat
  recent : Nat
  reception : ReceptionCounters
  light : LightCounters
  upstream : UpstreamCounters
  downstream : DownstreamCounters
deriving DecidableEq, Repr

/-- The part status record (R185). -/
structure PartStatus where
  bind : BindState
  controller : Option Mac
  partAddr : Option Mac
  noticeLost : Bool
  notices : Nat
  hold : Nat
  classifier : ClassifierCounters
  transmit : TransmitCounters
  unbilled : Counter
  clock : TariffClock
  nextNumber : Counter
  records : Nat
  exportHeld : Bool
  exported : Counter
  lateCloses : Counter
  cursor : Option Nat
  agent : AgentCounters
  feeders : PerFeeder FeederStatus
deriving DecidableEq, Repr

/-- What a DONE response carries: the record or state that the rule deciding the request names (R178, R187). -/
inductive ResponseBody where
  | empty
  | bindEcho (number : Nat)
  | admission (e : Option AdmissionEntry)
  | profile (p : Profile)
  | flow (r : FlowRecord)
  | tagMap (flow : Option Nat)
  | account (a : Account)
  | plan (p : TariffPlan)
  | feeder (s : Settings)
  | drop (r : DropRecord)
  | lane (r : LaneRecord)
  | replies (l : List ReplyEntry)
  | isolation (i : Isolation)
  | status (p : PartStatus)
  | feederState (running : Bool) (first : Option CycleNo)
  | sweep (s : Sweep) (period : Nat)
  | assigned (d : Nat)
  | declined (reason : DeclineReason)
  | clock (c : TariffClock)
  | exportState (held : Bool) (records : Nat)
  | flags (noticeLost : Bool) (overbooked replyOverrun : PerFeeder Bool)
deriving DecidableEq, Repr

/-- A response (R178): its addresses as held when it was built (log 29), the request tag, the request kind
number of R187, and the outcome: absent is DONE. -/
structure Response where
  src : Option Mac
  dst : Option Mac
  tag : BitVec 16
  kind : Nat
  refused : Option Reject
  body : ResponseBody
deriving DecidableEq, Repr

/-- A management frame handed to the agent and not yet taken (R178): a request, or a frame of the bound
controller that the agent answers itself, with its tag and kind. -/
inductive Inbound where
  | request (c : Instr)
  | answer (tag : BitVec 16) (kind : Nat) (reason : Reject)
deriving DecidableEq, Repr

/-- What the Management Agent owns (R176, R179, R183, R185). -/
structure Agent where
  bind : BindState
  controller : Option Mac
  partAddr : Option Mac
  bindNumber : Nat
  bindAge : Nat
  inbox : List Inbound
  hold : List Response
  notices : List QueuedNotice
  noticeLost : Bool
  count : AgentCounters
deriving DecidableEq, Repr

/-- The agent after power-on reset (R176, R179, R183, R185). -/
def Agent.reset : Agent where
  bind := .unbound
  controller := none
  partAddr := none
  bindNumber := 0
  bindAge := 0
  inbox := []
  hold := []
  notices := []
  noticeLost := false
  count := AgentCounters.zero

/-- An upstream frame in the traffic class: its upstream service tag and its bytes, the drop unit's check
sequence last (R149). -/
structure UpFrame where
  tag : Nat
  bytes : List Byte
deriving DecidableEq, Repr

/-- The four transmit classes in the arbiter's order (R150, R151). -/
inductive TxClass where
  | response | notice | statement | traffic
deriving DecidableEq, Repr

/-- What the Uplink Port owns (R148, R150, R152), with the uplink's link report. -/
structure Uplink where
  responses : List Response
  notices : List QueuedNotice
  statements : List Statement
  traffic : List UpFrame
  sending : Option TxClass
  linkUp : Bool
  classifier : ClassifierCounters
  transmit : TransmitCounters
deriving DecidableEq, Repr

/-- The Uplink Port after power-on reset (R150; the link by log 8). -/
def Uplink.reset : Uplink where
  responses := []
  notices := []
  statements := []
  traffic := []
  sending := none
  linkUp := true
  classifier := ClassifierCounters.zero
  transmit := TransmitCounters.zero

/-! ## One feeder -/

/-- Everything the part keeps for one feeder, block by block. -/
structure Feeder where
  running : Bool
  settings : Settings
  -- Enrolment Controller
  drops : Tbl DropRecord
  replies : List ReplyEntry
  sweep : Sweep
  discoveries : List DiscoveryWindow
  replyOverrun : Bool
  enrolCount : EnrolCounters
  -- Downstream Framer
  orderQueue : List LineOrder
  sending : Option DownCycle
  restartDue : Bool
  -- Grant Scheduler
  lanes : Tbl LaneRecord
  pointer : Nat × Nat
  overbooked : Bool
  -- Burst Receiver
  ring : Quad (Option Slot)
  marks : Tbl (Option ResumeMark)
  reader : Reader
  receptionCount : ReceptionCounters
  -- Light Monitor
  detector : Detector
  stuck : Option CycleNo
  rogue : RogueState
  recent : List CycleNo
  quiet : Nat
  decay : Nat
  decayDue : Bool
  isolation : Isolation
  lightCount : LightCounters
  -- Flow Engine
  downQueue : List DownFrame
  staging : List Staged
  reassembly : Tbl (Option Partial)
  upCount : UpstreamCounters
  downCount : DownstreamCounters
deriving DecidableEq, Repr

/-- A feeder after power-on reset. -/
def Feeder.reset : Feeder where
  running := false
  settings := Settings.reset
  drops := []
  replies := []
  sweep := Sweep.off
  discoveries := []
  replyOverrun := false
  enrolCount := EnrolCounters.zero
  orderQueue := []
  sending := none
  restartDue := false
  lanes := []
  pointer := (1, 0)
  overbooked := false
  ring := ⟨none, none, none, none⟩
  marks := []
  reader := .idle
  receptionCount := ReceptionCounters.zero
  detector := Detector.off
  stuck := none
  rogue := .clear
  recent := []
  quiet := 0
  decay := 0
  decayDue := false
  isolation := Isolation.none
  lightCount := LightCounters.zero
  downQueue := []
  staging := []
  reassembly := []
  upCount := UpstreamCounters.zero
  downCount := DownstreamCounters.zero

end Sys2Proof.Machine
end

