-- ==== Sys2Proof/Machine/State.lean ====
section
/-! DEFINITION. The state of the XL4, the reasons a step can stop, and the state at power-on reset. -/

namespace Sys2Proof.Machine

/-- The whole state of the part, and the queue of commands that wait (a block has no program). -/
structure State where
  /-- the reset pin is held (section 9 of 00, R1) -/
  resetHeld : Bool
  /-- the number of the last origin (R1; before the first origin by log 7) -/
  cycle : CycleNo
  /-- the next identity of a drop record or reply entry (R78, log 33) -/
  serial : Nat
  feeders : PerFeeder Feeder
  /-- profile table, keyed by entry (R16) -/
  profiles : Tbl Profile
  /-- admission table, keyed by place (R85) -/
  admission : Tbl (Option AdmissionEntry)
  /-- tag map, keyed by tag number (R142) -/
  tagMap : Tbl (Option Nat)
  /-- flow table, keyed by record (R143) -/
  flows : Tbl FlowRecord
  meter : Meter
  agent : Agent
  uplink : Uplink
  /-- the commands that wait, first in first out -/
  pending : List Instr
deriving DecidableEq, Repr

/-- Why a step stops. -/
inductive Fault where
  /-- Raised by CYCLE_START when a RUNNING feeder's ring slot for the new cycle is not FREE. R46 says that at
  origin(n) slot (n mod 4) is FREE, so only an order of commands that the line cannot give reaches it. Safe. -/
  | ringSlotOccupied
deriving DecidableEq, Repr

/-- Why a step refuses a command. -/
inductive Refusal where
  /-- A command without a meaning; raised by no arm of `exec`. Safe. -/
  | notModelled (mnemonic : String)
deriving DecidableEq, Repr

/-- The part after power-on reset (R93 and the reset values of every owner's rule). -/
def State.reset : State where
  resetHeld := false
  cycle := 4294967295
  serial := 0
  feeders := ⟨Feeder.reset, Feeder.reset, Feeder.reset, Feeder.reset⟩
  profiles := []
  admission := []
  tagMap := []
  flows := []
  meter := Meter.reset
  agent := Agent.reset
  uplink := Uplink.reset
  pending := []

end Sys2Proof.Machine
end

