-- ==== Sys2Proof/Machine/Ops.lean ====
section
/-! DEFINITION. The named operations over tables, feeders and records that the meanings share. -/

namespace Sys2Proof

/-! ## Collections -/

namespace Tbl

/-- What a key reads as; `dflt` for an unlisted key. -/
def get {α : Type} (dflt : α) : Tbl α → Nat → α
  | [], _ => dflt
  | (k, v) :: t, key => if k = key then v else Tbl.get dflt t key

/-- The table without a key's entry. -/
def erase {α : Type} (t : Tbl α) (key : Nat) : Tbl α := t.filter fun e => decide (e.1 ≠ key)

/-- An entry put before the first larger key. -/
def insert {α : Type} (key : Nat) (v : α) : Tbl α → Tbl α
  | [] => [(key, v)]
  | e :: t => if key < e.1 then (key, v) :: e :: t else e :: Tbl.insert key v t

/-- Writes one key. Writing the default removes the entry, so equal tables are equal lists. -/
def set {α : Type} [DecidableEq α] (dflt : α) (t : Tbl α) (key : Nat) (v : α) : Tbl α :=
  if v = dflt then t.erase key else Tbl.insert key v (t.erase key)

/-- The canonical form: keys strictly rising and no entry equal to the default. -/
def wf {α : Type} [DecidableEq α] (dflt : α) : Tbl α → Bool
  | [] => true
  | [e] => decide (e.2 ≠ dflt)
  | e :: e' :: t => decide (e.2 ≠ dflt) && decide (e.1 < e'.1) && Tbl.wf dflt (e' :: t)

/-- Rewrites what every listed key reads as. -/
def update {α : Type} [DecidableEq α] (dflt : α) (g : Nat → α → α) (t : Tbl α) : Tbl α :=
  t.foldl (fun acc e => Tbl.set dflt acc e.1 (g e.1 (Tbl.get dflt t e.1))) t

end Tbl

namespace PerFeeder

/-- The value of one feeder. -/
def get {α : Type} (p : PerFeeder α) : FeederId → α
  | .f0 => p.f0
  | .f1 => p.f1
  | .f2 => p.f2
  | .f3 => p.f3

/-- The collection with one feeder's value replaced. -/
def set {α : Type} (p : PerFeeder α) (f : FeederId) (v : α) : PerFeeder α :=
  match f with
  | .f0 => { p with f0 := v }
  | .f1 => { p with f1 := v }
  | .f2 => { p with f2 := v }
  | .f3 => { p with f3 := v }

/-- One function on every feeder's value. -/
def map {α β : Type} (g : α → β) (p : PerFeeder α) : PerFeeder β := ⟨g p.f0, g p.f1, g p.f2, g p.f3⟩

end PerFeeder

namespace Quad

/-- The value numbered `i`; numbers above 3 read as number 3. -/
def get {α : Type} (q : Quad α) (i : Nat) : α :=
  match i with
  | 0 => q.q0
  | 1 => q.q1
  | 2 => q.q2
  | _ => q.q3

/-- The four values with number `i` replaced. -/
def set {α : Type} (q : Quad α) (i : Nat) (v : α) : Quad α :=
  match i with
  | 0 => { q with q0 := v }
  | 1 => { q with q1 := v }
  | 2 => { q with q2 := v }
  | _ => { q with q3 := v }

/-- The four values in order. -/
def list {α : Type} (q : Quad α) : List α := [q.q0, q.q1, q.q2, q.q3]

end Quad

/-- All feeders in ascending order. -/
def FeederId.all : List FeederId := [.f0, .f1, .f2, .f3]

/-- The feeder's number. -/
def FeederId.toNat : FeederId → Nat
  | .f0 => 0
  | .f1 => 1
  | .f2 => 2
  | .f3 => 3

/-- The feeder of a number, absent above 3. -/
def FeederId.ofNat? : Nat → Option FeederId
  | 0 => some .f0
  | 1 => some .f1
  | 2 => some .f2
  | 3 => some .f3
  | _ => none

/-- Elements of a list with later repeats left out. -/
def dedup {α : Type} [DecidableEq α] (l : List α) : List α :=
  (l.foldl (fun acc x => if x ∈ acc then acc else x :: acc) []).reverse

/-- A list with `d` put in at its place in ascending order, if it does not hold it. -/
def insertAsc (d : Nat) : List Nat → List Nat
  | [] => [d]
  | x :: l => if d < x then d :: x :: l else if d = x then x :: l else x :: insertAsc d l

/-- Drop indices 1 to 64 in ascending order. -/
def dropIndices : List Nat := (List.range 64).map (· + 1)

/-- Lanes 0 to 3. -/
def laneNumbers : List Nat := [0, 1, 2, 3]

/-! ## Cycle numbers (R1) -/

/-- Cycles from `a` to `b`, modulo 2^32. -/
def cyclesFrom (a b : CycleNo) : Nat := (b - a).toNat

/-- `a` is at or before `b`. -/
def atOrBefore (a b : CycleNo) : Bool := decide (cyclesFrom a b < 2 ^ 31)

/-- `a` is after `b`: `b` is at or before `a` and not equal to it. Of two cycles 2^31 apart neither is after the other. -/
def afterCycle (a b : CycleNo) : Bool := atOrBefore b a && decide (b ≠ a)

/-- ceil(a / b). -/
def ceilDiv (a b : Nat) : Nat := (a + b - 1) / b

namespace Machine

/-! ## Reaching state -/

/-- What one feeder holds. -/
def State.feeder (s : State) (f : FeederId) : Feeder := s.feeders.get f

/-- The state with one feeder's holding replaced. -/
def State.setFeeder (s : State) (f : FeederId) (x : Feeder) : State :=
  { s with feeders := s.feeders.set f x }

/-- The state with one feeder's holding changed. -/
def State.onFeeder (s : State) (f : FeederId) (g : Feeder → Feeder) : State :=
  s.setFeeder f (g (s.feeder f))

/-- The state with the Usage Meter's holding changed. -/
def State.onMeter (s : State) (g : Meter → Meter) : State := { s with meter := g s.meter }

/-- The state with the agent's holding changed. -/
def State.onAgent (s : State) (g : Agent → Agent) : State := { s with agent := g s.agent }

/-- The state with the Uplink Port's holding changed. -/
def State.onUplink (s : State) (g : Uplink → Uplink) : State := { s with uplink := g s.uplink }

/-- The key of a lane within a feeder's tables: lane-key order (section 4.4 of 00, R187). -/
def laneKey (d lane : Nat) : Nat := (d - 1) * 4 + lane

/-- A drop record of a feeder (R73). -/
def Feeder.drop (x : Feeder) (d : Nat) : DropRecord := x.drops.get DropRecord.empty d

/-- The feeder with a drop record written. -/
def Feeder.setDrop (x : Feeder) (d : Nat) (r : DropRecord) : Feeder :=
  { x with drops := x.drops.set DropRecord.empty d r }

/-- A lane record of a feeder (R18). -/
def Feeder.lane (x : Feeder) (d lane : Nat) : LaneRecord := x.lanes.get LaneRecord.zero (laneKey d lane)

/-- The feeder with a lane record written. -/
def Feeder.setLane (x : Feeder) (d lane : Nat) (r : LaneRecord) : Feeder :=
  { x with lanes := x.lanes.set LaneRecord.zero (laneKey d lane) r }

/-- A reassembly slot of a feeder (R67). -/
def Feeder.partialFrame (x : Feeder) (d lane : Nat) : Option Partial :=
  x.reassembly.get none (laneKey d lane)

/-- The feeder with a reassembly slot written. -/
def Feeder.setPartial (x : Feeder) (d lane : Nat) (p : Option Partial) : Feeder :=
  { x with reassembly := x.reassembly.set none (laneKey d lane) p }

/-- A resume mark of a feeder (R48). -/
def Feeder.mark (x : Feeder) (d : Nat) : Option ResumeMark := x.marks.get none d

/-- The feeder with a resume mark written. -/
def Feeder.setMark (x : Feeder) (d : Nat) (m : Option ResumeMark) : Feeder :=
  { x with marks := x.marks.set none d m }

/-- A drop record. -/
def State.drop (s : State) (f : FeederId) (d : Nat) : DropRecord := (s.feeder f).drop d

/-- The state with a drop record changed. -/
def State.onDrop (s : State) (f : FeederId) (d : Nat) (g : DropRecord → DropRecord) : State :=
  s.onFeeder f fun x => x.setDrop d (g (x.drop d))

/-- A profile table entry (R16). -/
def State.profile (s : State) (n : Nat) : Profile := s.profiles.get Profile.reset n

/-- An account slot (R153). -/
def State.account (s : State) (slot : Nat) : Account := s.meter.accounts.get Account.reset slot

/-- The state with an account slot changed. -/
def State.onAccount (s : State) (slot : Nat) (g : Account → Account) : State :=
  s.onMeter fun m => { m with accounts := m.accounts.set Account.reset slot (g (m.accounts.get Account.reset slot)) }

/-- The account bound to a drop (R90, R155), absent where none is. -/
def State.boundAccount (s : State) (f : FeederId) (d : Nat) : Option Nat :=
  (s.meter.accounts.find? fun e => decide (e.2.bound = some (f, d))).map Prod.fst

/-- A flow record (R143). -/
def State.flow (s : State) (n : Nat) : FlowRecord := s.flows.get FlowRecord.reset n

/-- A tag map entry (R142). -/
def State.tagEntry (s : State) (n : Nat) : Option Nat := s.tagMap.get none n

/-- A tariff plan (R167). -/
def State.tariffPlan (s : State) (n : Nat) : TariffPlan := s.meter.plans.get TariffPlan.reset n

/-- An admission place (R85). -/
def State.place (s : State) (n : Nat) : Option AdmissionEntry := s.admission.get none n

/-! ## States of a drop (R74) -/

/-- ACTIVE, DOZING or SILENT: the states in which a drop is given bursts. -/
def DropState.shining : DropState → Bool
  | .active | .dozing | .silent => true
  | _ => false

/-- The states in which downstream frames are delivered (R6, R144). -/
def DropState.delivering : DropState → Bool
  | .active | .dozing | .silent | .darkened | .ranging => true
  | _ => false

/-- Enabled lanes of a record (R18): a profile other than 0, in a non-EMPTY record. -/
def DropRecord.enabledLanes (r : DropRecord) : List Nat :=
  if r.state = .empty then [] else laneNumbers.filter fun l => decide (r.profiles.get l ≠ 0)

/-! ## The ring -/

/-- The ring slot of a cycle number (R43). -/
def slotNumber (n : CycleNo) : Nat := n.toNat % 4

/-- The slot holding plan `n`, if one does. -/
def Feeder.slotOf (x : Feeder) (n : CycleNo) : Option Slot :=
  match x.ring.get (slotNumber n) with
  | some sl => if sl.cycle = n then some sl else none
  | none => none

/-- The feeder with the slot of plan `n` written. -/
def Feeder.setSlot (x : Feeder) (n : CycleNo) (sl : Option Slot) : Feeder :=
  { x with ring := x.ring.set (slotNumber n) sl }

/-- The slot of the upstream cycle under way, RECEIVING (R44). -/
def Feeder.receiving (x : Feeder) : Option Slot :=
  if x.detector.inCycle then (x.slotOf x.detector.cycle).filter fun sl => decide (sl.state = .receiving) else none

/-- The window an entry stands for; a DARK entry is none. -/
def Entry.windowId : Entry → Option WindowId
  | .burst d _ _ _ _ => some (.burst d)
  | .ranging d _ _ => some (.ranging d)
  | .discovery _ _ _ => some .discovery
  | .dark _ _ => none

/-- Start word of an entry. -/
def Entry.start : Entry → Nat
  | .burst _ w _ _ _ => w
  | .ranging _ w _ => w
  | .discovery w _ _ => w
  | .dark w _ => w

/-- Length of an entry in words (R8). -/
def Entry.len : Entry → Nat
  | .burst _ _ n _ _ => n
  | .ranging _ _ _ => Config.rangingWords
  | .discovery _ n _ => n
  | .dark _ n => n

/-- The window of a slot by its name. -/
def Slot.window (sl : Slot) (w : WindowId) : Option Window :=
  sl.windows.find? fun x => decide (x.entry.windowId = some w)

/-- The slot with the named window changed. -/
def Slot.onWindow (sl : Slot) (w : WindowId) (g : Window → Window) : Slot :=
  { sl with windows := sl.windows.map fun x => if x.entry.windowId = some w then g x else x }

/-- Every BURST, RANGING and DISCOVERY window of the slot is resolved (R44). -/
def Slot.allResolved (sl : Slot) : Bool :=
  sl.windows.all fun x => x.entry.windowId.isNone || decide (x.resolution ≠ .unresolved)

/-- The slot holds a BURST or RANGING window for index `d` (R50). -/
def Slot.holds (sl : Slot) (d : Nat) : Bool :=
  sl.windows.any fun x => decide (x.entry.windowId = some (.burst d)) || decide (x.entry.windowId = some (.ranging d))

/-- The feeder's ring holds a window for drop index `d` (R50). -/
def Feeder.ringHolds (x : Feeder) (d : Nat) : Bool :=
  (x.ring.list.filterMap id).any fun sl => sl.holds d

/-- The feeder is ISOLATING or STUCK: misses, rouses and range tries are frozen (R109). -/
def Feeder.frozen (x : Feeder) : Bool := decide (x.rogue = .isolating) || x.stuck.isSome

/-! ## The reset pin -/

/-- A command's effect, or none while the reset pin is held (section 9 of 00, log 10). -/
def live (s : State) (g : State → State) : Host.Outcome State Fault Refusal :=
  if s.resetHeld then .next s else .next (g s)

end Machine

end Sys2Proof
end

