-- ==== Sys2Proof/WellFormed.lean ====
section
/-! DEFINITION. Which commands are well formed: the fields of a request fit their encoding (R187), lists have
the lengths their rows give, a drop index and a lane are ones the part has. A value out of a RULE's range is
well formed: the part refuses it by its own rule. -/

namespace Sys2Proof

/-- A 4-byte field (R187). -/
def fits4 (n : Nat) : Bool := decide (n < 2 ^ 32)

/-- An 8-byte field (R187). -/
def fits8 (n : Nat) : Bool := decide (n < 2 ^ 64)

/-- An optional 4-byte field: present, it is not all ones, which says absent (R187). -/
def fitsOpt4 (o : Option Nat) : Bool := o.all fun n => decide (n < 2 ^ 32 - 1)

/-- A drop index of a record (R73). -/
def isIndex (d : Nat) : Bool := decide (1 ≤ d) && decide (d ≤ 64)

/-- A lane number (section 4.4 of 00). -/
def isLane (l : Nat) : Bool := decide (l < 4)

namespace Quad
/-- Every one of the four values passes `p`. -/
def allq {α : Type} (p : α → Bool) (q : Quad α) : Bool := p q.q0 && p q.q1 && p q.q2 && p q.q3
end Quad

/-- The fields of an ADMISSION record fit. -/
def AdmissionFields.fits (r : AdmissionFields) : Bool :=
  fits4 r.verdict && fits4 r.restriction && fitsOpt4 r.preferred && fits4 r.account && r.profiles.allq fits4

/-- The fields of a PROFILE record fit. -/
def ProfileFields.fits (r : ProfileFields) : Bool :=
  fits4 r.cls && fits4 r.rate && fits4 r.cap && fits4 r.minGrant

/-- The fields of a FLOW record fit. -/
def FlowFields.fits (r : FlowFields) : Bool :=
  fits4 r.feeder && fits4 r.drop && fits4 r.lane && fits4 r.tag && fits4 r.enable

/-- The fields of an ACCOUNT record fit; a record with `loaded` 0 gives no other field, and they are written 0. -/
def AccountFields.fits (r : AccountFields) : Bool :=
  fits4 r.loaded && fits4 r.code && fits4 r.mode && fits4 r.plan && fits4 r.scale && fits8 r.allowance &&
  fits4 r.floorProfile && fits4 r.floorRate &&
  (decide (r.loaded ≠ 0) || decide (r = ⟨0, 0, 0, 0, 0, 0, 0, 0⟩))

/-- A plan gives 96 bands and four weights (R168), each fitting its field. -/
def PlanFields.fits (r : PlanFields) : Bool :=
  decide (r.bands.length = 96) && decide (r.weights.length = 4) && r.bands.all fits4 && r.weights.all fits4

/-- The fields of a FEEDER record in the order of R187. -/
def FeederFields.list (r : FeederFields) : List Nat :=
  [r.td, r.rtdMin, r.rtdMax, r.dk, r.poll, r.keepalive, r.period, r.timeout, r.declineHold, r.idleLimit,
   r.missLimit, r.rouseInterval, r.rouseLimit, r.filter, r.stuckLimit, r.alertLimit, r.strikeLimit, r.observe,
   r.autoIsolate]

/-- The fields of a FEEDER record fit. -/
def FeederFields.fits (r : FeederFields) : Bool := r.list.all fits4

/-- The fields of an ADMIT fit. -/
def AdmitFields.fits (r : AdmitFields) : Bool :=
  fits4 r.restriction && fitsOpt4 r.preferred && fits4 r.account && r.profiles.allq fits4

/-- A piece of cycle-start work names an account slot there is (R153), and a number of frames a queue can hold (R147). -/
def CycleWork.wellFormed : CycleWork → Bool
  | .closeThrough slot => decide (slot ≤ 255)
  | .framesTo _ count => decide (1 ≤ count) && decide (count ≤ 512)
  | .build _ | .orders _ | .frames _ | .framesFirst _ | .idle _ | .doze _ | .queryAge _ | .queryTimeout _ | .decay _
  | .strikeDecay _ | .autoIsolate _ | .refill | .outage | .quarter | .boundary | .exportCount | .bindAge | .bindTimeout
  | .ageOut => true

/-- Which commands are well formed. -/
def Instr.wellFormed : Instr → Bool
  | .powerOnReset => true
  | .cycleStart order => decide order.Nodup && order.all CycleWork.wellFormed
  | .doze _ d => isIndex d
  | .admissionTimeout _ _ => true
  | .bindTimeout => true
  | .reassemblyAgeOut _ d l => isIndex d && isLane l
  | .strikeDecay _ => true
  | .quarterBoundary => true
  | .closeStep => true
  | .upstreamCycleBegin _ _ => true
  | .upstreamCycleEnd _ _ light => light.all fun r => decide (r.words ≤ 25000)
  | .syncFirstTransition _ _ => true
  | .syncMarkMeasured _ span => decide (span ≤ 1023)
  | .syncOverlong _ => true
  | .labelRead _ _ => true
  | .segmentSplit _ words => !words.isEmpty
  | .endMarkRead _ _ _ => true
  | .rangeReplyRead _ _ _ _ => true
  | .discoveryReplyRead _ _ _ _ _ _ => true
  | .admissionLookup _ => true
  | .burstWindowResolved _ _ d => isIndex d
  | .rangingWindowResolved _ _ d => isIndex d
  | .discoveryWindowResolved _ _ => true
  | .stuckOnset _ words => decide (words ≤ 25000)
  | .stuckClear _ words => decide (words ≤ 25000)
  | .uplinkFrameReceived _ _ => true
  | .uplinkLinkChange _ => true
  | .transmissionEnd => true
  | .responseHoldRelease => true
  | .noticeOffer => true
  | .statementExport => true
  | .bind _ n => fits4 n
  | .read _ t i => fits4 t && fits4 i
  | .writeAdmission _ i r => fits4 i && r.fits
  | .writeProfile _ i r => fits4 i && r.fits
  | .writeFlow _ i r => fits4 i && r.fits
  | .writeTagMap _ i r => fits4 i && fitsOpt4 r
  | .writeAccount _ i r => fits4 i && r.fits
  | .writeTariffPlan _ i r => fits4 i && r.fits
  | .writeFeeder _ i r => fits4 i && r.fits
  | .feederStart _ f => fits4 f
  | .feederStop _ f => fits4 f
  | .discovery _ f m => fits4 f && fits4 m
  | .admitReply _ f r => fits4 f && r.fits
  | .refuse _ f _ => fits4 f
  | .remove _ f d => fits4 f && fits4 d
  | .darken _ f d => fits4 f && fits4 d
  | .relight _ f d => fits4 f && fits4 d
  | .release _ f d => fits4 f && fits4 d
  | .isolate _ f d => fits4 f && fitsOpt4 d
  | .topUp _ a p => fits4 a && fits8 p
  | .suspend _ a => fits4 a
  | .resume _ a => fits4 a
  | .setTariffClock _ d q c => fits4 d && fits4 q && fits4 c
  | .exportHold _ => true
  | .exportResume _ => true
  | .clearFlags _ l => decide (4 + 4 * l.length < 2 ^ 16) && l.all fits4
  | .partReset _ => true
  | .cutOffMark _ => true
  | .resetPinHeld => true

end Sys2Proof
end

