-- ==== Sys2Proof/Machine/Operands.lean ====
section
/-! DEFINITION. The fields of requests as numbers, and what each becomes: the range checks of the owners' rules
(BAD_INDEX, BAD_VALUE), the clamps, and the numbering of named sets (R187, log 16). -/

namespace Sys2Proof.Machine

/-- `n` lies from `lo` to `hi`. -/
def within (lo hi n : Nat) : Bool := decide (lo ≤ n) && decide (n ≤ hi)

/-- A feeder number and a drop index of a request (R114, R116, R117, R119): absent is BAD_INDEX. -/
def feederAndIndex (feeder index : Nat) : Option (FeederId × Nat) :=
  match FeederId.ofNat? feeder with
  | none => none
  | some f => if within 1 64 index then some (f, index) else none

/-! ## PROFILE (R16, R17) -/

/-- The class of its number. -/
def laneClassOf : Nat → Option LaneClass
  | 0 => some .fixed
  | 1 => some .assured
  | 2 => some .shared
  | _ => none

/-- The number of a class. -/
def LaneClass.code : LaneClass → Nat
  | .fixed => 0
  | .assured => 1
  | .shared => 2

/-- The entry a WRITE stores: rate and cap clamped; absent is BAD_VALUE (R17). -/
def profileOf (r : ProfileFields) : Option Profile :=
  match laneClassOf r.cls with
  | none => none
  | some c =>
    if r.cap = 0 ∨ ¬ within 1 4096 r.minGrant then none
    else some ⟨c, min r.rate 6400000, min r.cap 25000, r.minGrant⟩

/-! ## ADMISSION and ADMIT (R85, R88) -/

/-- A feeder restriction: ANY is 0, F0 to F3 are 1 to 4. The outer option absent is BAD_VALUE. -/
def restrictionOf : Nat → Option (Option FeederId)
  | 0 => some none
  | 1 => some (some .f0)
  | 2 => some (some .f1)
  | 3 => some (some .f2)
  | 4 => some (some .f3)
  | _ => none

/-- The number of a restriction. -/
def restrictionCode : Option FeederId → Nat
  | none => 0
  | some f => f.toNat + 1

/-- The terms of an admission pass the checks of R85: preferred index, account slot and lane profiles. -/
def termsOk (preferred : Option Nat) (account : Nat) (profiles : Quad Nat) : Bool :=
  preferred.all (within 1 64) && decide (account ≤ 255) && profiles.allq fun p => decide (p ≤ 63)

/-- The place's new contents under a WRITE (R85): `some none` empties it; absent is BAD_VALUE. -/
def admissionOf (r : AdmissionFields) : Option (Option AdmissionEntry) :=
  match restrictionOf r.restriction with
  | none => none
  | some rs =>
    if !termsOk r.preferred r.account r.profiles then none
    else match r.verdict with
      | 0 => some (some ⟨r.tag, .permit, rs, r.preferred, r.account, r.profiles⟩)
      | 1 => some (some ⟨r.tag, .deny, rs, r.preferred, r.account, r.profiles⟩)
      | 2 => some none
      | _ => none

/-- The terms of an ADMIT as a PERMIT entry (R88): absent is BAD_VALUE. -/
def admitOf (r : AdmitFields) : Option AdmissionEntry :=
  match restrictionOf r.restriction with
  | none => none
  | some rs =>
    if !termsOk r.preferred r.account r.profiles then none
    else some ⟨r.tag, .permit, rs, r.preferred, r.account, r.profiles⟩

/-! ## FLOW (R143) -/

/-- The record a WRITE stores; absent is BAD_VALUE (R143). Downstream enable: ON 0, OFF 1. -/
def flowOf (r : FlowFields) : Option FlowRecord :=
  match FeederId.ofNat? r.feeder with
  | none => none
  | some f =>
    if r.drop ≤ 64 ∧ r.lane ≤ 3 ∧ within 1 4094 r.tag ∧ r.enable ≤ 1 then
      some ⟨f, r.drop, r.lane, r.tag, decide (r.enable = 0)⟩
    else none

/-! ## ACCOUNT (R154) -/

/-- The mode of its number. -/
def accountModeOf : Nat → Option AccountMode
  | 0 => some .counted
  | 1 => some .openMode
  | _ => none

/-- The state a load or a RESUME derives (R154, R163). -/
def derivedState (mode : AccountMode) (allowance : Nat) : AccountState :=
  if mode = .counted ∧ allowance = 0 then .throttled else .normal

/-- The slot after a load (R154 step 5); absent is BAD_VALUE (step 4). -/
def loadOf (r : AccountFields) (a : Account) : Option Account :=
  match accountModeOf r.mode with
  | none => none
  | some mode =>
    if r.loaded = 1 ∧ r.plan ≤ 15 ∧ (r.scale = 0 ∨ r.scale = 6 ∨ r.scale = 10) ∧ r.allowance ≤ Config.max40 ∧
        r.floorProfile ≤ 63 ∧ r.floorRate ≤ 400000 then
      some { Account.reset with
        loaded := true, code := r.code, mode := mode, state := derivedState mode r.allowance, plan := r.plan,
        scale := r.scale, allowance := r.allowance, floorProfile := r.floorProfile, floorRate := r.floorRate,
        bound := a.bound }
    else none

/-! ## TARIFF_PLAN (R168) -/

/-- The copy a WRITE gives; absent is BAD_VALUE (R168). -/
def planCopyOf (r : PlanFields) : Option PlanCopy :=
  if r.bands.all (fun b => decide (b ≤ 3)) ∧ r.weights.all (fun w => decide (w ≤ 15)) then
    some ⟨r.bands, r.weights⟩
  else none

/-! ## FEEDER (R94, R95 and the ranges of R26, R79, R87, R91, R107, R120) -/

/-- The reach settings given keep every condition of R95. -/
def reachOk (r : FeederFields) : Bool :=
  (decide (r.dk = 0) || decide (r.dk = 32) || decide (r.dk = 64) || decide (r.dk = 128)) &&
  decide (320000 ≤ r.td) && decide (r.rtdMin < r.rtdMax) && decide (r.rtdMax ≤ r.td) && decide (r.td ≤ 2240000) &&
  decide (r.rtdMax - r.rtdMin ≤ 512000)

/-- The other settings given lie in their ranges. -/
def lineSettingsOk (r : FeederFields) : Bool :=
  within 1 64 r.poll && within 4 256 r.keepalive && within 4 4096 r.period && within 16 65535 r.timeout &&
  within 1 65535 r.declineHold &&
  (decide (r.idleLimit = 4000) || decide (r.idleLimit = 8000) || decide (r.idleLimit = 16000) ||
    decide (r.idleLimit = 32000)) &&
  within 1 15 r.missLimit && within 8 1024 r.rouseInterval && within 1 15 r.rouseLimit &&
  decide (r.filter ≤ 7) &&
  (decide (r.stuckLimit = 1) || decide (r.stuckLimit = 2) || decide (r.stuckLimit = 4) || decide (r.stuckLimit = 8)) &&
  within 1 64 r.alertLimit && within 1 15 r.strikeLimit && within 4 64 r.observe && decide (r.autoIsolate ≤ 1)

/-- The settings a WRITE of the FEEDER table gives; absent is BAD_VALUE (R95). AUTO_ISOLATE: ON 0, OFF 1. -/
def settingsOf (r : FeederFields) : Option Settings :=
  if reachOk r ∧ lineSettingsOk r then
    some ⟨r.td, r.rtdMin, r.rtdMax, r.dk, r.poll, r.keepalive, r.period, r.timeout, r.declineHold, r.idleLimit,
      r.missLimit, r.rouseInterval, r.rouseLimit, r.filter, r.stuckLimit, r.alertLimit, r.strikeLimit, r.observe,
      decide (r.autoIsolate = 0)⟩
  else none

/-- The four reach settings of two records are equal (R95). -/
def sameReach (a b : Settings) : Bool :=
  decide (a.td = b.td) && decide (a.rtdMin = b.rtdMin) && decide (a.rtdMax = b.rtdMax) && decide (a.dk = b.dk)

/-! ## The quantities derived from the reach settings (R96) -/

/-- DW, the discovery window's length in words (R96). -/
def Settings.dw (t : Settings) : Nat := ceilDiv (t.rtdMax - t.rtdMin) 32 + 1008

/-- W0, the discovery window's start word (R96). -/
def Settings.w0 (t : Settings) : Nat := Config.cycleWords - t.dk - t.dw

/-- S, the delay a discovery window carries, in words (R96). -/
def Settings.s (t : Settings) : Nat := t.w0 + ceilDiv (t.td - t.rtdMin) 32

/-- RTD from a discovery reply's B and k, held within 0 and TD (R97). -/
def Settings.discoveryRtd (t : Settings) (b : Int) (k : Nat) : Nat :=
  min (b + t.td - 32 * t.s - 2048 * k).toNat t.td

/-- S_r, the delay a ranging window at start word `r` carries, in words (R99). -/
def Settings.rangingDelay (t : Settings) (r rtd : Nat) : Nat := r + 8 + ceilDiv (t.td - rtd) 32

end Sys2Proof.Machine
end

