-- ==== Sys2Proof/Machine/Flags.lean ====
section
/-! DEFINITION. Notices and the sticky flags: NOTICE_LOST, OVERBOOKED, REPLY_OVERRUN (R183, R34, R84, R184). -/

namespace Sys2Proof.Machine

/-- A notice is asked for (R183): it is built with the current cycle number and joins the queue, or is lost. -/
def notify (n : Notice) (s : State) : State :=
  if s.agent.bind ≠ .bound then s
  else if s.agent.notices.length < Config.noticePlaces then
    s.onAgent fun a => { a with notices := a.notices ++ [⟨s.cycle, n⟩] }
  else
    s.onAgent fun a =>
      { a with noticeLost := true, count := { a.count with noticesLost := a.count.noticesLost + 1 } }

/-- A cut FIXED or ASSURED grant of plan `n` sets OVERBOOKED, with a notice if it was clear (R34). -/
def setOverbooked (f : FeederId) (n : CycleNo) (s : State) : State :=
  if (s.feeder f).overbooked then s
  else notify (.overbooked f n) (s.onFeeder f fun x => { x with overbooked := true })

/-- A reply that finds the queue full sets REPLY_OVERRUN, with a notice if it was clear (R84). -/
def setReplyOverrun (f : FeederId) (s : State) : State :=
  if (s.feeder f).replyOverrun then s
  else notify (.replyOverrun f) (s.onFeeder f fun x => { x with replyOverrun := true })

/-- Clears the flag of one number of a CLEAR_FLAGS selection (R184, numbered as log 16 says). -/
def clearFlag (n : Nat) (s : State) : State :=
  match n with
  | 0 => s.onAgent fun a => { a with noticeLost := false }
  | 1 => s.onFeeder .f0 fun x => { x with overbooked := false }
  | 2 => s.onFeeder .f0 fun x => { x with replyOverrun := false }
  | 3 => s.onFeeder .f1 fun x => { x with overbooked := false }
  | 4 => s.onFeeder .f1 fun x => { x with replyOverrun := false }
  | 5 => s.onFeeder .f2 fun x => { x with overbooked := false }
  | 6 => s.onFeeder .f2 fun x => { x with replyOverrun := false }
  | 7 => s.onFeeder .f3 fun x => { x with overbooked := false }
  | 8 => s.onFeeder .f3 fun x => { x with replyOverrun := false }
  | _ => s

/-- Every sticky flag as it stands (R184). -/
def allFlags (s : State) : ResponseBody :=
  .flags s.agent.noticeLost (s.feeders.map Feeder.overbooked) (s.feeders.map Feeder.replyOverrun)

end Sys2Proof.Machine
end

