-- ==== Sys2Proof/Machine/Uplink.lean ====
section
/-! DEFINITION. The transmit classes, the arbiter, responses and the agent's taking of requests
(R150 to R152, R173, R176 to R179, R183). -/

namespace Sys2Proof.Machine

/-! ## The transmit queue and its arbiter -/

/-- The first class that is not empty, in the arbiter's order (R151). -/
def Uplink.firstClass (u : Uplink) : Option TxClass :=
  if !u.responses.isEmpty then some .response
  else if !u.notices.isEmpty then some .notice
  else if !u.statements.isEmpty then some .statement
  else if !u.traffic.isEmpty then some .traffic
  else none

/-- The arbiter's choice: with the link up and the transmitter free, the head of the first class that is not
empty starts (R151). The frame stays at the head of its class until its transmission ends (R150). -/
def arbitrate (s : State) : State :=
  if s.uplink.linkUp ∧ s.uplink.sending = none then
    s.onUplink fun u => { u with sending := u.firstClass }
  else s

/-- The end of the transmission under way: the frame leaves its class and is counted (R150, R152). -/
def Uplink.endSending (u : Uplink) : Uplink :=
  match u.sending with
  | none => u
  | some .response =>
    { u with sending := none, responses := u.responses.drop 1,
             transmit := { u.transmit with responses := u.transmit.responses + 1 } }
  | some .notice =>
    { u with sending := none, notices := u.notices.drop 1,
             transmit := { u.transmit with notices := u.transmit.notices + 1 } }
  | some .statement =>
    { u with sending := none, statements := u.statements.drop 1,
             transmit := { u.transmit with statements := u.transmit.statements + 1 } }
  | some .traffic =>
    { u with sending := none, traffic := u.traffic.drop 1,
             transmit := { u.transmit with traffic := u.transmit.traffic + 1 } }

/-! ## The export of statement records (R173) -/

/-- How many records the four conditions of R173 let leave one after another: none while export is held, and otherwise as
many as wait, as the cycle's count has left, and as the statement class has places. -/
def exportNumber (s : State) : Nat :=
  if s.meter.held then 0
  else min (Config.exportsPerCycle - s.meter.exportCount)
    (min s.meter.queue.length (Config.classPlaces - s.uplink.statements.length))

/-- The first `k` records are handed over, each as one STATEMENT frame (R173). -/
def exportFirst (k : Nat) (s : State) : State :=
  (s.onMeter fun m => { m with
    queue := m.queue.drop k, exportCount := m.exportCount + k, exported := m.exported + BitVec.ofNat 32 k }).onUplink
  fun u => { u with statements := u.statements ++ s.meter.queue.take k }

/-- The test that R173 has made when a record joins an empty queue, at a cycle start, when a place frees in the statement
class, and at EXPORT_RESUME: every record that may go is handed over. -/
def exportRecords (s : State) : State := exportFirst (exportNumber s) s

/-- That test as an event of its own: the arbiter of R151 follows, if anything was handed over. -/
def exportAndSend (s : State) : State := if exportNumber s = 0 then s else arbitrate (exportRecords s)

/-- The Uplink Port at the end of a transmission: the frame leaves its class (R150), and the place that a STATEMENT frame
frees lets export go on (R173). -/
def transmissionEnds (s : State) : State :=
  let t := s.onUplink Uplink.endSending
  if s.uplink.sending = some .statement then exportRecords t else t

/-- TRANSMISSION_END (R150, R151). -/
def execTransmissionEnd (s : State) : Host.Outcome State Fault Refusal := live s fun s => arbitrate (transmissionEnds s)

/-- UPLINK_LINK_CHANGE (R150): without the link no transmission starts and the frames wait in their classes; one that
has started ends without interruption (R151, log 9). -/
def execUplinkLinkChange (up : Bool) (s : State) : Host.Outcome State Fault Refusal :=
  live s fun s => arbitrate (s.onUplink fun u => { u with linkUp := up })

/-! ## Responses -/

/-- A built response joins the response class, or the response hold (R179). -/
def offerResponse (r : Response) (s : State) : State :=
  if s.agent.hold.isEmpty ∧ s.uplink.responses.length < Config.classPlaces then
    s.onUplink fun u => { u with responses := u.responses ++ [r] }
  else s.onAgent fun a => { a with hold := a.hold ++ [r] }

/-- The outcome of a request (R178): DONE with what its rule names, or REFUSED with a reason. -/
inductive Verdict where
  | done (body : ResponseBody)
  | refused (reason : Reject)
deriving DecidableEq, Repr

/-- Builds and offers the response of a decided request (R178, R187). -/
def respond (tag : BitVec 16) (kind : Nat) (v : Verdict) (s : State) : State :=
  match v with
  | .done body => offerResponse ⟨s.agent.partAddr, s.agent.controller, tag, kind, none, body⟩ s
  | .refused reason => offerResponse ⟨s.agent.partAddr, s.agent.controller, tag, kind, some reason, .empty⟩ s

/-- A request is decided: it is counted and answered (R185, R178). A frame that forms no request and is answered REFUSED
counts as taken too (R185 does not say: DESIGN CHOICE, log 65). -/
def answer (tag : BitVec 16) (kind : Nat) (v : Verdict) (s : State) : State :=
  respond tag kind v (s.onAgent fun a => { a with count := { a.count with taken := a.count.taken + 1 } })

/-- A request is not taken because the hold has all its places taken (R179). A frame that forms no request and comes to a
full hold counts here too (R179 and R185 speak of a request only: DESIGN CHOICE, log 67). -/
def dropRequest (s : State) : State :=
  s.onAgent fun a => { a with count := { a.count with dropped := a.count.dropped + 1 } }

/-- The response hold has all its places taken (R179). -/
def holdFull (s : State) : Bool := decide (Config.holdPlaces ≤ s.agent.hold.length)

/-- The answers the agent owes to frames that form no request, given in their turn (R178 step 1, R179), up to
the next request that waits. Each counts in Requests taken (R185 counts a request decided, and R187 says that such a frame
is not a request: DESIGN CHOICE, log 65), and one that finds the hold full in Requests dropped, without an answer (R179
and R185 speak of a request: DESIGN CHOICE, log 67). -/
def answerWaiting : List Inbound → State → State
  | .answer tag kind reason :: rest, s =>
    answerWaiting rest (if holdFull s then dropRequest s else answer tag kind (.refused reason) s)
  | inbox, s => s.onAgent fun a => { a with inbox := inbox }

/-- It is a request's turn (R178): it stands first among the frames that wait for the agent, or none waits (log 12). -/
def State.turn (c : Instr) (s : State) : Bool :=
  match s.agent.inbox with
  | [] => true
  | i :: _ => decide (i = .request c)

/-- A request is done with: it leaves the agent's input, the agent takes the next frames (R178), and the arbiter chooses
once, after the response has joined: a record that an EXPORT_RESUME let go goes after it (R151 and R174 do not say: DESIGN
CHOICE, log 64). -/
def requestDone (s : State) : State := arbitrate (answerWaiting (s.agent.inbox.drop 1) s)

/-- The agent takes the requests in the order in which their frames were handed over: one out of its turn waits, and
its command changes nothing (R178, log 12). -/
def inTurn (c : Instr) (take : State → State) (s : State) : State := if s.turn c then requestDone (take s) else s

/-- A request other than BIND is judged by the bind state and the source address (R177), dropped while the hold is
full (R179; a PART_RESET too, where R182 has it taken in BOUND whatever the state of the part: DESIGN CHOICE, log 62), and
otherwise taken. -/
def whenBound (h : MgmtHead) (take : State → State) (s : State) : State :=
  if s.agent.bind ≠ .bound then
    s.onAgent fun a => { a with count := { a.count with notBound := a.count.notBound + 1 } }
  else if s.agent.controller ≠ some h.src then
    s.onAgent fun a => { a with count := { a.count with foreign := a.count.foreign + 1 } }
  else if holdFull s then dropRequest s
  else take s

/-- A request other than BIND, decided by `decideBy` and answered (R177 to R179). A READ of PART_STATUS is decided before
it is counted, so its snapshot does not show the READ itself among the requests taken (R185 says neither: DESIGN CHOICE,
log 48). -/
def takeRequest (c : Instr) (h : MgmtHead) (kind : Nat) (decideBy : State → State × Verdict) : State → State :=
  inTurn c <| whenBound h fun s =>
    let r := decideBy s
    answer h.tag kind r.2 r.1

/-- A request refused: nothing changes (R179). -/
def refuseWith (reason : Reject) (s : State) : State × Verdict := (s, .refused reason)

/-! ## What joins the classes (R173, R179, R183) -/

/-- With a free place, the head of the response hold joins the response class (R179). -/
def releaseHeld (s : State) : State :=
  match s.agent.hold with
  | [] => s
  | r :: rest =>
    if s.uplink.responses.length < Config.classPlaces then
      arbitrate ((s.onAgent fun a => { a with hold := rest }).onUplink fun u =>
        { u with responses := u.responses ++ [r] })
    else s

/-- With a free place, the head of the notice queue joins the notice class (R183). -/
def offerNotice (s : State) : State :=
  match s.agent.notices with
  | [] => s
  | n :: rest =>
    if s.uplink.notices.length < Config.classPlaces then
      arbitrate ((s.onAgent fun a => { a with notices := rest }).onUplink fun u =>
        { u with notices := u.notices ++ [n] })
    else s

/-- One record is handed over, where the conditions hold (R173). The events of R173 have made the test already; a state in
which a record may still go is one that no run reaches (log 36). -/
def exportStatement (s : State) : State := if exportNumber s = 0 then s else arbitrate (exportFirst 1 s)

/-- Everything that its rule lets join a class joins it: what was due since the last cycle start and no command has
taken (log 36). -/
def handOver (s : State) : State :=
  exportAndSend (Nat.repeat offerNotice Config.classPlaces (Nat.repeat releaseHeld Config.classPlaces s))

/-- RESPONSE_HOLD_RELEASE (R179). -/
def execResponseHoldRelease (s : State) : Host.Outcome State Fault Refusal := live s releaseHeld

/-- NOTICE_OFFER (R183). -/
def execNoticeOffer (s : State) : Host.Outcome State Fault Refusal := live s offerNotice

/-- STATEMENT_EXPORT (R173). -/
def execStatementExport (s : State) : Host.Outcome State Fault Refusal := live s exportStatement

end Sys2Proof.Machine
end

