-- ==== Sys2Proof/Machine/Accounts.lean ====
section
/-! DEFINITION. The Usage Meter's accounts: metering, allowance, throttling, floor buckets, outage, and the
requests that name an account (R146, R153 to R164). -/

namespace Sys2Proof.Machine

/-! ## Metering (R156 to R160) -/

/-- The weight of a frame metered now to an account: its plan's active copy, the band of the current quarter (R157). -/
def State.bandOf (s : State) (a : Account) : Nat := (s.tariffPlan a.plan).active.bands.getD s.meter.clock.quarter 0

/-- Weight of the band (R157). -/
def State.weightOf (s : State) (a : Account) : Nat := (s.tariffPlan a.plan).active.weights.getD (s.bandOf a) 0

/-- Units of a frame of `len` bytes (R157). -/
def Account.units (a : Account) (len : Nat) : Nat := ceilDiv len (2 ^ a.scale)

/-- Units and bytes are counted (R158). -/
def Account.countFrame (a : Account) (up : Bool) (band units len : Nat) : Account :=
  let old := if up then a.up.get band else a.down.get band
  let c := min (old + units) Config.max40
  let a := { a with saturated := a.saturated || decide (c = Config.max40) }
  if up then
    { a with up := a.up.set band c, lifeUp := (a.lifeUp + len) % Config.wrap48,
             wrapped := a.wrapped || decide (Config.wrap48 ≤ a.lifeUp + len) }
  else
    { a with down := a.down.set band c, lifeDown := (a.lifeDown + len) % Config.wrap48,
             wrapped := a.wrapped || decide (Config.wrap48 ≤ a.lifeDown + len) }

/-- A COUNTED account is charged `p` points (R159). -/
def Account.charge (a : Account) (p : Nat) : Account :=
  if a.mode = .counted then
    if p ≤ a.allowance then { a with allowance := a.allowance - p }
    else { a with allowance := 0, overrun := min (a.overrun + (p - a.allowance)) Config.max40 }
  else a

/-- The charge empties the allowance, or charges one of 0, of a NORMAL account (R160). -/
def Account.throttles (a : Account) (p : Nat) : Bool :=
  decide (a.mode = .counted) && decide (a.state = .normal) && decide ((a.charge p).allowance = 0) &&
  (decide (0 < a.allowance) || decide (0 < p))

/-- One metering step (R156): against the account bound to the drop, or counted as unbilled. -/
def meterFrame (up : Bool) (f : FeederId) (d len : Nat) (s : State) : State :=
  match s.boundAccount f d with
  | none => s.onMeter fun m => { m with unbilled := m.unbilled + 1 }
  | some slot =>
    let a := s.account slot
    let u := a.units len
    let p := u * s.weightOf a
    let charged := (a.countFrame up (s.bandOf a) u len).charge p
    if a.throttles p then
      let a' := { charged with state := .throttled, bucket := 0 }
      notify (.accountThrottled slot a'.code a'.bound a'.overrun) (s.onAccount slot fun _ => a')
    else s.onAccount slot fun _ => charged

/-! ## Cycle-start work (R146, R164) -/

/-- A THROTTLED account's floor bucket rises by the floor rate, stopping at four times the rate, as R146's table gives it
for every rate; R146's sentence on rates below 64 is kept by `gate` (log 71). -/
def Account.refill (a : Account) : Account :=
  if a.loaded ∧ a.state = .throttled then { a with bucket := min (a.bucket + a.floorRate) (4 * a.floorRate) } else a

/-- The refill of every account at a cycle start (R146). -/
def refillBuckets (s : State) : State :=
  s.onMeter fun m => { m with accounts := m.accounts.update Account.reset fun _ a => a.refill }

/-- One outage cycle for a loaded account whose bound drop is DARKENED (R164). -/
def countOutage (s : State) : State :=
  s.onMeter fun m => { m with accounts := m.accounts.update Account.reset fun _ a =>
    match a.bound with
    | some (f, d) =>
      if a.loaded ∧ (s.drop f d).state = .darkened then { a with outage := min (a.outage + 1) Config.max32 } else a
    | none => a }

/-! ## Binding (R155) -/

/-- An account's bound drop is set at an assignment (R155). -/
def bindAccount (slot : Nat) (f : FeederId) (d : Nat) (s : State) : State :=
  s.onAccount slot fun a => { a with bound := some (f, d) }

/-- The bound drop of the account bound to a drop becomes absent (R155). -/
def unbindAccount (f : FeederId) (d : Nat) (s : State) : State :=
  match s.boundAccount f d with
  | none => s
  | some slot => s.onAccount slot fun a => { a with bound := none }

/-! ## Requests that name an account -/

/-- WRITE of the ACCOUNT table (R154). An unload leaves the floor bucket as R154 step 3 leaves every other field, where
R146's table sets the bucket to 0 when the account is written (DEDUCED, log 54). -/
def writeAccount (slot : Nat) (r : AccountFields) (s : State) : State × Verdict :=
  if 255 < slot then refuseWith .badIndex s
  else if (s.account slot).bound.isSome then refuseWith .busy s
  else if r.loaded = 0 then
    let s' := s.onAccount slot fun a => { a with loaded := false }
    (s', .done (.account (s'.account slot)))
  else match loadOf r (s.account slot) with
    | none => refuseWith .badValue s
    | some a =>
      let s' := s.onAccount slot fun _ => a
      (s', .done (.account (s'.account slot)))

/-- WRITE_ACCOUNT (R154). -/
def execWriteAccount (h : MgmtHead) (slot : Nat) (r : AccountFields) (s : State) : Host.Outcome State Fault Refusal :=
  live s (takeRequest (.writeAccount h slot r) h 3 (writeAccount slot r))

/-- TOP_UP decided (R161). -/
def topUp (slot points : Nat) (s : State) : State × Verdict :=
  if 255 < slot then refuseWith .badIndex s
  else if ¬ within 1 Config.max40 points then refuseWith .badValue s
  else if !(s.account slot).loaded then refuseWith .wrongState s
  else
    let a := s.account slot
    let a' := { a with allowance := min (a.allowance + points) Config.max40 }
    if a.state = .throttled ∧ 0 < a'.allowance then
      let a' := { a' with state := .normal, bucket := 0 }
      (notify (.accountRestored slot a'.code a'.bound a'.allowance) (s.onAccount slot fun _ => a'), .done (.account a'))
    else (s.onAccount slot fun _ => a', .done (.account a'))

/-- TOP_UP (R161). -/
def execTopUp (h : MgmtHead) (slot points : Nat) (s : State) : Host.Outcome State Fault Refusal :=
  live s (takeRequest (.topUp h slot points) h 14 (topUp slot points))

/-- SUSPEND decided (R162). -/
def suspendAccount (slot : Nat) (s : State) : State × Verdict :=
  if 255 < slot then refuseWith .badIndex s
  else if !(s.account slot).loaded then refuseWith .wrongState s
  else if (s.account slot).state = .suspended then refuseWith .wrongState s
  else
    let a' := { s.account slot with state := .suspended, bucket := 0 }
    (s.onAccount slot fun _ => a', .done (.account a'))

/-- SUSPEND (R162). -/
def execSuspend (h : MgmtHead) (slot : Nat) (s : State) : Host.Outcome State Fault Refusal :=
  live s (takeRequest (.suspend h slot) h 15 (suspendAccount slot))

/-- RESUME decided (R163). -/
def resumeAccount (slot : Nat) (s : State) : State × Verdict :=
  if 255 < slot then refuseWith .badIndex s
  else if !(s.account slot).loaded ∨ (s.account slot).state ≠ .suspended then refuseWith .wrongState s
  else
    let a := s.account slot
    let a' := { a with state := derivedState a.mode a.allowance }
    (s.onAccount slot fun _ => a', .done (.account a'))

/-- RESUME (R163). -/
def execResume (h : MgmtHead) (slot : Nat) (s : State) : Host.Outcome State Fault Refusal :=
  live s (takeRequest (.resume h slot) h 16 (resumeAccount slot))

end Sys2Proof.Machine
end

