-- ==== Sys2Proof/Machine/Orders.lean ====
section
/-! DEFINITION. Pending orders and the line order queue (R14, R15, R76, R77), and what a change of a record's
state asks of the Flow Engine, the Grant Scheduler and the Burst Receiver (R19, R48, R67). -/

namespace Sys2Proof.Machine

/-! ## The line order queue -/

/-- The order placed for a drop record, with its field values (R77). -/
def dropOrder (kind : OrderKind) (d : Nat) (r : DropRecord) : LineOrder :=
  match kind with
  | .assign => ⟨.assign, 0, r.tag, d, .drop d r.serial⟩
  | .equalise => ⟨.equalise, d, 0, r.eqd, .drop d r.serial⟩
  | k => ⟨k, d, 0, 0, .drop d r.serial⟩

/-- The DECLINE placed for a reply entry, with its field values (R77). -/
def declineOrder (hold : Nat) (e : ReplyEntry) : LineOrder := ⟨.decline, 0, e.tag, hold, .reply e.serial⟩

/-- The queue has a free place (R15). -/
def Feeder.orderRoom (x : Feeder) : Bool := decide (x.orderQueue.length < Config.orderPlaces)

/-- A drop's HELD order is placed, if there is room (R77). -/
def placeDropOrder (x : Feeder) (d : Nat) : Feeder :=
  let r := x.drop d
  match r.pending with
  | some ⟨kind, .held⟩ =>
    if x.orderRoom then
      { x.setDrop d { r with pending := some ⟨kind, .queued⟩ } with
        orderQueue := x.orderQueue ++ [dropOrder kind d r] }
    else x
  | _ => x

/-- The HELD DECLINEs are placed in the entries' arrival order, while there is room (R77). -/
def placeDeclines (hold : Nat) : List ReplyEntry → List LineOrder → List ReplyEntry × List LineOrder
  | [], q => ([], q)
  | e :: rest, q =>
    match e.decline with
    | some (reason, .held) =>
      if q.length < Config.orderPlaces then
        let r := placeDeclines hold rest (q ++ [declineOrder hold e])
        ({ e with decline := some (reason, .queued) } :: r.1, r.2)
      else
        let r := placeDeclines hold rest q
        (e :: r.1, r.2)
    | _ =>
      let r := placeDeclines hold rest q
      (e :: r.1, r.2)

/-- One filling of the line order queue (R77): drop orders in ascending index, then DECLINEs. -/
def Feeder.fillOrders (x : Feeder) : Feeder :=
  let x := dropIndices.foldl placeDropOrder x
  let r := placeDeclines x.settings.declineHold x.replies x.orderQueue
  { x with replies := r.1, orderQueue := r.2 }

/-- A filling (R77). -/
def fillOrders (f : FeederId) (s : State) : State := s.onFeeder f Feeder.fillOrders

/-- An order for a drop is created (R76): it enters the pending order, or waits as the following order. -/
def createOrder (f : FeederId) (d : Nat) (kind : OrderKind) (s : State) : State :=
  if (s.drop f d).pending.isNone then
    fillOrders f (s.onDrop f d fun r => { r with pending := some ⟨kind, .held⟩ })
  else s.onDrop f d fun r => { r with following := some kind }

/-! ## What a record's change asks of other blocks -/

/-- One lane's partial frame is discarded and counted by `count` (R65, R67, R69). -/
def discardPartial (count : UpstreamCounters → UpstreamCounters) (d lane : Nat) (x : Feeder) : Feeder :=
  if (x.partialFrame d lane).isSome then { x.setPartial d lane none with upCount := count x.upCount } else x

/-- The Flow Engine is told that a record has left ACTIVE, DOZING or SILENT (R67): its four slots are emptied. -/
def leaveShining (f : FeederId) (d : Nat) (s : State) : State :=
  s.onFeeder f fun x => laneNumbers.foldl
    (fun x l => discardPartial (fun c => { c with lostToState := c.lostToState + 1 }) d l x) x

/-- The four lane records of an index are reset (R19). -/
def resetLanes (f : FeederId) (d : Nat) (s : State) : State :=
  s.onFeeder f fun x => laneNumbers.foldl (fun x l => x.setLane d l LaneRecord.zero) x

/-- The resume mark of an index becomes WAITING (R48). -/
def awaitResume (f : FeederId) (d : Nat) (s : State) : State := s.onFeeder f fun x => x.setMark d (some .waiting)

end Sys2Proof.Machine
end

