-- ==== Sys2Proof/Machine/Isolation.lean ====
section
/-! DEFINITION. The feeder rogue state, strikes and isolation (R118, R125, R127, R129 to R139). -/

namespace Sys2Proof.Machine

/-! ## The Light Monitor's requests of the Enrolment Controller (R118) -/

/-- Darken request (R118). -/
def isolationDarken (f : FeederId) (s : State) (d : Nat) : State :=
  let r := s.drop f d
  if r.state.shining then
    createOrder f d .darken <| leaveShining f d <| s.onDrop f d fun r =>
      { r with state := .darkened, resume := some r.state, cause := some .isolation }
  else s

/-- The record of a relit drop: its resume state, with the idle count at 0 where that is ACTIVE (R110, R117, R118). -/
def DropRecord.relit (r : DropRecord) : DropRecord :=
  let st := r.resume.getD .active
  { r with state := st, resume := none, cause := none, idle := if st = .active then 0 else r.idle }

/-- The record is DARKENED with cause ISOLATION (R118). -/
def DropRecord.isolated (r : DropRecord) : Bool := decide (r.state = .darkened) && decide (r.cause = some .isolation)

/-- Relight request (R118). -/
def isolationRelight (f : FeederId) (s : State) (d : Nat) : State :=
  if (s.drop f d).isolated then awaitResume f d <| createOrder f d .relight <| s.onDrop f d DropRecord.relit
  else s

/-- Quarantine request (R118). -/
def isolationQuarantine (f : FeederId) (s : State) (d : Nat) : State :=
  if (s.drop f d).isolated then
    createOrder f d .disable <| s.onDrop f d fun r =>
      { r with state := .quarantined, resume := none, cause := none }
  else s

/-! ## The course of an isolation -/

/-- The isolation record changed. -/
def onIsolation (f : FeederId) (g : Isolation → Isolation) (s : State) : State :=
  s.onFeeder f fun x => { x with isolation := g x.isolation }

/-- The isolation ends (R139). -/
def finishIsolation (f : FeederId) (outcome : IsolationEnding) (s : State) : State :=
  let step := (s.feeder f).isolation.step
  match outcome with
  | .quarantine =>
    s.onFeeder f fun x => { x with rogue := .clear, isolation := Isolation.none, recent := [], quiet := 0 }
  | .unattributed =>
    notify (.rogueUnattributed f step) (s.onFeeder f fun x =>
      { x with rogue := .unattributed, isolation := Isolation.none, recent := [], quiet := 0,
               lightCount := { x.lightCount with unattributed := x.lightCount.unattributed + 1 } })

/-- The isolation reaches its end: at once, or held until the departed records are EMPTY (R139). -/
def reachEnd (f : FeederId) (outcome : IsolationEnding) (s : State) : State :=
  if (s.feeder f).isolation.departed.isEmpty then finishIsolation f outcome s
  else onIsolation f (fun i => { i with ending := some outcome }) s

/-- The drops darkened in a step: the first half of two or more suspects, or the one (R134, R137). -/
def testHalf (suspects : List Nat) : List Nat := suspects.take (ceilDiv suspects.length 2)

/-- A step begins with the suspect set as it stands: none ends the isolation (R131, log 22), one is the confirm
step (R137), two or more are halved (R134). -/
def beginStep (f : FeederId) (s : State) : State :=
  let suspects := (s.feeder f).isolation.suspects
  if suspects.isEmpty then reachEnd f .unattributed s
  else
    let t := testHalf suspects
    t.foldl (isolationDarken f) <| onIsolation f (fun i =>
      { i with test := t, awaited := t, phase := some .darkening, confirmStep := decide (suspects.length = 1) }) s

/-- The step number grows, the test half empties, and the next step begins (R136). The last darken cycle, observe start
and observe end keep the numbers of the step before until this step sets them (R133 has them of the step and gives them no
value before that: DESIGN CHOICE, log 66). -/
def nextStep (f : FeederId) (s : State) : State :=
  beginStep f (onIsolation f (fun i => { i with step := i.step + 1, test := [], awaited := [] }) s)

/-- The observation of a step begins (R135). -/
def beginObservation (f : FeederId) (s : State) : State :=
  let n := (s.feeder f).settings.observe
  onIsolation f (fun i =>
    { i with
      observeStart := i.lastDarken + 1
      observeEnd := i.lastDarken + 1 + BitVec.ofNat 32 n - 1
      faultSeen := false
      phase := some (if i.confirmStep then .confirming else .observing) }) s

/-- An isolation begins (R131). -/
def beginIsolation (f : FeederId) (kind : IsolationKind) (suspects : List Nat) (s : State) : State :=
  beginStep f <| s.onFeeder f fun x =>
    { x with
      rogue := .isolating
      isolation := { Isolation.none with kind := some kind, suspects := suspects, step := 1 }
      lightCount := { x.lightCount with isolations := x.lightCount.isolations + 1 } }

/-- Every drop of the feeder in ACTIVE, DOZING or SILENT (R131). -/
def Feeder.shiningDrops (x : Feeder) : List Nat := dropIndices.filter fun d => (x.drop d).state.shining

/-- The automatic isolation test of a cycle start (R131). -/
def autoIsolate (f : FeederId) (s : State) : State :=
  let x := s.feeder f
  if x.running ∧ x.rogue = .alert ∧ x.settings.autoIsolate then beginIsolation f .full x.shiningDrops s else s

/-- The end of a halving step's observation (R136). -/
def endObservation (f : FeederId) (s : State) : State :=
  let i := (s.feeder f).isolation
  let suspects := if i.faultSeen then i.suspects.filter (fun d => decide (d ∉ i.test)) else i.test
  let relit := i.test.filter fun d => (s.drop f d).isolated
  let s := i.test.foldl (isolationRelight f) <| onIsolation f (fun i =>
    { i with suspects := suspects, awaited := relit, phase := some .relighting }) s
  if relit.isEmpty then nextStep f s else s

/-- The end of the confirm step's observation (R137). A drop that it quarantines is no longer a suspect (R138); that it
stays the test half is read from the worked table of 8.9 (DEDUCED, log 23). -/
def endConfirm (f : FeederId) (s : State) : State :=
  let i := (s.feeder f).isolation
  match i.suspects with
  | [] => s
  | d :: _ =>
    if i.faultSeen then reachEnd f .unattributed (isolationRelight f s d)
    else
      let r := s.drop f d
      notify (.rogueFound f d r.tag r.account i.step) <|
        (isolationQuarantine f (onIsolation f (fun i =>
          { i with suspects := i.suspects.filter (fun k => decide (k ≠ d)), awaited := insertAsc d i.awaited }) s) d).onFeeder f
          fun x => { x with lightCount := { x.lightCount with quarantines := x.lightCount.quarantines + 1 } }

/-- Cycle `n` lies in the observation under way (R135). -/
def Isolation.observes (i : Isolation) (n : CycleNo) : Bool :=
  (decide (i.phase = some .observing) || decide (i.phase = some .confirming)) && i.ending.isNone &&
  atOrBefore i.observeStart n && atOrBefore n i.observeEnd

/-- A cycle judged while the feeder is ISOLATING (R135 to R137). -/
def observeCycle (f : FeederId) (n : CycleNo) (bore : Bool) (s : State) : State :=
  let i := (s.feeder f).isolation
  if i.observes n then
    let s := onIsolation f (fun i => { i with faultSeen := i.faultSeen || bore }) s
    if n = i.observeEnd then
      if i.phase = some .confirming then endConfirm f s else endObservation f s
    else s
  else s

/-- A transmission report reaches the Light Monitor (R134, R136, R137). While an ending is held (R139) no report moves the
step: one of an awaited RELIGHT still takes its drop from the awaited set, and the set's emptying begins no step (R136 and
R139 do not say so of a held ending: DESIGN CHOICE, log 63). -/
def isolationReport (f : FeederId) (d : Nat) (kind : OrderKind) (m : CycleNo) (s : State) : State :=
  let i := (s.feeder f).isolation
  let rest := i.awaited.filter fun x => decide (x ≠ d)
  if d ∉ i.awaited then s
  else
    match kind, i.phase, i.ending with
    | .darken, some .darkening, none =>
      let s := onIsolation f (fun i => { i with awaited := rest, lastDarken := m }) s
      if rest.isEmpty then beginObservation f s else s
    | .relight, some .relighting, none =>
      let s := onIsolation f (fun i => { i with awaited := rest }) s
      if rest.isEmpty then nextStep f s else s
    | .relight, some .relighting, some _ => onIsolation f (fun i => { i with awaited := rest }) s
    | .disable, some .confirming, none =>
      reachEnd f .quarantine (onIsolation f (fun i => { i with awaited := rest }) s)
    | _, _, _ => s

/-- A suspect has left (R138): the step goes on as its phase requires. -/
def afterDeparture (f : FeederId) (s : State) : State :=
  let i := (s.feeder f).isolation
  if i.suspects.isEmpty then reachEnd f .unattributed s
  else match i.phase with
    | some .darkening =>
      if i.test.isEmpty then nextStep f s else if i.awaited.isEmpty then beginObservation f s else s
    | some .observing => if i.test.isEmpty then nextStep f s else s
    | some .relighting => if i.awaited.isEmpty then nextStep f s else s
    | _ => s

/-- The Light Monitor is told that a drop enters LEAVING or that a record becomes EMPTY (R138, R139). `dark`: it
was DARKENED with cause ISOLATION as it entered LEAVING; `gone`: its record is EMPTY. -/
def departure (f : FeederId) (d : Nat) (dark gone : Bool) (s : State) : State :=
  let i := (s.feeder f).isolation
  if i.kind.isNone then s
  else
    let without (l : List Nat) : List Nat := l.filter fun x => decide (x ≠ d)
    let departed := if gone then without i.departed else if dark then insertAsc d i.departed else i.departed
    let suspect : Bool := decide (d ∈ i.suspects)
    let s := onIsolation f (fun i =>
      if suspect then
        { i with departed := departed, suspects := without i.suspects, test := without i.test,
                 awaited := without i.awaited }
      else { i with departed := departed }) s
    match i.ending with
    | some outcome => if departed.isEmpty then finishIsolation f outcome s else s
    | none => if suspect then afterDeparture f s else s

/-! ## Strikes (R124, R125, R127) -/

/-- Strikes are scored to a drop (R125, R127). A LEAVING record keeps its strikes as they stood (R113, R125): read as the
exception to R125's "any non-EMPTY state" (DEDUCED, log 52). -/
def scoreStrikes (f : FeederId) (d strikes : Nat) (s : State) : State :=
  let x := s.feeder f
  let r := x.drop d
  if !x.running ∨ r.state = .empty ∨ r.state = .leaving then s
  else
    let count := min (r.strikes + strikes) Config.maxStrikes
    let s := s.onDrop f d fun r => { r with strikes := count }
    if r.strikes < x.settings.strikeLimit ∧ x.settings.strikeLimit ≤ count then
      let s := s.onFeeder f fun x =>
        { x with lightCount := { x.lightCount with strikeLimits := x.lightCount.strikeLimits + 1 } }
      if (x.rogue = .clear ∨ x.rogue = .watch) ∧ x.settings.autoIsolate ∧ r.state.shining then
        beginIsolation f .targeted [d] s
      else notify (.rogueAlert f (.strikes d count)) s
    else s

/-- A GARBLE is taken (R124, R125). -/
def takeGarble (f : FeederId) (d : Nat) (s : State) : State :=
  scoreStrikes f d Config.garbleStrikes (s.onFeeder f fun x =>
    { x with lightCount := { x.lightCount with garble := x.lightCount.garble + 1 } })

/-- A MISLABEL is taken (R124, R125): the index named is scored if it is 1 to 64. -/
def takeMislabel (f : FeederId) (named : Nat) (s : State) : State :=
  let s := s.onFeeder f fun x =>
    { x with lightCount := { x.lightCount with mislabel := x.lightCount.mislabel + 1 } }
  if within 1 64 named then scoreStrikes f named Config.mislabelStrikes s else s

/-- A record's strikes after a decay (R126). A LEAVING record keeps them as they stood (R113), read as the exception to
R126's "every nonzero strike count" (DEDUCED, log 52). -/
def DropRecord.decayed (r : DropRecord) : DropRecord :=
  if r.state = .leaving then r else { r with strikes := r.strikes - 1 }

/-- The strike decay, if one is due (R126). -/
def strikeDecay (f : FeederId) (s : State) : State :=
  s.onFeeder f fun x =>
    if x.decayDue then
      { x with decay := 0, decayDue := false,
               drops := x.drops.update DropRecord.empty fun _ r => r.decayed }
    else x

/-- STRIKE_DECAY (R126). -/
def execStrikeDecay (f : FeederId) (s : State) : Host.Outcome State Fault Refusal := live s (strikeDecay f)

/-- The decay count grows at a cycle start of a RUNNING feeder; where it would reach 4,000 the decay is due (R126). -/
def countDecay (f : FeederId) (s : State) : State :=
  s.onFeeder f fun x =>
    if !x.running then x
    else if x.decay + 1 < Config.longCycles then { x with decay := x.decay + 1 }
    else { x with decayDue := true }

/-! ## The rogue state (R129, R130) -/

/-- The recent list without the entries 64 or more cycles before `n` (R128, R129). -/
def keepRecent (n : CycleNo) (l : List CycleNo) : List CycleNo :=
  l.filter fun m => decide (cyclesFrom m n < Config.watchCycles)

/-- The symptom record and the rogue state after the judgement of cycle `n`, outside an isolation (R129). A quiet count that
stands at its end of 4,000 already and stays there reaches 4,000 (R129 does not say: DESIGN CHOICE, log 57). -/
def updateRogue (f : FeederId) (n : CycleNo) (bore : Bool) (s : State) : State :=
  let x := s.feeder f
  if bore then
    let recent := keepRecent n x.recent ++ [n]
    let state := if x.rogue = .clear then RogueState.watch else x.rogue
    if state = .watch ∧ x.settings.alertLimit ≤ recent.length then
      notify (.rogueAlert f .symptoms) (s.onFeeder f fun x => { x with quiet := 0, recent := recent, rogue := .alert })
    else s.onFeeder f fun x => { x with quiet := 0, recent := recent, rogue := state }
  else
    let quiet := min (x.quiet + 1) Config.longCycles
    let recent := keepRecent n x.recent
    if x.rogue = .watch ∧ Config.watchCycles ≤ quiet then
      s.onFeeder f fun x => { x with quiet := quiet, recent := [], rogue := .clear }
    else if (x.rogue = .alert ∨ x.rogue = .unattributed) ∧ Config.longCycles ≤ quiet then
      notify (.rogueCleared f) (s.onFeeder f fun x => { x with quiet := quiet, recent := [], rogue := .clear })
    else s.onFeeder f fun x => { x with quiet := quiet, recent := recent }

/-- ISOLATE decided (R132). -/
def isolateDecided (feeder : Nat) (index : Option Nat) (s : State) : State × Verdict :=
  match FeederId.ofNat? feeder with
  | none => refuseWith .badIndex s
  | some f =>
    let x := s.feeder f
    if !index.all (within 1 64) then refuseWith .badIndex s
    else if !x.running then refuseWith .wrongState s
    else if x.rogue = .isolating then refuseWith .busy s
    else match index with
      | some d =>
        if (x.drop d).state.shining then
          let s' := beginIsolation f .targeted [d] s
          (s', .done (.isolation (s'.feeder f).isolation))
        else refuseWith .wrongState s
      | none =>
        let s' := beginIsolation f .full x.shiningDrops s
        (s', .done (.isolation (s'.feeder f).isolation))

/-- ISOLATE (R132). -/
def execIsolate (h : MgmtHead) (feeder : Nat) (index : Option Nat) (s : State) : Host.Outcome State Fault Refusal :=
  live s (takeRequest (.isolate h feeder index) h 13 (isolateDecided feeder index))

end Sys2Proof.Machine
end

