-- ==== Sys2Proof/Machine/DropLife.lean ====
section
/-! DEFINITION. A drop record's life after its creation: leaving and freeing, the effects of its windows'
resolutions, dozing, ranging and drift correction, the transmission reports of its orders, and the host's REMOVE,
DARKEN, RELIGHT and RELEASE (R75, R78, R98 to R119). -/

namespace Sys2Proof.Machine

/-! ## Leaving and freeing -/

/-- A record enters LEAVING (R113). -/
def enterLeaving (f : FeederId) (d : Nat) (reason : RemoveReason) (s : State) : State :=
  let r := s.drop f d
  let s := s.onDrop f d fun r =>
    { r with state := .leaving, leave := some reason, resume := none, cause := none, phase := none, inFlight := none }
  let s := createOrder f d .remove s
  let s := if r.state.shining then leaveShining f d s else s
  departure f d r.isolated false s

/-- A record is freed (R75). R75 has all of it done as one step and its list is not numbered: the record is EMPTY before
the Light Monitor is told, and the Light Monitor is told before DROP_REMOVED is asked for, so that where the freeing ends
an isolation UNATTRIBUTED its ROGUE_UNATTRIBUTED is asked for first (DESIGN CHOICE, log 69). -/
def freeRecord (f : FeederId) (d : Nat) (reason : RemoveReason) (s : State) : State :=
  let r := s.drop f d
  let s := resetLanes f d (unbindAccount f d s)
  let s := if r.state.shining then leaveShining f d s else s
  let s := s.onFeeder f fun x => (x.setDrop d DropRecord.empty).setMark d none
  notify (.dropRemoved f d r.tag r.account reason) (departure f d false true s)

/-- A LEAVING record is ready to be freed (R115). -/
def Feeder.readyToFree (x : Feeder) (d : Nat) : Bool :=
  let r := x.drop d
  decide (r.state = .leaving) && r.lastSent.any (fun o => decide (o.1 = .remove)) && !x.ringHolds d

/-- The test of R115 for one record. -/
def leavingTest (f : FeederId) (s : State) (d : Nat) : State :=
  if (s.feeder f).readyToFree d then freeRecord f d ((s.drop f d).leave.getD .hostRemove) s else s

/-- The test of R115 for every record of the feeder, as a completion brings it. Where one completion makes several
records ready, the spec gives no order among them (R50, R115): they are freed, and their notices asked for, in ascending
index (DESIGN CHOICE, log 49). -/
def leavingTests (f : FeederId) (s : State) : State := dropIndices.foldl (leavingTest f) s

/-! ## Dozing (R110) -/

/-- A record's idle count at a cycle start; a count that meets IDLE_LIMIT makes the doze test due. -/
def DropRecord.countIdle (limit : Nat) (r : DropRecord) : DropRecord :=
  if r.state = .active then
    let idle := min (r.idle + 1) Config.maxIdle
    { r with idle := idle, dozeDue := decide (limit ≤ idle) }
  else r

/-- The idle counts of a RUNNING feeder's ACTIVE drops grow (R110, first part). -/
def countIdle (f : FeederId) (s : State) : State :=
  s.onFeeder f fun x =>
    if x.running then
      { x with drops := x.drops.update DropRecord.empty fun _ r => r.countIdle x.settings.idleLimit }
    else x

/-- An enabled lane's own profile is FIXED (R110). -/
def State.hasFixedLane (s : State) (r : DropRecord) : Bool :=
  r.enabledLanes.any fun l => decide ((s.profile (r.profiles.get l)).cls = .fixed)

/-- The doze test of one drop, if it is due (R110, second part). -/
def dozeTest (f : FeederId) (s : State) (d : Nat) : State :=
  let r := s.drop f d
  if !r.dozeDue then s
  else if (s.feeder f).running ∧ r.state = .active ∧ (s.feeder f).settings.idleLimit ≤ r.idle ∧ !s.hasFixedLane r then
    s.onDrop f d fun r => { r with state := .dozing, dozeDue := false }
  else s.onDrop f d fun r => { r with dozeDue := false }

/-- The doze tests due on a feeder. -/
def dozeTests (f : FeederId) (s : State) : State := dropIndices.foldl (dozeTest f) s

/-- DOZE (R110). -/
def execDoze (f : FeederId) (d : Nat) (s : State) : Host.Outcome State Fault Refusal := live s fun s => dozeTest f s d

/-! ## Resolutions of BURST windows (R104, R105, R108 to R112) -/

/-- A resolution of a window of plan `n` is stale (R105). -/
def DropRecord.stale (r : DropRecord) (n : CycleNo) : Bool :=
  r.correctionPending && (match r.equaliseCycle with
    | none => true
    | some m => atOrBefore n m)

/-- The record with a correction ordered (R100, R104, R105). -/
def DropRecord.ordered (r : DropRecord) (rtd eqd : Nat) : DropRecord :=
  { r with rtd := rtd, eqd := eqd, correctionPending := true, equaliseCycle := none }

/-- Drift correction of an arrival offset (R104). -/
def correctDrift (f : FeederId) (d : Nat) (offset : Int) (s : State) : State :=
  if -32 ≤ offset ∧ offset ≤ 32 then s
  else
    let td := (s.feeder f).settings.td
    let eqd : Int := (s.drop f d).eqd - offset
    if eqd < 0 then enterLeaving f d .outOfReach s
    else if (td : Int) < eqd then createOrder f d .equalise (s.onDrop f d fun r => r.ordered 0 td)
    else createOrder f d .equalise (s.onDrop f d fun r => r.ordered (td - eqd.toNat) eqd.toNat)

/-- A received burst moves the counts of a drop (R108, R111). -/
def DropRecord.heard (r : DropRecord) (busy : Bool) : DropRecord :=
  match r.state with
  | .active => { r with miss := 0, idle := if busy then 0 else r.idle }
  | .dozing => if busy then { r with miss := 0, idle := 0, state := .active } else { r with miss := 0 }
  | .silent => { r with state := .active, miss := 0, rouse := 0, idle := 0 }
  | _ => r

/-- A missed window of an ACTIVE or DOZING drop, neither frozen nor stale (R108, R111). -/
def DropRecord.missed (r : DropRecord) (limit : Nat) : DropRecord :=
  if limit ≤ r.miss + 1 then { r with miss := r.miss + 1, state := .silent, rouse := 0 }
  else { r with miss := r.miss + 1 }

/-- A resolution of plan `n` names the drop's latest ROUSE window (R112). -/
def DropRecord.latestRouse (r : DropRecord) (n : CycleNo) : Bool :=
  decide (r.state = .silent) && decide (1 ≤ r.rouse) && decide (n = r.lastPlanned)

/-- The latest ROUSE window failed (R112). -/
def rouseFailed (f : FeederId) (d : Nat) (uncounted : Bool) (s : State) : State :=
  if uncounted then s.onDrop f d fun r => { r with rouse := r.rouse - 1 }
  else if (s.feeder f).settings.rouseLimit ≤ (s.drop f d).rouse then enterLeaving f d .lost s
  else s

/-- A window of a shining drop came out MISSING, GARBLED or MISLABELLED (R108, R111, R112). -/
def burstFailed (f : FeederId) (n : CycleNo) (d : Nat) (missing stale : Bool) (s : State) : State :=
  let r := s.drop f d
  let uncounted := (s.feeder f).frozen || stale
  if r.state = .silent then
    if r.latestRouse n then rouseFailed f d uncounted s else s
  else if missing ∧ !uncounted then
    s.onDrop f d fun r => r.missed (s.feeder f).settings.missLimit
  else s

/-- The Enrolment Controller takes the resolution of a BURST window that was excused (R112). -/
def burstExcused (f : FeederId) (n : CycleNo) (d : Nat) (flag : Option BurstFlag) (s : State) : State :=
  let r := s.drop f d
  if flag = some .rouse ∧ (r.state = .darkened ∨ r.state = .silent) ∧ n = r.lastPlanned then
    s.onDrop f d fun r => { r with rouse := r.rouse - 1 }
  else s

/-- The record's flag is cleared by the first resolution that is not stale (R105). -/
def DropRecord.seen (r : DropRecord) (n : CycleNo) : DropRecord :=
  if r.correctionPending && !r.stale n then { r with correctionPending := false, equaliseCycle := none } else r

/-- The Enrolment Controller takes the resolution of a BURST window of plan `n`, start word `w`, that was not
excused: drift first, then the counts (R104, R105, R108 to R112). -/
def burstTaken (f : FeederId) (n : CycleNo) (d w : Nat) (res : Resolution) (reading : Option Reading) (s : State) : State :=
  if !(s.drop f d).state.shining then s
  else
    let stale := (s.drop f d).stale n
    let s := s.onDrop f d fun r => r.seen n
    match res, reading with
    | .received, some g =>
      let s := if stale then s else correctDrift f d (g.arrival - 32 * w) s
      s.onDrop f d fun r => r.heard (g.carriedData || !g.allZero)
    | .missing, _ => burstFailed f n d true stale s
    | .garbled, _ => burstFailed f n d false stale s
    | .mislabelled, _ => burstFailed f n d false stale s
    | _, _ => s

/-! ## Resolutions of RANGING windows (R98, R100, R101) -/

/-- A range reply taken (R100). -/
def rangeReceived (f : FeederId) (d : Nat) (w : RangingWindow) (b : Int) (s : State) : State :=
  let td := (s.feeder f).settings.td
  let rtd : Int := b + td - 32 * w.delay
  if (td : Int) < rtd then enterLeaving f d .outOfReach s
  else
    createOrder f d .equalise <| s.onDrop f d fun r =>
      { r.ordered rtd.toNat (td - rtd.toNat) with phase := some .equalising }

/-- A ranging try failed (R101). -/
def rangeFailed (f : FeederId) (d : Nat) (s : State) : State :=
  if (s.feeder f).frozen then s
  else
    let s := s.onDrop f d fun r => { r with rangeTries := r.rangeTries + 1 }
    if Config.rangeTries ≤ (s.drop f d).rangeTries then enterLeaving f d .rangeFail s else s

/-- The Enrolment Controller takes the resolution of a RANGING window of a RANGING drop (R98, R100, R101). -/
def rangingTaken (f : FeederId) (d : Nat) (res : Resolution) (reading : Option Reading) (s : State) : State :=
  let r := s.drop f d
  if r.state ≠ .ranging then s
  else
    let s := s.onDrop f d fun r => { r with inFlight := none }
    match res, reading, r.inFlight with
    | .received, some g, some w => rangeReceived f d w g.arrival s
    | .missing, _, _ => rangeFailed f d s
    | .garbled, _, _ => rangeFailed f d s
    | .mislabelled, _, _ => rangeFailed f d s
    | _, _, _ => s

/-! ## Transmission reports (R78, R102) -/

/-- The record after its pending order was reported transmitted in cycle `m` (R78). -/
def DropRecord.reported (r : DropRecord) (kind : OrderKind) (m : CycleNo) : DropRecord :=
  { r with pending := r.following.map fun k => ⟨k, .held⟩, following := none, lastSent := some (kind, m) }

/-- The mark of R48 on the report of a RELIGHT or ENABLE. -/
def markTransmitted (f : FeederId) (d : Nat) (m : CycleNo) (s : State) : State :=
  s.onFeeder f fun x => if x.mark d = some .waiting then x.setMark d (some (.cycle m)) else x

/-- An EQUALISE has gone out in cycle `m` (R78, R102, R105). -/
def equaliseReported (f : FeederId) (d : Nat) (m : CycleNo) (s : State) : State :=
  let s := s.onDrop f d fun r => if r.correctionPending then { r with equaliseCycle := some m } else r
  let r := s.drop f d
  if r.state = .ranging ∧ r.phase = some .equalising then
    notify (.dropEnrolled f d r.tag r.account r.rtd r.eqd) <|
      s.onDrop f d fun r => { r with state := .active, phase := none, idle := 0 }
  else s

/-- A record's transmission report handed on by its kind (R78). -/
def reportHandedOn (f : FeederId) (d : Nat) (kind : OrderKind) (m : CycleNo) (s : State) : State :=
  match kind with
  | .assign =>
    s.onDrop f d fun r =>
      if r.state = .ranging ∧ r.phase = some .awaitingAssign then { r with phase := some .measuring } else r
  | .equalise => equaliseReported f d m s
  | .darken => if (s.drop f d).isolated then isolationReport f d .darken m s else s
  | .disable => isolationReport f d .disable m s
  | .relight => isolationReport f d .relight m (markTransmitted f d m s)
  | .enable => isolationReport f d .enable m (markTransmitted f d m s)
  | .remove => leavingTest f s d
  | .decline => s

/-- The framer's report that an order was transmitted in cycle `m` (R78). -/
def orderReport (f : FeederId) (m : CycleNo) (s : State) (o : LineOrder) : State :=
  match o.origin with
  | .drop d serial =>
    let r := s.drop f d
    if r.state = .empty ∨ r.serial ≠ serial then s
    else reportHandedOn f d o.kind m (fillOrders f (s.onDrop f d fun r => r.reported o.kind m))
  | .reply serial =>
    s.onFeeder f fun x => { x with replies := x.replies.filter fun e => decide (e.serial ≠ serial) }

/-! ## Host requests -/

/-- REMOVE decided (R114). -/
def removeDecided (feeder index : Nat) (s : State) : State × Verdict :=
  match feederAndIndex feeder index with
  | none => refuseWith .badIndex s
  | some (f, d) =>
    let r := s.drop f d
    if r.state = .empty ∨ r.state = .leaving then refuseWith .wrongState s
    else if r.pending.isSome then refuseWith .busy s
    else
      let s' := enterLeaving f d .hostRemove s
      (s', .done (.drop (s'.drop f d)))

/-- REMOVE (R114). -/
def execRemove (h : MgmtHead) (feeder index : Nat) (s : State) : Host.Outcome State Fault Refusal :=
  live s (takeRequest (.remove h feeder index) h 9 (removeDecided feeder index))

/-- DARKEN decided (R116). -/
def darkenDecided (feeder index : Nat) (s : State) : State × Verdict :=
  match feederAndIndex feeder index with
  | none => refuseWith .badIndex s
  | some (f, d) =>
    let r := s.drop f d
    if !r.state.shining then refuseWith .wrongState s
    else if (s.feeder f).rogue = .isolating then refuseWith .busy s
    else if r.pending.isSome then refuseWith .busy s
    else
      let s' := leaveShining f d <| createOrder f d .darken <| s.onDrop f d fun r =>
        { r with resume := some r.state, cause := some .host, state := .darkened }
      (s', .done (.drop (s'.drop f d)))

/-- DARKEN (R116). -/
def execDarken (h : MgmtHead) (feeder index : Nat) (s : State) : Host.Outcome State Fault Refusal :=
  live s (takeRequest (.darken h feeder index) h 10 (darkenDecided feeder index))

/-- RELIGHT decided (R117). -/
def relightDecided (feeder index : Nat) (s : State) : State × Verdict :=
  match feederAndIndex feeder index with
  | none => refuseWith .badIndex s
  | some (f, d) =>
    let r := s.drop f d
    if r.state ≠ .darkened ∨ r.cause = some .isolation then refuseWith .wrongState s
    else if (s.feeder f).rogue = .isolating then refuseWith .busy s
    else if r.pending.isSome then refuseWith .busy s
    else
      let s' := awaitResume f d (createOrder f d .relight (s.onDrop f d DropRecord.relit))
      (s', .done (.drop (s'.drop f d)))

/-- RELIGHT (R117). -/
def execRelight (h : MgmtHead) (feeder index : Nat) (s : State) : Host.Outcome State Fault Refusal :=
  live s (takeRequest (.relight h feeder index) h 11 (relightDecided feeder index))

/-- RELEASE decided (R119). -/
def releaseDecided (feeder index : Nat) (s : State) : State × Verdict :=
  match feederAndIndex feeder index with
  | none => refuseWith .badIndex s
  | some (f, d) =>
    let r := s.drop f d
    if r.state ≠ .quarantined then refuseWith .wrongState s
    else if r.pending.isSome then refuseWith .busy s
    else
      let s' := awaitResume f d <| createOrder f d .enable <| s.onDrop f d fun r =>
        { r with state := .active, miss := 0, rouse := 0, idle := 0, strikes := 0 }
      (s', .done (.drop (s'.drop f d)))

/-- RELEASE (R119). -/
def execRelease (h : MgmtHead) (feeder index : Nat) (s : State) : Host.Outcome State Fault Refusal :=
  live s (takeRequest (.release h feeder index) h 12 (releaseDecided feeder index))

end Sys2Proof.Machine
end

