-- ==== Sys2Proof/Machine/Light.lean ====
section
/-! DEFINITION. The light detector, STUCK, the judgement of a cycle's light record, and the passing of ring slots
through their states (R44, R48, R81, R115, R121 to R123, R130). -/

namespace Sys2Proof.Machine

/-! ## The detector (R121, R123) -/

/-- The light record of a held plan changed. -/
def Feeder.onLight (x : Feeder) (n : CycleNo) (g : LightRecord → LightRecord) : Feeder :=
  match x.slotOf n with
  | none => x
  | some sl => x.setSlot n (some { sl with light := g sl.light })

/-- The words of a run that lie in the cycle under way. -/
def Detector.clip (t : Detector) (words : Nat) : Nat := if t.inCycle then min words (Config.cycleWords - t.pos) else 0

/-- The detector examines `words` further words of light; where a run comes to FILTER words, those before it count too,
in the cycle before where its record is still kept (R121, R123, log 17). A run under way when FILTER is written is judged
whole by the new FILTER if it has not passed the old one, and stays filtered light if it has (R120 leaves it open:
DESIGN CHOICE, log 53). -/
def Feeder.feedLight (x : Feeder) (words : Nat) : Feeder :=
  let t := x.detector
  let w := t.clip words
  if w = 0 then x
  else
    let raw := t.raw + w
    if t.passed then
      { x with detector := { t with raw := raw, pos := t.pos + w, measured := t.measured + w } }.onLight t.cycle
        fun l => { l with lit := l.lit ++ [(t.pos, w)] }
    else if x.settings.filter ≤ raw then
      let start := t.pos - t.raw
      let before := t.raw - t.pos
      let measured := if t.measured = 0 ∨ 8 ≤ t.dark then raw else t.measured + t.dark + raw
      let x := { x with detector := { t with raw := raw, passed := true, pos := t.pos + w, dark := 0, measured := measured } }
      let x := if before = 0 then x else x.onLight (t.cycle - 1) fun l =>
        { l with lit := l.lit ++ [(Config.cycleWords - before, before)] }
      x.onLight t.cycle fun l => { l with lit := l.lit ++ [(start, t.pos + w - start)] }
    else { x with detector := { t with raw := raw, pos := t.pos + w } }

/-- The detector examines `words` further dark words; 8 end a measured run, 16 clear STUCK (R121, R123). Light shorter than
FILTER counts as dark only once a dark word has ended it: where such light stands at a cycle's last word and brings the
dark run to 16, the flag clears at the first dark word of the next cycle, which bears STUCK too (R121 and R123 do not say
in which cycle it clears: DESIGN CHOICE, log 70). -/
def Feeder.feedDark (x : Feeder) (words : Nat) : Feeder :=
  let t := x.detector
  let w := t.clip words
  if w = 0 then x
  else
    let dark := if t.passed then w else t.dark + t.raw + w
    { x with
      detector := { t with raw := 0, passed := false, pos := t.pos + w, dark := min dark 16,
                           measured := if 8 ≤ dark then 0 else t.measured }
      stuck := if 16 ≤ dark then none else x.stuck }

/-- The length at which a measured run makes STUCK active (R123). -/
def Settings.stuckWords (t : Settings) : Nat := t.stuckLimit * Config.cycleWords

/-- The words examined since the last word of filtered light: no part of the measured run yet (R123). -/
def Detector.tail (t : Detector) : Nat := if t.passed then 0 else t.dark + t.raw

/-- The upstream cycle in which the measured run reached the limit, counted back from the words that the run has lasted
beyond it and the words examined since the run's last (R123, log 19). -/
def Feeder.onsetCycle (x : Feeder) : CycleNo :=
  let back := x.detector.measured - x.settings.stuckWords + x.detector.tail
  if back < x.detector.pos then x.detector.cycle
  else x.detector.cycle - BitVec.ofNat 32 ((back - x.detector.pos) / Config.cycleWords + 1)

/-- The cycles under way or draining, from the onset to the one that the detector is in or has left last, bear STUCK;
a later one bears it if the flag is still active when the detector comes to it (R123). -/
def markStuck (onset present : CycleNo) (o : Option Slot) : Option Slot :=
  o.map fun sl =>
    if sl.state ≠ .waiting ∧ atOrBefore onset sl.cycle ∧ atOrBefore sl.cycle present then
      { sl with light := { sl.light with stuck := true } }
    else sl

/-- `markStuck` over a ring. -/
def markRing (onset present : CycleNo) (r : Quad (Option Slot)) : Quad (Option Slot) :=
  ⟨markStuck onset present r.q0, markStuck onset present r.q1, markStuck onset present r.q2, markStuck onset present r.q3⟩

/-- STUCK becomes active, if a measured run has lasted the limit and the flag is clear (R123, R130). -/
def checkOnset (f : FeederId) (s : State) : State :=
  let x := s.feeder f
  if x.detector.looking ∧ x.stuck.isNone ∧ x.settings.stuckWords ≤ x.detector.measured then
    let c := x.onsetCycle
    let s := s.onFeeder f fun x =>
      { x with
        stuck := some c
        ring := markRing c x.detector.cycle x.ring
        lightCount := { x.lightCount with stuckOnsets := x.lightCount.stuckOnsets + 1 } }
    if x.rogue = .clear ∨ x.rogue = .watch then
      notify (.rogueAlert f .stuck) (s.onFeeder f fun x => { x with rogue := .alert })
    else s
  else s

/-- The detector examines one run (R121, R123). -/
def feedRun (f : FeederId) (s : State) (r : LightRun) : State :=
  if r.light then checkOnset f (s.onFeeder f fun x => x.feedLight r.words)
  else s.onFeeder f fun x => x.feedDark r.words

/-- STUCK_ONSET (R123, R130). -/
def execStuckOnset (f : FeederId) (words : Nat) (s : State) : Host.Outcome State Fault Refusal :=
  live s fun s => feedRun f s ⟨true, words⟩

/-- STUCK_CLEAR (R123). -/
def execStuckClear (f : FeederId) (words : Nat) (s : State) : Host.Outcome State Fault Refusal :=
  live s fun s => feedRun f s ⟨false, words⟩

/-! ## The judgement of a light record (R122) -/

/-- Words `a` to `b - 1` taken out of the runs of a list. -/
def withoutWords (a b : Nat) (l : List (Nat × Nat)) : List (Nat × Nat) :=
  l.flatMap fun r =>
    let stop := r.1 + r.2
    (if r.1 < min a stop then [(r.1, min a stop - r.1)] else []) ++
    (if max r.1 b < stop then [(max r.1 b, stop - max r.1 b)] else [])

/-- The runs hold a word from `a` to `b - 1`. -/
def litWithin (a b : Nat) (l : List (Nat × Nat)) : Bool := l.any fun r => decide (max r.1 a < min (r.1 + r.2) b)

/-- Light that is neither covered nor in the dark slot (R122). -/
def uncovered (dk : Nat) (sl : Slot) : List (Nat × Nat) :=
  let edge := Config.cycleWords - dk
  let l := withoutWords edge Config.cycleWords sl.light.lit
  sl.windows.foldl (fun l w =>
    if w.entry.windowId.isSome then withoutWords (w.entry.start - 8) (min (w.entry.start + w.entry.len + 8) edge) l
    else l) l

/-- An EXCUSED window that held light (R122). -/
def Slot.strayWindow (sl : Slot) (w : Window) : Bool :=
  decide (w.resolution = .excused) &&
  (litWithin w.entry.start (w.entry.start + w.entry.len) sl.light.lit ||
   w.entry.windowId.any fun i => decide (i ∈ sl.light.strays))

/-- The STRAY symptoms of a cycle (R122). -/
def strayCount (dk : Nat) (sl : Slot) : Nat :=
  (if (uncovered dk sl).isEmpty then 0 else 1) + (sl.windows.filter sl.strayWindow).length

/-- The cycle holds light in the dark slot (R122). -/
def darkLight (dk : Nat) (sl : Slot) : Bool := litWithin (Config.cycleWords - dk) Config.cycleWords sl.light.lit

/-- The Light Monitor judges the whole light record of a cycle (R122 to R124, R129, R135). -/
def judgeLight (f : FeederId) (sl : Slot) (s : State) : State :=
  let x := s.feeder f
  let dark := darkLight x.settings.dk sl
  let strays := strayCount x.settings.dk sl
  let stuck := sl.light.stuck || x.stuck.any fun c => atOrBefore c sl.cycle
  let bore := dark || decide (0 < strays) || stuck
  let s := s.onFeeder f fun x =>
    { x with lightCount := { x.lightCount with
        darkLight := x.lightCount.darkLight + (if dark then 1 else 0)
        stray := x.lightCount.stray + BitVec.ofNat 32 strays } }
  if x.rogue = .isolating then observeCycle f sl.cycle bore s else updateRogue f sl.cycle bore s

/-! ## Slots and completions (R44) -/

/-- A mark that holds the freed plan's cycle becomes absent (R48). -/
def Feeder.clearMarks (x : Feeder) (n : CycleNo) : Feeder :=
  { x with marks := x.marks.update none fun _ m => if m = some (.cycle n) then none else m }

/-- The completed plan's element leaves the discovery window list, and its ONCE sweep ends (R81). -/
def Feeder.completeDiscovery (x : Feeder) (n : CycleNo) : Feeder :=
  { x with
    discoveries := x.discoveries.filter fun e => decide (e.cycle ≠ n)
    sweep := if x.sweep.once = .inFlight n then { x.sweep with once := .none } else x.sweep }

/-- A slot becomes FREE, and its completion goes to the Enrolment Controller and then the Light Monitor (R44). -/
def complete (f : FeederId) (sl : Slot) (s : State) : State :=
  let s := s.onFeeder f fun x => ((x.setSlot sl.cycle none).clearMarks sl.cycle).completeDiscovery sl.cycle
  judgeLight f sl (leavingTests f s)

/-- A DRAINING slot whose last window is resolved becomes FREE (R44). -/
def completeIfDrained (f : FeederId) (n : CycleNo) (s : State) : State :=
  match (s.feeder f).slotOf n with
  | some sl => if sl.state = .draining ∧ sl.allResolved then complete f sl s else s
  | none => s

/-- The detector comes to the first word of an upstream cycle; a cycle that begins with STUCK active bears it
(R121, R123). -/
def Feeder.enterCycle (x : Feeder) (n : CycleNo) : Feeder :=
  { x with detector := { x.detector with looking := true, inCycle := true, cycle := n, pos := 0 } }.onLight n
    fun l => { l with stuck := l.stuck || x.stuck.isSome }

/-- Upstream cycle `n` begins: its slot goes from WAITING to RECEIVING (R44). -/
def Feeder.beginCycle (x : Feeder) (n : CycleNo) : Feeder :=
  match x.slotOf n with
  | some sl =>
    if sl.state = .waiting then
      let x := x.setSlot n (some { sl with state := .receiving })
      if x.detector.inCycle then x else x.enterCycle n
    else x
  | none => x

/-- UPSTREAM_CYCLE_BEGIN (R44). -/
def execUpstreamCycleBegin (f : FeederId) (n : CycleNo) (s : State) : Host.Outcome State Fault Refusal :=
  live s fun s => s.onFeeder f fun x => x.beginCycle n

/-- The detector leaves the cycle that ends; one that has begun already is entered (R121). -/
def Feeder.leaveCycle (x : Feeder) : Feeder :=
  let next := x.detector.cycle + 1
  let x := { x with detector := { x.detector with inCycle := false } }
  match x.slotOf next with
  | some sl => if sl.state = .receiving then x.enterCycle next else x
  | none => x

/-- Upstream cycle `n` ends: its slot becomes FREE or DRAINING (R44). The rest of its light is examined first. -/
def endCycle (f : FeederId) (n : CycleNo) (light : List LightRun) (s : State) : State :=
  match (s.feeder f).receiving with
  | none => s
  | some sl =>
    if sl.cycle ≠ n then s
    else
      let s := feedRun f (light.foldl (feedRun f) s) ⟨false, Config.cycleWords⟩
      let s := s.onFeeder f Feeder.leaveCycle
      match (s.feeder f).slotOf n with
      | none => s
      | some sl =>
        if sl.allResolved then complete f sl s
        else s.onFeeder f fun x => x.setSlot n (some { sl with state := .draining })

/-- UPSTREAM_CYCLE_END (R44). -/
def execUpstreamCycleEnd (f : FeederId) (n : CycleNo) (light : List LightRun) (s : State) :
    Host.Outcome State Fault Refusal :=
  live s (endCycle f n light)

end Sys2Proof.Machine
end

