-- ==== Sys2Proof/Machine/Enrolment.lean ====
section
/-! DEFINITION. Discovery replies, admission, assignment, declines, and the requests that own them: ADMISSION and
FEEDER writes, DISCOVERY, ADMIT and REFUSE (R79, R83 to R91, R95). -/

namespace Sys2Proof.Machine

/-! ## Who holds a factory tag -/

/-- The index of the non-EMPTY record that holds a tag (R83). -/
def Feeder.tagIndex (x : Feeder) (tag : FactoryTag) : Option Nat :=
  dropIndices.find? fun d => decide ((x.drop d).state ≠ .empty) && decide ((x.drop d).tag = tag)

/-- An entry of the reply queue holds the tag (R83). -/
def Feeder.tagQueued (x : Feeder) (tag : FactoryTag) : Bool := x.replies.any fun e => decide (e.tag = tag)

/-- Another feeder that holds the tag (R83 step 3). -/
def State.clashFeeder (s : State) (f : FeederId) (tag : FactoryTag) : Option FeederId :=
  FeederId.all.find? fun g =>
    decide (g ≠ f) && ((s.feeder g).tagQueued tag || ((s.feeder g).tagIndex tag).isSome)

/-! ## Replies (R83, R84, R97) -/

/-- The counters of R84 changed. -/
def onEnrolCount (f : FeederId) (g : EnrolCounters → EnrolCounters) (s : State) : State :=
  s.onFeeder f fun x => { x with enrolCount := g x.enrolCount }

/-- The entry of a reply joins the queue (R83 step 7, R82). -/
def joinReplies (f : FeederId) (n : CycleNo) (tag : FactoryTag) (lanes k : Nat) (b : Int) (s : State) : State :=
  let s' := s.onFeeder f fun x =>
    { x with replies := x.replies ++ [⟨tag, lanes, k, x.settings.discoveryRtd b k, n, .lookup, 0, none, s.serial, false⟩] }
  { s' with serial := s.serial + 1 }

/-- A reply handed on under R61 is taken (R83). -/
def takeReply (f : FeederId) (n : CycleNo) (tag : FactoryTag) (lanes k : Nat) (b : Int) (s : State) : State :=
  let x := s.feeder f
  if x.discoveries.any fun e => decide (e.cycle = n) && !e.live then
    onEnrolCount f (fun c => { c with cancelled := c.cancelled + 1 }) s
  else if x.tagQueued tag then onEnrolCount f (fun c => { c with duplicate := c.duplicate + 1 }) s
  else match s.clashFeeder f tag with
    | some other =>
      notify (.tagClash f tag other) (onEnrolCount f (fun c => { c with clash := c.clash + 1 }) s)
    | none =>
      let held := x.tagIndex tag
      let heardOf := held.all fun d => (x.drop d).state.shining
      if !heardOf then onEnrolCount f (fun c => { c with heldTag := c.heldTag + 1 }) s
      else if Config.replyPlaces ≤ x.replies.length then
        setReplyOverrun f (onEnrolCount f (fun c => { c with overrun := c.overrun + 1 }) s)
      else match held with
        | some d => joinReplies f n tag lanes k b (freeRecord f d .reappeared s)
        | none => joinReplies f n tag lanes k b s

/-! ## Declines and assignment (R89 to R91) -/

/-- Changes the reply entry of an identity. -/
def onEntry (f : FeederId) (serial : Nat) (g : ReplyEntry → ReplyEntry) (s : State) : State :=
  s.onFeeder f fun x => { x with replies := x.replies.map fun e => if e.serial = serial then g e else e }

/-- A reply entry is declined (R91). -/
def declineEntry (f : FeederId) (e : ReplyEntry) (reason : DeclineReason) (s : State) : State :=
  fillOrders f <| onEnrolCount f (fun c => { c with declines := c.declines + 1 }) <|
    notify (.declined f e.tag reason) <|
    onEntry f e.serial (fun e => { e with decline := some (reason, .held), timeoutDue := false }) s

/-- An index can be given out (R89 step 3, R50). -/
def Feeder.indexFree (x : Feeder) (d : Nat) : Bool :=
  within 1 64 d && decide ((x.drop d).state = .empty) && !x.ringHolds d

/-- The index chosen at an assignment (R89 step 3). -/
def Feeder.chooseIndex (x : Feeder) (preferred : Option Nat) : Option Nat :=
  match preferred.filter x.indexFree with
  | some d => some d
  | none => dropIndices.find? x.indexFree

/-- The lane profiles of a created record: lanes at or above the lane count are off (R89). -/
def lanesFor (count : Nat) (p : Quad Nat) : Quad Nat :=
  ⟨if 0 < count then p.q0 else 0, if 1 < count then p.q1 else 0, if 2 < count then p.q2 else 0,
   if 3 < count then p.q3 else 0⟩

/-- The record created at an assignment (R89, R98). -/
def createdRecord (e : ReplyEntry) (t : AdmissionEntry) (n : CycleNo) (serial : Nat) : DropRecord :=
  { DropRecord.empty with
    state := .ranging, tag := e.tag, account := t.account, laneCount := e.laneCount,
    profiles := lanesFor e.laneCount t.profiles, rtd := e.rtd, pending := some ⟨.assign, .held⟩, lastPlanned := n,
    phase := some .awaitingAssign, serial := serial }

/-- The record is created, the entry leaves the queue, the account is bound (R89, R90). -/
def createRecord (f : FeederId) (d : Nat) (e : ReplyEntry) (t : AdmissionEntry) (s : State) : State :=
  let s' := s.onFeeder f fun x =>
    { x.setDrop d (createdRecord e t s.cycle s.serial) with
      replies := x.replies.filter fun e' => decide (e'.serial ≠ e.serial) }
  fillOrders f (resetLanes f d (bindAccount t.account f d { s' with serial := s.serial + 1 }))

/-- Whether an entry is assigned an index, or why it is declined (R89). -/
def decideAssignment (f : FeederId) (t : AdmissionEntry) (s : State) : Except DeclineReason Nat :=
  if !(s.account t.account).loaded then .error .accountMissing
  else if (s.account t.account).bound.isSome then .error .accountInUse
  else match (s.feeder f).chooseIndex t.preferred with
    | none => .error .feederFull
    | some d => .ok d

/-- A PERMIT: the restriction, then assignment (R86, R89). The outcome is the index or the reason. -/
def permit (f : FeederId) (e : ReplyEntry) (t : AdmissionEntry) (s : State) : State × Except DeclineReason Nat :=
  if t.restriction.any fun g => decide (g ≠ f) then
    (declineEntry f e .wrongFeeder s, .error .wrongFeeder)
  else match decideAssignment f t s with
    | .error reason => (declineEntry f e reason s, .error reason)
    | .ok d => (createRecord f d e t s, .ok d)

/-- The admission entry of a tag, in whatever place (R85, R86). -/
def State.admissionFor (s : State) (tag : FactoryTag) : Option AdmissionEntry :=
  (s.admission.filterMap Prod.snd).find? fun t => decide (t.tag = tag)

/-- The lookup of one entry (R86, R87). -/
def lookupEntry (f : FeederId) (e : ReplyEntry) (s : State) : State :=
  match s.admissionFor e.tag with
  | some t =>
    match t.verdict with
    | .permit => (permit f e t s).1
    | .deny => declineEntry f e .denied s
  | none =>
    notify (.admissionQuery f e.tag e.laneCount e.rtd) <|
      onEntry f e.serial (fun e => { e with status := .waitingHost, age := 0 }) s

/-- The oldest entry still to be looked up (R86). -/
def Feeder.nextLookup (x : Feeder) : Option ReplyEntry :=
  x.replies.find? fun e => decide (e.status = .lookup) && e.decline.isNone

/-- ADMISSION_LOOKUP (R86). -/
def execAdmissionLookup (f : FeederId) (s : State) : Host.Outcome State Fault Refusal :=
  live s fun s =>
    match (s.feeder f).nextLookup with
    | none => s
    | some e => lookupEntry f e s

/-! ## Query age and timeout (R87) -/

/-- An entry's query age at a cycle start; an age that meets the timeout makes the decline due. -/
def ReplyEntry.grow (timeout : Nat) (e : ReplyEntry) : ReplyEntry :=
  if e.status = .waitingHost ∧ e.decline.isNone then
    { e with age := e.age + 1, timeoutDue := decide (timeout ≤ e.age + 1) }
  else e

/-- The query ages of a feeder grow (R87). -/
def growQueryAges (f : FeederId) (s : State) : State :=
  s.onFeeder f fun x => { x with replies := x.replies.map fun e => e.grow x.settings.timeout }

/-- A decline TIMEOUT of an entry, if it is due (R87). -/
def timeoutEntry (f : FeederId) (s : State) (e : ReplyEntry) : State :=
  if e.timeoutDue ∧ e.decline.isNone then declineEntry f e .timeout s else s

/-- Every decline TIMEOUT due on a feeder. Several that fall due at one cycle start are declined, and their notices asked
for, in arrival order (R87 gives no order: DESIGN CHOICE, log 56). -/
def queryTimeouts (f : FeederId) (s : State) : State := (s.feeder f).replies.foldl (timeoutEntry f) s

/-- ADMISSION_TIMEOUT (R87). -/
def execAdmissionTimeout (f : FeederId) (tag : FactoryTag) (s : State) : Host.Outcome State Fault Refusal :=
  live s fun s => ((s.feeder f).replies.filter fun e => decide (e.tag = tag)).foldl (timeoutEntry f) s

/-! ## Requests -/

/-- The entry of a feeder's reply queue that holds a tag (R88). -/
def Feeder.entryOf (x : Feeder) (tag : FactoryTag) : Option ReplyEntry := x.replies.find? fun e => decide (e.tag = tag)

/-- The entry an answer can settle, or the refusal (R88). -/
def answerable (x : Feeder) (tag : FactoryTag) : Except Reject ReplyEntry :=
  match x.entryOf tag with
  | none => .error .tooLate
  | some e =>
    if e.decline.isSome then .error .tooLate
    else if e.status = .lookup then .error .wrongState
    else .ok e

/-- A timeout due at a cycle start already taken, for the entry that an answer names: it comes before the answer
(R87, R88, log 4). -/
def timeoutFirst (f : FeederId) (tag : FactoryTag) (s : State) : State :=
  match (s.feeder f).entryOf tag with
  | none => s
  | some e => timeoutEntry f s e

/-- An answer of the host to the query of a tag (R88): against the entry as a timeout due leaves it, refused or decided
by `decideBy`. -/
def answerQuery (f : FeederId) (tag : FactoryTag) (decideBy : ReplyEntry → State → State × Verdict) (s : State) :
    State × Verdict :=
  let s := timeoutFirst f tag s
  match answerable (s.feeder f) tag with
  | .error reason => refuseWith reason s
  | .ok e => decideBy e s

/-- The outcome of an ADMIT (R88). -/
def admitOutcome : State × Except DeclineReason Nat → State × Verdict
  | (s, .ok d) => (s, .done (.assigned d))
  | (s, .error reason) => (s, .done (.declined reason))

/-- ADMIT decided (R88), its refusals in the order of log 26 (DESIGN CHOICE). -/
def admitDecided (feeder : Nat) (r : AdmitFields) (s : State) : State × Verdict :=
  match FeederId.ofNat? feeder with
  | none => refuseWith .badIndex s
  | some f =>
    match admitOf r with
    | none => refuseWith .badValue s
    | some t => answerQuery f r.tag (fun e s => admitOutcome (permit f e t s)) s

/-- ADMIT (R88). -/
def execAdmit (h : MgmtHead) (feeder : Nat) (r : AdmitFields) (s : State) : Host.Outcome State Fault Refusal :=
  live s (takeRequest (.admitReply h feeder r) h 7 (admitDecided feeder r))

/-- REFUSE decided (R88). -/
def refuseDecided (feeder : Nat) (tag : FactoryTag) (s : State) : State × Verdict :=
  match FeederId.ofNat? feeder with
  | none => refuseWith .badIndex s
  | some f => answerQuery f tag (fun e s => (declineEntry f e .hostRefused s, .done .empty)) s

/-- REFUSE (R88). -/
def execRefuse (h : MgmtHead) (feeder : Nat) (tag : FactoryTag) (s : State) : Host.Outcome State Fault Refusal :=
  live s (takeRequest (.refuse h feeder tag) h 8 (refuseDecided feeder tag))

/-- The admission table with a place written; another place with the entry's tag becomes empty (R85). -/
def admissionWrite (place : Nat) (e : Option AdmissionEntry) (t : Tbl (Option AdmissionEntry)) :
    Tbl (Option AdmissionEntry) :=
  let t := match e with
    | none => t
    | some n => t.update none fun k o => if k ≠ place ∧ o.any (fun x : AdmissionEntry => decide (x.tag = n.tag)) then none else o
  t.set none place e

/-- WRITE of the ADMISSION table (R85). R85 gives BAD_INDEX and BAD_VALUE without an order: the place is looked at first
(DESIGN CHOICE, log 26). -/
def writeAdmission (place : Nat) (r : AdmissionFields) (s : State) : State × Verdict :=
  if 511 < place then refuseWith .badIndex s
  else match admissionOf r with
    | none => refuseWith .badValue s
    | some e =>
      let s' := { s with admission := admissionWrite place e s.admission }
      (s', .done (.admission (s'.place place)))

/-- WRITE_ADMISSION (R85). -/
def execWriteAdmission (h : MgmtHead) (place : Nat) (r : AdmissionFields) (s : State) :
    Host.Outcome State Fault Refusal :=
  live s (takeRequest (.writeAdmission h place r) h 3 (writeAdmission place r))

/-- The sweep set to OFF, and every discovery window cancelled (R79). -/
def Feeder.sweepOff (x : Feeder) : Feeder :=
  { x with sweep := Sweep.off, discoveries := x.discoveries.map fun e => { e with live := false } }

/-- The sweep under a mode: OFF 0, ONCE 1, CONTINUOUS 2 (R79). -/
def Feeder.sweepMode (x : Feeder) (mode : Nat) : Option Feeder :=
  match mode with
  | 0 => some x.sweepOff
  | 1 => some { x with sweep := { x.sweep with once := if x.sweep.once = .none then .due else x.sweep.once } }
  | 2 => some { x with sweep := { x.sweep with
      continuous := true
      lastDiscovery := if x.sweep.continuous then x.sweep.lastDiscovery else none } }
  | _ => none

/-- DISCOVERY decided (R79). R79 gives BAD_INDEX and BAD_VALUE without an order: the feeder is looked at first
(DESIGN CHOICE, log 26). -/
def discoveryDecided (feeder mode : Nat) (s : State) : State × Verdict :=
  match FeederId.ofNat? feeder with
  | none => refuseWith .badIndex s
  | some f =>
    match (s.feeder f).sweepMode mode with
    | none => refuseWith .badValue s
    | some x => (s.setFeeder f x, .done (.sweep x.sweep x.settings.period))

/-- DISCOVERY (R79). -/
def execDiscovery (h : MgmtHead) (feeder mode : Nat) (s : State) : Host.Outcome State Fault Refusal :=
  live s (takeRequest (.discovery h feeder mode) h 6 (discoveryDecided feeder mode))

/-- A record's rouse count under a ROUSE_LIMIT that is stored: one above the limit comes down to it (R107). A LEAVING
record keeps its count as it stood (R113), read as the exception to R107's "every rouse count" (DEDUCED, log 52). -/
def DropRecord.capRouse (r : DropRecord) (limit : Nat) : DropRecord :=
  if r.state = .leaving then r else { r with rouse := min r.rouse limit }

/-- The feeder with settings stored; rouse counts above a lower ROUSE_LIMIT come down to it (R95, R107). -/
def Feeder.store (x : Feeder) (t : Settings) : Feeder :=
  { x with settings := t, drops := x.drops.update DropRecord.empty fun _ r => r.capRouse t.rouseLimit }

/-- WRITE of the FEEDER table (R95, R107, R120). A STUCK_LIMIT that a measured run has already lasted begins STUCK at once
(R120). R95 gives BAD_INDEX and BAD_VALUE without an order: the feeder number is looked at first (DESIGN CHOICE,
log 26). -/
def writeFeeder (feeder : Nat) (r : FeederFields) (s : State) : State × Verdict :=
  match FeederId.ofNat? feeder with
  | none => refuseWith .badIndex s
  | some f =>
    match settingsOf r with
    | none => refuseWith .badValue s
    | some t =>
      if (s.feeder f).running ∧ !sameReach t (s.feeder f).settings then refuseWith .wrongState s
      else (checkOnset f (s.onFeeder f fun x => x.store t), .done (.feeder t))

/-- WRITE_FEEDER (R95). -/
def execWriteFeeder (h : MgmtHead) (feeder : Nat) (r : FeederFields) (s : State) : Host.Outcome State Fault Refusal :=
  live s (takeRequest (.writeFeeder h feeder r) h 3 (writeFeeder feeder r))

end Sys2Proof.Machine
end

