-- ==== Sys2Proof/Machine/Tariff.lean ====
section
/-! DEFINITION. The tariff clock, tariff plans, the close pass and the export state (R165 to R175). -/

namespace Sys2Proof.Machine

/-! ## The clock and the quarter boundary -/

/-- The in-quarter count grows at a cycle start; where it would reach the quarter's end, the boundary is due (R165). -/
def countQuarter (s : State) : State :=
  s.onMeter fun m =>
    if m.clock.count + 1 < Config.quarterCycles then
      { m with clock := { m.clock with count := m.clock.count + 1 } }
    else { m with boundaryDue := true }

/-- The clock after a boundary (R165). -/
def TariffClock.nextQuarter (c : TariffClock) : TariffClock :=
  if c.quarter + 1 < 96 then { c with quarter := c.quarter + 1, count := 0 }
  else { c with quarter := 0, day := (c.day + 1) % 65536, count := 0 }

/-- A pending copy becomes the active one (R169). -/
def TariffPlan.activate (p : TariffPlan) : TariffPlan :=
  match p.pending with
  | some c => ⟨c, none⟩
  | none => p

/-- The quarter boundary, if one is due (R169). -/
def quarterBoundary (s : State) : State :=
  if !s.meter.boundaryDue then s
  else s.onMeter fun m =>
    let c := m.clock.nextQuarter
    { m with
      boundaryDue := false
      clock := c
      plans := m.plans.update TariffPlan.reset fun _ p => p.activate
      pass := if c.quarter % c.closeEvery = 0 then some ⟨0, ⟨c.day, c.quarter, s.cycle⟩⟩ else m.pass }

/-- QUARTER_BOUNDARY (R169). -/
def execQuarterBoundary (s : State) : Host.Outcome State Fault Refusal := live s quarterBoundary

/-! ## The close pass -/

/-- The statement record of an account at a close (R171). -/
def Account.statement (a : Account) (number : Counter) (slot : Nat) (stamp : CloseStamp) : Statement :=
  ⟨number, slot, a.code, stamp, a.periods, a.down, a.up, a.outage, a.overrun, a.saturated, a.lateClose⟩

/-- The account after a close that appended its record (R172). -/
def Account.closed (a : Account) : Account :=
  { a with down := ⟨0, 0, 0, 0⟩, up := ⟨0, 0, 0, 0⟩, outage := 0, overrun := 0, saturated := false,
           lateClose := false, periods := 1 }

/-- The account after a close refused for want of room (R172). -/
def Account.closedLate (a : Account) : Account := { a with lateClose := true, periods := min (a.periods + 1) 255 }

/-- A record joins the statement queue (R172); where the queue was empty, the test of R173 is made again. -/
def appendStatement (r : Statement) (s : State) : State :=
  let t := s.onMeter fun m => { m with queue := m.queue ++ [r], nextNumber := m.nextNumber + 1 }
  if s.meter.queue.isEmpty then exportAndSend t else t

/-- A loaded account's close (R172). -/
def closeAccount (slot : Nat) (stamp : CloseStamp) (s : State) : State :=
  if s.meter.queue.length < Config.statementPlaces then
    (appendStatement ((s.account slot).statement s.meter.nextNumber slot stamp) s).onAccount slot Account.closed
  else
    (s.onMeter fun m => { m with lateCloses := m.lateCloses + 1 }).onAccount slot Account.closedLate

/-- One close step of the pass under way (R170, R172). -/
def closeStep (s : State) : State :=
  match s.meter.pass with
  | none => s
  | some p =>
    let s := if (s.account p.cursor).loaded then closeAccount p.cursor p.stamp s else s
    s.onMeter fun m =>
      { m with pass := if p.cursor + 1 < Config.accountSlots then some { p with cursor := p.cursor + 1 } else none }

/-- CLOSE_STEP (R172). -/
def execCloseStep (s : State) : Host.Outcome State Fault Refusal := live s closeStep

/-- Up to `n` close steps (R170: the part completes a pass before the next cycle start). -/
def closeSteps : Nat → State → State
  | 0, s => s
  | n + 1, s => if s.meter.pass.isSome then closeSteps n (closeStep s) else s

/-- The close steps of the slots up to `slot` that the pass under way has not yet visited (R170). -/
def closeThrough (slot : Nat) (s : State) : State :=
  match s.meter.pass with
  | none => s
  | some p => closeSteps (slot + 1 - p.cursor) s

/-- PART_RESET ends a pass: the loaded slots it has not visited owe one period more (R170). -/
def Meter.abandonPass (m : Meter) : Meter :=
  match m.pass with
  | none => m
  | some p =>
    { m with
      pass := none
      accounts := m.accounts.update Account.reset fun slot a =>
        if a.loaded ∧ p.cursor ≤ slot then { a with periods := min (a.periods + 1) 255 } else a }

/-! ## Requests -/

/-- WRITE of the TARIFF_PLAN table (R168): the plan number is looked at before the values (log 26). -/
def writeTariffPlan (n : Nat) (r : PlanFields) (s : State) : State × Verdict :=
  if 15 < n then refuseWith .badIndex s
  else match planCopyOf r with
    | none => refuseWith .badValue s
    | some c =>
      let p := { s.tariffPlan n with pending := some c }
      (s.onMeter fun m => { m with plans := m.plans.set TariffPlan.reset n p }, .done (.plan p))

/-- WRITE_TARIFF_PLAN (R168). -/
def execWriteTariffPlan (h : MgmtHead) (n : Nat) (r : PlanFields) (s : State) : Host.Outcome State Fault Refusal :=
  live s (takeRequest (.writeTariffPlan h n r) h 3 (writeTariffPlan n r))

/-- SET_TARIFF_CLOCK decided (R166). A boundary due at a cycle start already taken is taken in full first. -/
def setTariffClock (day quarter closeEvery : Nat) (s : State) : State × Verdict :=
  if 65535 < day ∨ 95 < quarter ∨ ¬ within 1 96 closeEvery then refuseWith .badValue s
  else
    let c : TariffClock := ⟨day, quarter, 0, closeEvery⟩
    ((quarterBoundary s).onMeter fun m => { m with clock := c }, .done (.clock c))

/-- SET_TARIFF_CLOCK (R166). -/
def execSetTariffClock (h : MgmtHead) (day quarter closeEvery : Nat) (s : State) : Host.Outcome State Fault Refusal :=
  live s (takeRequest (.setTariffClock h day quarter closeEvery) h 17 (setTariffClock day quarter closeEvery))

/-- EXPORT_HOLD decided (R174). -/
def exportHold (s : State) : State × Verdict :=
  if s.meter.held then refuseWith .wrongState s
  else (s.onMeter fun m => { m with held := true }, .done (.exportState true s.meter.queue.length))

/-- EXPORT_HOLD (R174). -/
def execExportHold (h : MgmtHead) (s : State) : Host.Outcome State Fault Refusal :=
  live s (takeRequest (.exportHold h) h 18 exportHold)

/-- EXPORT_RESUME decided (R174): export restarts at once under R173, and the response gives the number of records that
it leaves in the queue (R174 does not say whether before or after: DESIGN CHOICE, log 59). Where the transmitter is free the
arbiter chooses only once the response has joined, so that the response goes before the records (R151 and R174 do not
say: DESIGN CHOICE, log 64; see `requestDone`). -/
def exportResume (s : State) : State × Verdict :=
  if !s.meter.held then refuseWith .wrongState s
  else
    let t := exportRecords (s.onMeter fun m => { m with held := false })
    (t, .done (.exportState false t.meter.queue.length))

/-- EXPORT_RESUME (R174). -/
def execExportResume (h : MgmtHead) (s : State) : Host.Outcome State Fault Refusal :=
  live s (takeRequest (.exportResume h) h 19 exportResume)

end Sys2Proof.Machine
end

