-- ==== Sys2Proof/Machine/Control.lean ====
section
/-! DEFINITION. Feeder start and stop, power-on reset, the reset pin, and PART_RESET (R2, R51, R52, R92, R93, R140,
R181, R182). -/

namespace Sys2Proof.Machine

/-! ## FEEDER_START and FEEDER_STOP -/

/-- FEEDER_START decided (R2, R92, R181). -/
def startDecided (feeder : Nat) (s : State) : State × Verdict :=
  match FeederId.ofNat? feeder with
  | none => refuseWith .badIndex s
  | some f =>
    if (s.feeder f).running then refuseWith .wrongState s
    else
      (s.onFeeder f fun x => { x with running := true, restartDue := true },
        .done (.feederState true (some (s.cycle + 1))))

/-- FEEDER_START (R181). -/
def execFeederStart (h : MgmtHead) (feeder : Nat) (s : State) : Host.Outcome State Fault Refusal :=
  live s (takeRequest (.feederStart h feeder) h 4 (startDecided feeder))

/-- What a stop clears at once: the line, the ring, the reader, the order queue and the rogue light state
(R2, R15, R52, R54, R140). -/
def Feeder.stopLine (x : Feeder) : Feeder :=
  { x with
    running := false, sending := none, restartDue := false, orderQueue := [],
    ring := ⟨none, none, none, none⟩, marks := [], reader := .idle,
    detector := Detector.off, stuck := none, rogue := .clear, recent := [], quiet := 0, decay := 0, decayDue := false,
    isolation := Isolation.none }

/-- A record freed by a stop, if it is not EMPTY (R92). -/
def stopRecord (f : FeederId) (s : State) (d : Nat) : State :=
  if (s.drop f d).state = .empty then s else freeRecord f d .feederStop s

/-- What a stop clears once the records are freed: replies, sweep, windows, lanes and pointer (R19, R33, R92). -/
def Feeder.stopTables (x : Feeder) : Feeder :=
  { x.sweepOff with replies := [], discoveries := [], lanes := [], pointer := (1, 0) }

/-- A feeder stops (R92, R181). -/
def stopFeeder (f : FeederId) (s : State) : State :=
  (dropIndices.foldl (stopRecord f) (s.onFeeder f Feeder.stopLine)).onFeeder f Feeder.stopTables

/-- FEEDER_STOP decided (R92, R181). -/
def stopDecided (feeder : Nat) (s : State) : State × Verdict :=
  match FeederId.ofNat? feeder with
  | none => refuseWith .badIndex s
  | some f =>
    if !(s.feeder f).running then refuseWith .wrongState s
    else (stopFeeder f s, .done (.feederState false none))

/-- FEEDER_STOP (R92). -/
def execFeederStop (h : MgmtHead) (feeder : Nat) (s : State) : Host.Outcome State Fault Refusal :=
  live s (takeRequest (.feederStop h feeder) h 5 (stopDecided feeder))

/-! ## Resets -/

/-- POWER_ON_RESET (R93): everything takes its value after power-on reset; the commands that wait are no part of
the block. -/
def execPowerOnReset (s : State) : Host.Outcome State Fault Refusal := .next { State.reset with pending := s.pending }

/-- RESET_PIN_HELD (section 9 of 00, R1): no cycle starts, and nothing is sent or taken. -/
def execResetPinHeld (s : State) : Host.Outcome State Fault Refusal :=
  .next { s with
    resetHeld := true
    feeders := s.feeders.map fun x => { x with sending := none }
    uplink := { s.uplink with sending := none } }

/-- A feeder after PART_RESET: as after power-on, with its settings (R93, R182). -/
def Feeder.partReset (x : Feeder) : Feeder := { Feeder.reset with settings := x.settings }

/-- The Usage Meter after PART_RESET: accounts lose their bound drops, a pass under way ends (R155, R156, R170). -/
def Meter.partReset (m : Meter) : Meter :=
  let m := m.abandonPass
  { m with accounts := m.accounts.update Account.reset fun _ a => { a with bound := none }, unbilled := 0 }

/-- Frames in the transmit queue (R150). -/
def Uplink.frames (u : Uplink) : Nat :=
  u.responses.length + u.notices.length + u.statements.length + u.traffic.length

/-- The Uplink Port after PART_RESET: the queue's frames are discarded and counted (R148, R150, R152, log 20). -/
def Uplink.partReset (u : Uplink) : Uplink :=
  { Uplink.reset with
    linkUp := u.linkUp
    transmit := { TransmitCounters.zero with discardedAtReset := BitVec.ofNat 32 u.frames } }

/-- The agent after PART_RESET: the binding stands (R176, R182). Requests received and not yet taken stay too, and are
taken after the reset (R182 does not name them: DESIGN CHOICE, log 61). -/
def Agent.partReset (a : Agent) : Agent :=
  { a with hold := [], notices := [], noticeLost := false, count := AgentCounters.zero }

/-- PART_RESET in every block (R182). A quarter boundary due at a cycle start already taken is taken in full first, so
that the cycle start comes wholly before the reset; the reset discards the rest of what is due. -/
def partReset (s : State) : State :=
  let s := quarterBoundary s
  { s with
    feeders := s.feeders.map Feeder.partReset
    meter := s.meter.partReset
    uplink := s.uplink.partReset
    agent := s.agent.partReset }

/-- PART_RESET taken in BOUND from the controller (R182): the reset, then its response, the first frame that is sent
after it; the places freed in the statement class let the kept records go, if export runs (R173, log 36). It is not counted
among the requests taken, which the reset sets to 0 (log 34). With the response hold full it is dropped as any request is
(R179, log 62). -/
def execPartReset (h : MgmtHead) (s : State) : Host.Outcome State Fault Refusal :=
  live s (inTurn (.partReset h) (whenBound h fun s => exportRecords (respond h.tag 21 (.done .empty) (partReset s))))

end Sys2Proof.Machine
end

