-- ==== Sys2Proof/Machine/Grants.lean ====
section
/-! DEFINITION. The Grant Scheduler's build of a plan: capacity, the profile in force, accrual, mandatory bursts
and the three classes (R21 to R36), and the two window decisions it takes from the Enrolment Controller (R80, R98). -/

namespace Sys2Proof.Machine

/-! ## The window decisions of the Enrolment Controller -/

/-- The sweep is due at the build of plan `n` (R80). -/
def Feeder.sweepDue (x : Feeder) (n : CycleNo) : Bool :=
  decide (x.sweep.once = .due) ||
  (x.sweep.continuous && (match x.sweep.lastDiscovery with
    | none => true
    | some m => decide (x.settings.period ≤ cyclesFrom m n)))

/-- Everything a discovery window needs but a free reply entry (R80). -/
def Feeder.sweepAllowed (x : Feeder) (n : CycleNo) : Bool :=
  x.sweepDue n && (decide (x.rogue = .clear) || decide (x.rogue = .watch)) && !x.replyOverrun

/-- Plan `n` holds a discovery window (R80). -/
def Feeder.plansDiscovery (x : Feeder) (n : CycleNo) : Bool :=
  x.sweepAllowed n && decide (x.replies.length < Config.replyPlaces)

/-- What the decision changes: the sweep and the window list, or the skipped-window count (R80, log 21). -/
def Feeder.decideDiscovery (x : Feeder) (n : CycleNo) : Feeder :=
  if x.plansDiscovery n then
    { x with
      sweep := { x.sweep with lastDiscovery := some n, once := if x.sweep.once = .due then .inFlight n else x.sweep.once }
      discoveries := x.discoveries ++ [⟨n, true⟩] }
  else if x.sweepAllowed n then
    { x with enrolCount := { x.enrolCount with skipped := x.enrolCount.skipped + 1 } }
  else x

/-- A drop is listed for a ranging window in plan `n` (R98). -/
def Feeder.rangesDrop (x : Feeder) (n : CycleNo) (d : Nat) : Bool :=
  let r := x.drop d
  decide (r.state = .ranging) && decide (r.phase = some .measuring) && r.inFlight.isNone && !x.frozen &&
  (match r.lastSent with
    | some (.assign, m) => afterCycle n m
    | _ => false)

/-- The ranging list of plan `n`, in ascending index (R98). -/
def Feeder.rangingList (x : Feeder) (n : CycleNo) : List Nat := dropIndices.filter (x.rangesDrop n)

/-! ## The build's working state -/

/-- What a build works on (R23): the feeder, the words used, the open bursts with their flags, the grants issued
with their lane keys, whether a grant was cut, and the last lane key that stage 8 served. -/
structure Build where
  feeder : Feeder
  used : Nat
  opened : List (Nat × Option BurstFlag)
  issued : List ((Nat × Nat) × Nat)
  cut : Bool
  served : Option (Nat × Nat)
deriving DecidableEq, Repr

/-- A drop's burst is open (R23). -/
def Build.isOpen (b : Build) (d : Nat) : Bool := b.opened.any fun o => decide (o.1 = d)

/-- A drop's overhead (R23). -/
def overhead (r : DropRecord) : Nat := 44 + r.enabledLanes.length

/-- The room for a lane of a drop (R27). -/
def Build.room (b : Build) (capacity d : Nat) : Nat :=
  capacity - b.used - (if b.isOpen d then 0 else overhead (b.feeder.drop d))

/-- A grant is issued (R27). -/
def Build.issue (b : Build) (d lane g : Nat) : Build :=
  let r := b.feeder.lane d lane
  let opens := !b.isOpen d
  { b with
    feeder := b.feeder.setLane d lane { r with credit := r.credit - 256 * g, outstanding := r.outstanding + g }
    used := b.used + (if opens then overhead (b.feeder.drop d) else 0) + g
    opened := if opens then b.opened ++ [(d, none)] else b.opened
    issued := b.issued ++ [((d, lane), g)] }

/-! ## The stages -/

/-- Capacity (R24). -/
def capacityOf (t : Settings) (discovery : Bool) (ranging : Nat) : Nat :=
  Config.cycleWords - t.dk - (if discovery then t.dw else 0) - 64 * ranging

/-- The profile in force for a lane (R21). -/
def State.inForce (s : State) (f : FeederId) (d lane : Nat) : Option Profile :=
  let own := s.profile ((s.drop f d).profiles.get lane)
  match s.boundAccount f d with
  | none => some own
  | some slot =>
    let a := s.account slot
    match a.state with
    | .normal => some own
    | .throttled => if a.floorProfile = 0 then none else some { s.profile a.floorProfile with cls := .shared }
    | .suspended => none

/-- A lane's credit bounded by the profile in force (R22). -/
def boundCredit (p : Option Profile) (c : Nat) : Nat :=
  match p with
  | none => 0
  | some p => min c (256 * p.cap)

/-- A lane's credit after accrual (R25). -/
def accrue (p : Option Profile) (c : Nat) : Nat :=
  match p with
  | none => c
  | some p => min (256 * p.cap) (c + p.rate)

/-- Stages 2 and 3 for one drop (R21, R22, R25). -/
def creditStage (force : Nat → Nat → Option Profile) (x : Feeder) (d : Nat) : Feeder :=
  let r := x.drop d
  r.enabledLanes.foldl (fun x l =>
    let p := force d l
    let c := boundCredit p (x.lane d l).credit
    x.setLane d l { x.lane d l with credit := if r.state = .active then accrue p c else c }) x

/-- The mandatory burst a drop is due in plan `n`, if any (R26). -/
def mandatoryFlag (t : Settings) (n : CycleNo) (d : Nat) (r : DropRecord) : Option BurstFlag :=
  let since := cyclesFrom r.lastPlanned n
  match r.state with
  | .active => if t.poll ≤ since then some .poll else none
  | .dozing => if (n.toNat + d) % t.keepalive = 0 ∨ t.keepalive ≤ since then some .poll else none
  | .silent => if t.rouseInterval ≤ since then some .rouse else none
  | _ => none

/-- Stage 4 for one drop (R26). -/
def mandatoryStage (capacity : Nat) (n : CycleNo) (b : Build) (d : Nat) : Build :=
  let r := b.feeder.drop d
  match mandatoryFlag b.feeder.settings n d r with
  | none => b
  | some flag =>
    if overhead r ≤ capacity - b.used then
      { b with used := b.used + overhead r, opened := b.opened ++ [(d, some flag)] }
    else b

/-- A lane's demand (R28). -/
def LaneRecord.demand (r : LaneRecord) : Nat := r.backlog - r.outstanding

/-- A grant of `g` words is issued to a lane with demand `q` under profile `p` (R31). -/
def issues (p : Profile) (q g : Nat) : Bool :=
  if p.cls = .fixed then decide (1 ≤ g) else decide (p.minGrant ≤ g) || (decide (g = q) && decide (0 < q))

/-- A lane considered in stage 6 or 7 (R27, R29, R30). -/
def guaranteedStage (cls : LaneClass) (capacity : Nat) (force : Nat → Nat → Option Profile) (b : Build)
    (k : Nat × Nat) : Build :=
  match force k.1 k.2 with
  | none => b
  | some p =>
    if p.cls ≠ cls then b
    else
      let r := b.feeder.lane k.1 k.2
      let whole := r.credit / 256
      let g := if cls = .fixed then whole else min r.demand whole
      let room := b.room capacity k.1
      let b := { b with cut := b.cut || decide (room < g) }
      let g := min g room
      if issues p r.demand g then b.issue k.1 k.2 g else b

/-- Stage 8 over the lanes of its visit (R32). -/
def sharedStage (capacity : Nat) (force : Nat → Nat → Option Profile) : List (Nat × Nat) → Build → Build
  | [], b => b
  | k :: rest, b =>
    match force k.1 k.2 with
    | none => sharedStage capacity force rest b
    | some p =>
      if p.cls ≠ .shared then sharedStage capacity force rest b
      else
        let room := b.room capacity k.1
        if room = 0 then b
        else
          let r := b.feeder.lane k.1 k.2
          let g := min (min r.demand (r.credit / 256)) room
          if issues p r.demand g then
            sharedStage capacity force rest { b.issue k.1 k.2 g with served := some k }
          else sharedStage capacity force rest b

/-- The enabled lanes of the feeder's ACTIVE drops, in lane-key order. -/
def Feeder.activeLanes (x : Feeder) : List (Nat × Nat) :=
  (dropIndices.filter fun d => decide ((x.drop d).state = .active)).flatMap fun d =>
    (x.drop d).enabledLanes.map fun l => (d, l)

/-- The visit of stage 8: from the pointer on, then from the beginning (R32). -/
def rotated (pointer : Nat × Nat) (l : List (Nat × Nat)) : List (Nat × Nat) :=
  let before (k : Nat × Nat) : Bool := decide (laneKey k.1 k.2 < laneKey pointer.1 pointer.2)
  l.filter (fun k => !before k) ++ l.filter before

/-- The lane key that follows in lane-key order (R33). -/
def nextLaneKey (k : Nat × Nat) : Nat × Nat :=
  if k.2 < 3 then (k.1, k.2 + 1) else if k.1 < 64 then (k.1 + 1, 0) else (1, 0)

/-- Stages 2 to 8 on a feeder, and the pointer (R23, R33). -/
def buildGrants (capacity : Nat) (n : CycleNo) (force : Nat → Nat → Option Profile) (x : Feeder) : Build :=
  let x := dropIndices.foldl (creditStage force) x
  let b := dropIndices.foldl (mandatoryStage capacity n) ⟨x, 0, [], [], false, none⟩
  let lanes := x.activeLanes
  let b := lanes.foldl (guaranteedStage .fixed capacity force) b
  let b := lanes.foldl (guaranteedStage .assured capacity force) b
  let b := sharedStage capacity force (rotated x.pointer lanes) b
  match b.served with
  | none => b
  | some k => { b with feeder := { b.feeder with pointer := nextLaneKey k } }

/-- The grant issued to a lane in the build, 0 if none was (R35). -/
def Build.grantOf (b : Build) (d lane : Nat) : Nat :=
  ((b.issued.find? fun e => decide (e.1 = (d, lane))).map Prod.snd).getD 0

/-- The open bursts in ascending index, with their lane allocations and flags (R35, R38). -/
def Build.bursts (b : Build) : List (Nat × List (Nat × Nat) × Option BurstFlag) :=
  (dropIndices.filter b.isOpen).map fun d =>
    (d, (b.feeder.drop d).enabledLanes.map (fun l => (l, b.grantOf d l)),
      ((b.opened.find? fun o => decide (o.1 = d)).map Prod.snd).getD none)

end Sys2Proof.Machine
end

