-- ==== Sys2Proof/Machine/Layout.lean ====
section
/-! DEFINITION. The layout of a plan and its handing on to the framer and the ring (R37 to R42, R35, R39). -/

namespace Sys2Proof.Machine

/-- Length of a BURST window (R8, R35). -/
def burstLength (allocs : List (Nat × Nat)) : Nat := 28 + allocs.length + (allocs.map Prod.snd).sum

/-- BURST entries back to back with their guards from start word `w`; the second part is the word after the last
guard (R38). -/
def layBursts (w : Nat) : List (Nat × List (Nat × Nat) × Option BurstFlag) → List Entry × Nat
  | [] => ([], w)
  | (d, allocs, flag) :: rest =>
    let len := burstLength allocs
    let r := layBursts (w + len + Config.guardWords) rest
    (.burst d w len allocs flag :: r.1, r.2)

/-- RANGING entries from start word `w` on, 64 words apart (R39, R99). -/
def layRanging (t : Settings) (rtd : Nat → Nat) (w : Nat) : List Nat → List Entry
  | [] => []
  | d :: rest => .ranging d w (t.rangingDelay w (rtd d)) :: layRanging t rtd (w + 64) rest

/-- The DISCOVERY entry and the DARK entry (R40). -/
def layTail (t : Settings) (discovery : Bool) : List Entry :=
  (if discovery then [.discovery t.w0 t.dw t.s] else []) ++
  (if t.dk = 0 then [] else [.dark (Config.cycleWords - t.dk) t.dk])

/-- The whole plan in ascending start word (R37 to R40). -/
def layPlan (t : Settings) (rtd : Nat → Nat) (bursts : List (Nat × List (Nat × Nat) × Option BurstFlag))
    (ranging : List Nat) (discovery : Bool) : List Entry :=
  let b := layBursts 0 bursts
  b.1 ++ layRanging t rtd b.2 ranging ++ layTail t discovery

/-- The report of one entry to the Enrolment Controller (R35, R39, R112). R112's growth by 1 is taken as it stands where
R73 gives the count no value above ROUSE_LIMIT: after a lowered limit has set the count to the limit, the next ROUSE
window takes it to the limit and 1, and its failure is judged by limit ≤ count (DEDUCED, log 51). -/
def reportEntry (n : CycleNo) (x : Feeder) (e : Entry) : Feeder :=
  match e with
  | .burst d _ _ _ flag =>
    let r := x.drop d
    let rouse := if r.state = .silent ∧ flag = some .rouse then r.rouse + 1 else r.rouse
    x.setDrop d { r with lastPlanned := n, rouse := rouse }
  | .ranging d w delay => x.setDrop d { x.drop d with inFlight := some ⟨n, w, delay⟩ }
  | _ => x

/-- The plan enters its ring slot and the framer's cycle (R42, R44). -/
def Feeder.handOn (x : Feeder) (n : CycleNo) (plan : List Entry) : Feeder :=
  let x := x.setSlot n (some ⟨.waiting, n, plan.map fun e => ⟨e, .nothing, .unresolved⟩, LightRecord.dark⟩)
  { x with sending := x.sending.map fun c => { c with plan := plan } }

/-- The build of plan `n` on a feeder with the profiles in force given (R23 to R42); whether a FIXED or ASSURED
grant was cut is the second part. -/
def Feeder.build (force : Nat → Nat → Option Profile) (x : Feeder) (n : CycleNo) : Feeder × Bool :=
  let discovery := x.plansDiscovery n
  let x := x.decideDiscovery n
  let ranging := x.rangingList n
  let b := buildGrants (capacityOf x.settings discovery ranging.length) n force x
  let plan := layPlan x.settings (fun d => (x.drop d).rtd) b.bursts ranging discovery
  ((plan.foldl (reportEntry n) b.feeder).handOn n plan, b.cut)

/-- The Grant Scheduler's work at the start of cycle `n` for one feeder (R23, R34). -/
def buildPlan (f : FeederId) (n : CycleNo) (s : State) : State :=
  if (s.feeder f).running then
    let r := (s.feeder f).build (s.inForce f) n
    let s := s.setFeeder f r.1
    if r.2 then setOverbooked f n s else s
  else s

end Sys2Proof.Machine
end

