-- ==== Sys2Proof/Machine/Framer.lean ====
section
/-! DEFINITION. The Downstream Framer: line orders and data frames taken for a cycle (R3 to R6, R15). -/

namespace Sys2Proof.Machine

/-- The framer begins cycle `n` of a RUNNING feeder; the first cycle of a run carries RESTART (R2, R3, R4). -/
def Feeder.newCycle (x : Feeder) (n : CycleNo) : Feeder :=
  if x.running then { x with sending := some ⟨n, x.restartDue, [], [], []⟩, restartDue := false } else x

/-- Bytes of a plan's entry (R5). -/
def Entry.bytes : Entry → Nat
  | .burst _ _ _ allocs _ => 12 + 4 * allocs.length
  | .ranging _ _ _ => 12
  | .discovery _ _ _ => 12
  | .dark _ _ => 8

/-- Bytes of a frame's downstream segment: L counts the check sequence (R5, R141). -/
def DownFrame.bytes (fr : DownFrame) : Nat := 8 + 4 * ceilDiv (fr.data.length + 4) 4

/-- The data area of a cycle with its plan and orders placed (R5). -/
def DownCycle.dataArea (c : DownCycle) : Nat :=
  Config.cycleBytes - 16 - (4 + (c.plan.map Entry.bytes).sum) - 16 * c.orders.length

/-- The framer takes up to 8 orders for cycle `n` and reports each (R15, R77, R78). Whether the filling that the removal
brings comes before the reports is open: it comes first, so that a following order which a report promotes is placed
behind the orders HELD at the removal (DESIGN CHOICE, log 50). -/
def takeOrders (f : FeederId) (n : CycleNo) (s : State) : State :=
  if (s.feeder f).running then
    let taken := (s.feeder f).orderQueue.take Config.ordersPerCycle
    let s := s.onFeeder f fun x =>
      { x with orderQueue := x.orderQueue.drop Config.ordersPerCycle
               sending := x.sending.map fun c => { c with orders := c.orders ++ taken } }
    taken.foldl (orderReport f n) (fillOrders f s)
  else s

/-- One frame placed in the cycle and metered, or discarded for its drop's state (R6, R156). -/
def placeFrame (f : FeederId) (fr : DownFrame) (s : State) : State :=
  if (s.drop f fr.index).state.delivering then
    meterFrame false f fr.index (fr.data.length + 4) <| s.onFeeder f fun x =>
      { x with sending := x.sending.map fun c => { c with segments := c.segments ++ [fr] } }
  else
    s.onFeeder f fun x => { x with downCount := { x.downCount with notDelivering := x.downCount.notDelivering + 1 } }

/-- Frames taken from the head of the queue while they fit in `room` bytes (R6). -/
def takeFrames (f : FeederId) : List DownFrame → Nat → State → State
  | [], _, s => s.onFeeder f fun x => { x with downQueue := [] }
  | fr :: rest, room, s =>
    if room < fr.bytes then s.onFeeder f fun x => { x with downQueue := fr :: rest }
    else
      let left := if (s.drop f fr.index).state.delivering then room - fr.bytes else room
      takeFrames f rest left (placeFrame f fr s)

/-- Bytes that the segments placed in a cycle take (R5). -/
def DownCycle.segmentBytes (c : DownCycle) : Nat := (c.segments.map DownFrame.bytes).sum

/-- The frames of the cycle that begins on a RUNNING feeder, in what remains of its data area (R6). -/
def frameCycle (f : FeederId) (s : State) : State :=
  match (s.feeder f).sending with
  | some c => if (s.feeder f).running then takeFrames f (s.feeder f).downQueue (c.dataArea - c.segmentBytes) s else s
  | none => s

/-- The front of a queue up to its `count`-th frame that goes out. -/
def frontHolding (goes : DownFrame → Bool) : Nat → List DownFrame → List DownFrame
  | 0, _ => []
  | _, [] => []
  | n + 1, fr :: rest => fr :: frontHolding goes (if goes fr then n else n + 1) rest

/-- The framer takes frames for cycle `n`, while they fit, until the cycle holds `count` of them; the rest is taken later
at the same origin, so that close steps, other feeders' meterings and the build of the feeder's own plan may come between
two meterings of one feeder (R6, R160, R170). Where the plan is still to be built, a frame fits if it fits beside the
largest plan (log 28). -/
def framePart (f : FeederId) (n : CycleNo) (count : Nat) (s : State) : State :=
  let x := s.feeder f
  match x.sending with
  | some c =>
    if x.running then
      let front := frontHolding (fun fr => (s.drop f fr.index).state.delivering) (count - c.segments.length) x.downQueue
      let area := if (x.slotOf n).isSome then c.dataArea else Config.leastDataArea
      (takeFrames f front (area - c.segmentBytes) s).onFeeder f fun y =>
        { y with downQueue := y.downQueue ++ x.downQueue.drop front.length }
    else s
  | none => s

/-- Frames that wait in the feeder's downstream queue. -/
def State.framesWaiting (s : State) (f : FeederId) : Nat := (s.feeder f).downQueue.length

/-- Bytes that the data area of the cycle under construction has. -/
def State.dataRoom (s : State) (f : FeederId) : Nat := (((s.feeder f).sending.map DownCycle.dataArea).getD 0)

/-- Bytes that the segments of the cycle under construction take. -/
def State.dataUsed (s : State) (f : FeederId) : Nat := (((s.feeder f).sending.map DownCycle.segmentBytes).getD 0)

/-- The feeder's frames taken and metered at an origin before its plan is built (R6, R160, the worked case of
chapter 10): those that fit beside the plan. Where the plan built after their metering would leave another number of
them fitting, the build is taken first (log 28). -/
def framesBeforePlan (f : FeederId) (n : CycleNo) (s : State) : State :=
  let planFirst := frameCycle f (buildPlan f n s)
  if (s.feeder f).running then
    let queue := (s.feeder f).downQueue
    let used := s.dataUsed f
    let framed := takeFrames f queue ((buildPlan f n s).dataRoom f - used) s
    let built := buildPlan f n framed
    if (takeFrames f queue (built.dataRoom f - used) s).framesWaiting f = framed.framesWaiting f then built else planFirst
  else planFirst

end Sys2Proof.Machine
end

