-- ==== Sys2Proof/Machine/Management.lean ====
section
/-! DEFINITION. The agent's own requests: BIND, READ, CLEAR_FLAGS, and the bind timeout (R176, R180, R184, R185). -/

namespace Sys2Proof.Machine

/-! ## Binding (R176) -/

/-- A BIND that begins a binding, or begins it anew (R176). -/
def beginBinding (h : MgmtHead) (number : Nat) (s : State) : State :=
  answer h.tag 1 (.done (.bindEcho number)) <| s.onAgent fun a =>
    { a with bind := .binding, controller := some h.src, partAddr := some h.dst, bindNumber := number, bindAge := 0 }

/-- A BIND equals the one held (R176). -/
def Agent.confirms (a : Agent) (h : MgmtHead) (number : Nat) : Bool :=
  decide (a.controller = some h.src) && decide (a.partAddr = some h.dst) && decide (a.bindNumber = number)

/-- The bind age of a BINDING agent grows at a cycle start (R176). -/
def growBindAge (s : State) : State :=
  s.onAgent fun a => if a.bind = .binding then { a with bindAge := min (a.bindAge + 1) Config.longCycles } else a

/-- The return to UNBOUND, if the bind age has reached 4,000 (R176). The bind number, which R176 makes absent though its
range holds no absent value, becomes its value after reset, 0; the bind age stays (DEDUCED, log 42). -/
def bindTimeout (s : State) : State :=
  s.onAgent fun a =>
    if a.bind = .binding ∧ Config.longCycles ≤ a.bindAge then
      { a with bind := .unbound, controller := none, partAddr := none, bindNumber := 0 }
    else a

/-- BIND_TIMEOUT (R176). -/
def execBindTimeout (s : State) : Host.Outcome State Fault Refusal := live s bindTimeout

/-- A BIND frame taken by the table of R176. -/
def bindDecided (h : MgmtHead) (number : Nat) (s : State) : State :=
  match s.agent.bind with
  | .unbound => if holdFull s then dropRequest s else beginBinding h number s
  | .binding =>
    if holdFull s then dropRequest s
    else if s.agent.confirms h number then
      answer h.tag 1 (.done .empty) (s.onAgent fun a => { a with bind := .bound })
    else beginBinding h number s
  | .bound =>
    if s.agent.controller ≠ some h.src then
      s.onAgent fun a => { a with count := { a.count with foreign := a.count.foreign + 1 } }
    else if holdFull s then dropRequest s
    else answer h.tag 1 (.refused .wrongState) s

/-- A BIND frame taken. A timeout due at a cycle start already taken comes first: the BIND then finds the agent UNBOUND
(R176, log 4). -/
def takeBind (h : MgmtHead) (number : Nat) (s : State) : State := bindDecided h number (bindTimeout s)

/-- BIND (R176). -/
def execBind (h : MgmtHead) (number : Nat) (s : State) : Host.Outcome State Fault Refusal :=
  live s (inTurn (.bind h number) (takeBind h number))

/-! ## READ (R180, R185) -/

/-- A feeder's entry of the part status record (R185). -/
def Feeder.status (x : Feeder) : FeederStatus where
  running := x.running
  pointer := x.pointer
  overbooked := x.overbooked
  replyOverrun := x.replyOverrun
  enrol := x.enrolCount
  rogue := x.rogue
  stuck := x.stuck.isSome
  quiet := x.quiet
  recent := x.recent.length
  reception := x.receptionCount
  light := x.lightCount
  upstream := x.upCount
  downstream := x.downCount

/-- The part status record (R185, R175). -/
def State.status (s : State) : PartStatus where
  bind := s.agent.bind
  controller := s.agent.controller
  partAddr := s.agent.partAddr
  noticeLost := s.agent.noticeLost
  notices := s.agent.notices.length
  hold := s.agent.hold.length
  classifier := s.uplink.classifier
  transmit := s.uplink.transmit
  unbilled := s.meter.unbilled
  clock := s.meter.clock
  nextNumber := s.meter.nextNumber
  records := s.meter.queue.length
  exportHeld := s.meter.held
  exported := s.meter.exported
  lateCloses := s.meter.lateCloses
  cursor := s.meter.pass.map ClosePass.cursor
  agent := s.agent.count
  feeders := s.feeders.map Feeder.status

/-- What entry 0 of the PROFILE table reads as (R17). -/
def profileZero : Profile := ⟨.shared, 0, 0, 0⟩

/-- A table that holds entries 0 to `last`. -/
def readUpTo (last index : Nat) (body : ResponseBody) : Verdict :=
  if index ≤ last then .done body else .refused .badIndex

/-- A table held for each feeder (R180). -/
def readFeederTable (index : Nat) (body : FeederId → ResponseBody) : Verdict :=
  match FeederId.ofNat? index with
  | none => .refused .badIndex
  | some f => .done (body f)

/-- The DROP table, at feeder times 64 plus drop index minus 1 (R187). -/
def readDrop (index : Nat) (s : State) : Verdict :=
  readFeederTable (index / 64) fun f => .drop (s.drop f (index % 64 + 1))

/-- The LANE table, in lane-key order from 0 (R187). -/
def readLane (index : Nat) (s : State) : Verdict :=
  readFeederTable (index / 256) fun f => .lane ((s.feeder f).lane (index % 256 / 4 + 1) (index % 4))

/-- What a READ answers (R180). -/
def readTable (table index : Nat) (s : State) : Verdict :=
  match table with
  | 1 => readUpTo 511 index (.admission (s.place index))
  | 2 => readUpTo 63 index (.profile (if index = 0 then profileZero else s.profile index))
  | 3 => readUpTo 2047 index (.flow (s.flow index))
  | 4 => readUpTo 4095 index (.tagMap (s.tagEntry index))
  | 5 => readUpTo 255 index (.account (s.account index))
  | 6 => readUpTo 15 index (.plan (s.tariffPlan index))
  | 7 => readFeederTable index fun f => .feeder (s.feeder f).settings
  | 8 => readDrop index s
  | 9 => readLane index s
  | 10 => readFeederTable index fun f => .replies (s.feeder f).replies
  | 11 => readFeederTable index fun f => .isolation (s.feeder f).isolation
  | 12 => readUpTo 0 index (.status s.status)
  | _ => .refused .badTable

/-- READ (R180): a snapshot, and nothing changes. -/
def execRead (h : MgmtHead) (table index : Nat) (s : State) : Host.Outcome State Fault Refusal :=
  live s (takeRequest (.read h table index) h 2 fun s => (s, readTable table index s))

/-! ## CLEAR_FLAGS (R184) -/

/-- CLEAR_FLAGS decided (R184). -/
def clearFlagsDecided (flags : List Nat) (s : State) : State × Verdict :=
  if flags.isEmpty ∨ flags.any (fun n => decide (8 < n)) then refuseWith .badValue s
  else
    let s' := flags.foldl (fun s n => clearFlag n s) s
    (s', .done (allFlags s'))

/-- CLEAR_FLAGS (R184). -/
def execClearFlags (h : MgmtHead) (flags : List Nat) (s : State) : Host.Outcome State Fault Refusal :=
  live s (takeRequest (.clearFlags h flags) h 20 (clearFlagsDecided flags))

end Sys2Proof.Machine
end

