-- ==== Sys2Proof/Machine/Reassembly.lean ====
section
/-! DEFINITION. The staging list, reassembly and completed upstream frames (R65, R67 to R72). -/

namespace Sys2Proof.Machine

/-- The upstream discard counters of a feeder changed (R72). -/
def onUpCount (f : FeederId) (g : UpstreamCounters → UpstreamCounters) (s : State) : State :=
  s.onFeeder f fun x => { x with upCount := g x.upCount }

/-- A frame that passed the flow check is offered to the uplink and metered if it joins (R71). -/
def offerUpstream (f : FeederId) (d tag : Nat) (bytes : List Byte) (s : State) : State :=
  if s.uplink.traffic.length < Config.trafficPlaces then
    meterFrame true f d bytes.length (s.onUplink fun u => { u with traffic := u.traffic ++ [⟨tag, bytes⟩] })
  else onUpCount f (fun c => { c with uplinkFull := c.uplinkFull + 1 }) s

/-- The check of a completed frame (R70). -/
def frameComplete (f : FeederId) (d lane flow : Nat) (bytes : List Byte) (s : State) : State :=
  if bytes.length < Config.minFrame then onUpCount f (fun c => { c with runt := c.runt + 1 }) s
  else
    let r := s.flow flow
    if r.feeder ≠ f ∨ r.drop ≠ d ∨ r.lane ≠ lane then
      onUpCount f (fun c => { c with misrouted := c.misrouted + 1 }) s
    else offerUpstream f d r.tag bytes s

/-- The reassembly slot written. -/
def writePartial (f : FeederId) (d lane : Nat) (p : Option Partial) (s : State) : State :=
  s.onFeeder f fun x => x.setPartial d lane p

/-- A partial frame displaced by a FIRST segment or an overrun mark (R66, R68). -/
def displace (f : FeederId) (d lane : Nat) (s : State) : State :=
  s.onFeeder f (discardPartial (fun c => { c with displaced := c.displaced + 1 }) d lane)

/-- A continuation taken into an occupied slot (R68). -/
def continueFrame (f : FeederId) (d lane : Nat) (p : Partial) (g : Segment) (s : State) : State :=
  if p.flow ≠ g.flow then
    writePartial f d lane none (onUpCount f (fun c => { c with flowBreak := c.flowBreak + 1 }) s)
  else if Config.maxFrame < p.payload.length + g.payload.length then
    writePartial f d lane none (onUpCount f (fun c => { c with oversize := c.oversize + 1 }) s)
  else
    let bytes := p.payload ++ g.payload
    if g.last then frameComplete f d lane p.flow bytes (writePartial f d lane none s)
    else writePartial f d lane (some { p with payload := bytes }) s

/-- One segment taken into its lane's slot (R68). -/
def commitSegment (f : FeederId) (n : CycleNo) (d lane : Nat) (g : Segment) (s : State) : State :=
  if g.first then
    let s := displace f d lane s
    if g.last then frameComplete f d lane g.flow g.payload s
    else writePartial f d lane (some ⟨g.flow, n, g.payload⟩) s
  else match (s.feeder f).partialFrame d lane with
    | none => onUpCount f (fun c => { c with orphan := c.orphan + 1 }) s
    | some p => continueFrame f d lane p g s

/-- An overrun mark committed (R66). -/
def commitOverrun (f : FeederId) (d lane : Nat) (s : State) : State :=
  onUpCount f (fun c => { c with laneOverrun := c.laneOverrun + 1 }) (displace f d lane s)

/-- One element of the staging list committed (R65). -/
def commitStaged (f : FeederId) (s : State) (g : Staged) : State :=
  match g.item with
  | none => commitOverrun f g.d g.lane s
  | some seg => commitSegment f g.cycle g.d g.lane seg s

/-- "Commit" for a window (R65). -/
def commitWindow (f : FeederId) (n : CycleNo) (d : Nat) (s : State) : State :=
  let mine := (s.feeder f).staging.filter fun g => decide (g.cycle = n) && decide (g.d = d)
  mine.foldl (commitStaged f) (s.onFeeder f fun x => { x with staging := [] })

/-- "Drop" for a window, with the lanes that had words granted (R62, R65). -/
def dropWindow (f : FeederId) (d : Nat) (lanes : List Nat) (s : State) : State :=
  s.onFeeder f fun x => lanes.foldl
    (fun x l => discardPartial (fun c => { c with lostInFlight := c.lostInFlight + 1 }) d l x) { x with staging := [] }

/-! ## Age (R69) -/

/-- A reassembly slot examined for age (R69). -/
def ageOutSlot (f : FeederId) (s : State) (k : Nat × Nat) : State :=
  s.onFeeder f fun x =>
    match x.partialFrame k.1 k.2 with
    | none => x
    | some p =>
      if Config.longCycles ≤ cyclesFrom p.arrival s.cycle then
        discardPartial (fun c => { c with agedOut := c.agedOut + 1 }) k.1 k.2 x
      else x

/-- Every occupied reassembly slot of a feeder examined (R69). -/
def ageOuts (f : FeederId) (s : State) : State :=
  ((s.feeder f).reassembly.map fun e => (e.1 / 4 + 1, e.1 % 4)).foldl (ageOutSlot f) s

/-- REASSEMBLY_AGE_OUT (R69). -/
def execReassemblyAgeOut (f : FeederId) (d lane : Nat) (s : State) : Host.Outcome State Fault Refusal :=
  live s fun s => ageOutSlot f s (d, lane)

end Sys2Proof.Machine
end

