-- ==== Sys2Proof/Machine/CycleStart.lean ====
section
/-! DEFINITION. The cycle start: the cycle number, and the work of every block at the origin (R1). -/

namespace Sys2Proof.Machine

/-- One piece of cycle-start work, for cycle `n`. -/
def runWork (n : CycleNo) (s : State) (w : CycleWork) : State :=
  match w with
  | .build f => buildPlan f n s
  | .orders f => takeOrders f n s
  | .frames f => frameCycle f s
  | .framesFirst f => framesBeforePlan f n s
  | .framesTo f count => framePart f n count s
  | .idle f => countIdle f s
  | .doze f => dozeTests f s
  | .queryAge f => growQueryAges f s
  | .queryTimeout f => queryTimeouts f s
  | .decay f => countDecay f s
  | .strikeDecay f => strikeDecay f s
  | .autoIsolate f => autoIsolate f s
  | .refill => refillBuckets s
  | .outage => countOutage s
  | .quarter => countQuarter s
  | .boundary => quarterBoundary s
  | .closeThrough slot => closeThrough slot s
  | .exportCount => exportAndSend (s.onMeter fun m => { m with exportCount := 0 })
  | .bindAge => growBindAge s
  | .bindTimeout => bindTimeout s
  | .ageOut => FeederId.all.foldl (fun s f => ageOuts f s) s

/-- The work that must be done before a piece of work: framing follows the plan and the orders (R3, R6), and a
test follows its count. A part of the framing may come before the plan, so that the build may fall before, after or
between the meterings of one feeder (R160 gives either order for each metering step; logs 3 and 28). -/
def workNeeds : CycleWork → List CycleWork
  | .frames f => [.build f, .orders f]
  | .framesFirst f => [.orders f]
  | .framesTo f _ => [.orders f]
  | .doze f => [.idle f]
  | .queryTimeout f => [.queryAge f]
  | .strikeDecay f => [.decay f]
  | .boundary => [.quarter]
  | .closeThrough _ => [.quarter, .boundary]
  | .bindTimeout => [.bindAge]
  | _ => []

/-- The work that every cycle start does, in the order taken where the command gives none (log 3). -/
def mandatoryWork : List CycleWork :=
  FeederId.all.flatMap (fun f => [.build f, .orders f, .frames f]) ++
  FeederId.all.flatMap (fun f => [.idle f, .queryAge f, .decay f, .autoIsolate f]) ++
  [.refill, .outage, .quarter, .exportCount, .bindAge]

/-- Work that another piece of the command's order stands for: a feeder's build and framing, where the framing is
taken first. -/
def standsFor (order : List CycleWork) : CycleWork → Bool
  | .build f => decide (.framesFirst f ∈ order)
  | .frames f => decide (.framesFirst f ∈ order)
  | _ => false

/-- The work of a cycle start in the order it is taken: the command's own first, each piece once and after what it
needs. -/
def schedule (order : List CycleWork) : List CycleWork :=
  (dedup ((order ++ mandatoryWork).flatMap fun w => workNeeds w ++ [w])).filter fun w => !standsFor order w

/-- What the last cycle start made due on a feeder and no command has yet taken (log 4): the part takes it before the
next. -/
def settleFeeder (s : State) (f : FeederId) : State :=
  ageOuts f (strikeDecay f (queryTimeouts f (dozeTests f s)))

/-- Everything still due from the last cycle start: a close pass under way is completed (R170), and what waits for a
free place joins its class (R173, R179, R183, log 36). The feeders' work, and the notices that it asks for, are taken from
F0 to F3 (R87 and the other rules give no order: DESIGN CHOICE, log 56). -/
def settle (s : State) : State :=
  handOver (closeSteps Config.accountSlots (quarterBoundary (bindTimeout (FeederId.all.foldl settleFeeder s))))

/-- The slot that the next plan enters is FREE on every RUNNING feeder, as R46 says it is. -/
def ringReady (s : State) : Bool :=
  FeederId.all.all fun f => !(s.feeder f).running || ((s.feeder f).ring.get (slotNumber (s.cycle + 1))).isNone

/-- The cycle number advances and every framer begins its cycle (R1, R3). -/
def newOrigin (s : State) : State :=
  { s with cycle := s.cycle + 1, feeders := s.feeders.map fun x => x.newCycle (s.cycle + 1) }

/-- The cycle start (R1). -/
def cycleStart (order : List CycleWork) (s : State) : State :=
  let s := newOrigin (settle s)
  (schedule order).foldl (runWork s.cycle) s

/-- CYCLE_START (R1). -/
def execCycleStart (order : List CycleWork) (s : State) : Host.Outcome State Fault Refusal :=
  if !s.resetHeld && !ringReady s then .fault .ringSlotOccupied else live s (cycleStart order)

end Sys2Proof.Machine
end

