-- ==== Sys2Proof/Machine/Line.lean ====
section
/-! DEFINITION. The upstream words of R186: the two checks, the fields of label, report, segment header, reply and
echo words, and the reading of a DATA burst's body (R10, R11, R57, R58, R66). -/

namespace Sys2Proof.Machine

/-! ## The checks (R186) -/

/-- One bit into a CRC register, most significant bit first, not reflected. -/
def crcBit {w : Nat} (poly : BitVec w) (r : BitVec w) (bit : Bool) : BitVec w :=
  if (r.msb != bit) then (r <<< 1) ^^^ poly else r <<< 1

/-- The bits of a value, most significant first. -/
def bitsOf {n : Nat} (v : BitVec n) : List Bool := (List.range n).map fun i => v.getMsbD i

/-- The label check over bits 31 to 16 of the label word (R186). -/
def labelCheck (label : Word) : BitVec 16 :=
  (bitsOf (label.extractLsb' 16 16)).foldl (crcBit 0x1021#16) (BitVec.allOnes 16)

/-- One 32-bit word into the end check. -/
def endCheckWord (r : BitVec 32) (w : Word) : BitVec 32 := (bitsOf w).foldl (crcBit 0x04C11DB7#32) r

/-- The end check over words (R186). -/
def endCheck (ws : List Word) : BitVec 32 := ~~~(ws.foldl endCheckWord (BitVec.allOnes 32))

/-- The end-check CRC over bytes, as the cycle header carries it (R186). -/
def endCheckBytes (bs : List Byte) : BitVec 32 :=
  ~~~(bs.foldl (fun r b => (bitsOf b).foldl (crcBit 0x04C11DB7#32) r) (BitVec.allOnes 32))

/-! ## Fields (R186) -/

/-- Bits `hi` to `lo` of a word. -/
def field (w : Word) (hi lo : Nat) : Nat := w.toNat / 2 ^ lo % 2 ^ (hi + 1 - lo)

/-- The label check of a label passes (R57). -/
def labelOk (label : Word) : Bool := decide (field label 15 0 = (labelCheck label).toNat)

/-- Drop index of a label, or of an echo word. -/
def indexField (w : Word) : Nat := field w 31 24

/-- Burst kind of a label: DATA 1, REPLY 2, RANGE 3. -/
def kindField (w : Word) : Nat := field w 23 20

/-- Reported-lane count of a label. -/
def countField (w : Word) : Nat := field w 19 16

/-- The backlog of a report word. -/
def backlogField (w : Word) : Nat := field w 15 0

/-- Flow number of a segment header. -/
def flowField (w : Word) : Nat := field w 31 21

/-- FIRST of a segment header. -/
def firstField (w : Word) : Bool := decide (field w 20 20 = 1)

/-- LAST of a segment header. -/
def lastField (w : Word) : Bool := decide (field w 19 19 = 1)

/-- Byte length of a segment header. -/
def lengthField (w : Word) : Nat := field w 18 8

/-- k of a reply's info word. -/
def kField (w : Word) : Nat := field w 23 20

/-- Lane count of a reply's info word. -/
def laneCountField (w : Word) : Nat := field w 18 16

/-- The factory tag of a reply's two tag words. -/
def tagOf (high low : Word) : FactoryTag := high ++ low

/-- The four bytes of a word, bits 31 to 24 first. -/
def wordBytes (w : Word) : List Byte :=
  [w.extractLsb' 24 8, w.extractLsb' 16 8, w.extractLsb' 8 8, w.extractLsb' 0 8]

/-! ## Decisions on a label -/

/-- What a BURST window's label decides (R57): a finding, or, absent, that the body is read. -/
def dataLabel (d r : Nat) (label : Word) : Option Found :=
  if !labelOk label ∨ 64 < indexField label then some .garbledLabel
  else if indexField label ≠ d then some (.mislabelled (indexField label))
  else if kindField label ≠ 1 ∨ countField label ≠ r then some .garbledLabel
  else none

/-- What a RANGING window's burst decides (R60). -/
def rangeReply (d : Nat) (b : Int) (label echo endMark : Word) : Found :=
  if !labelOk label ∨ 64 < indexField label ∨ indexField echo ≠ indexField label then .garbledLabel
  else if indexField label ≠ d then .mislabelled (indexField label)
  else if kindField label ≠ 3 ∨ countField label ≠ 0 then .garbledLabel
  else if endMark ≠ endCheck [label, echo] then .garbledEnd
  else .received ⟨b, [], false, true⟩

/-- What a discovery reply's words decide (R61). -/
inductive ReplyReading where
  | garbled
  | mislabel (named : Nat)
  | taken (tag : FactoryTag) (lanes k : Nat)
deriving DecidableEq, Repr

/-- The decision on a discovery reply (R61). -/
def discoveryReply (label tagHigh tagLow info endMark : Word) : ReplyReading :=
  if !labelOk label ∨ 64 < indexField label then .garbled
  else if indexField label ≠ 0 then .mislabel (indexField label)
  else if kindField label ≠ 2 ∨ countField label ≠ 0 then .garbled
  else if endMark ≠ endCheck [label, tagHigh, tagLow, info] then .garbled
  else if 1 ≤ laneCountField info ∧ laneCountField info ≤ 4 then
    .taken (tagOf tagHigh tagLow) (laneCountField info) (kField info)
  else .garbled

/-! ## The body of a DATA burst (R58, R66) -/

/-- The reading of a body once its label has passed, with the window's allocations. -/
def Body.start (label : Word) (allocs : List (Nat × Nat)) : Body :=
  ⟨[label], [], allocs.length, allocs.filter (fun a => decide (a.2 ≠ 0)), .header, false⟩

/-- Every report and every granted word has been read. -/
def Body.whole (b : Body) : Bool := decide (b.reportsLeft = 0) && b.lanes.isEmpty

/-- The place after a header word with `left` granted words of the lane, the header's own counted (R66). An
overrun leaves a mark: the second part. -/
def headerPlace (w : Word) (left : Nat) : LanePlace × Bool :=
  let len := lengthField w
  if len = 0 then (.passing, false)
  else if Config.maxFrame < len ∨ left < 1 + ceilDiv len 4 then (.passing, true)
  else (.payload ⟨flowField w, firstField w, lastField w, []⟩ len, false)

/-- What one word of lane data does (R66): the place after it and what is appended to the staging list: `some none`
an overrun mark, `some (some g)` a segment. -/
def laneWord (w : Word) (left : Nat) (p : LanePlace) : LanePlace × Option (Option Segment) :=
  match p with
  | .passing => (.passing, none)
  | .header =>
    match headerPlace w left with
    | (p, true) => (p, some none)
    | (p, false) => (p, none)
  | .payload seg n =>
    let seg := { seg with payload := seg.payload ++ (wordBytes w).take n }
    if n ≤ 4 then (.header, some (some seg)) else (.payload seg (n - 4), none)

/-- One further word of a body; with it what the staging list takes: the lane and a segment or a mark (R58, R66).
A word past the body's end is not read. -/
def Body.read (b : Body) (w : Word) : Body × Option (Nat × Option Segment) :=
  if b.reportsLeft ≠ 0 then
    ({ b with words := b.words ++ [w], reports := b.reports ++ [backlogField w], reportsLeft := b.reportsLeft - 1 }, none)
  else match b.lanes with
    | [] => (b, none)
    | (l, left) :: rest =>
      let r := laneWord w left b.place
      let lanes := if left ≤ 1 then rest else (l, left - 1) :: rest
      let place := if left ≤ 1 then .header else r.1
      let split := match r.2 with
        | some (some _) => true
        | _ => false
      ({ b with words := b.words ++ [w], lanes := lanes, place := place, carriedData := b.carriedData || split },
        r.2.map fun i => (l, i))

/-- What a whole body and its end mark decide (R58). -/
def Body.decide (b : Body) (arrival : Int) (endMark : Word) : Found :=
  if endMark = endCheck b.words then .received ⟨arrival, b.reports, b.carriedData, b.reports.all (· == 0)⟩
  else .garbledEnd

end Sys2Proof.Machine
end

