-- ==== Sys2Proof/Machine/Reception.lean ====
section
/-! DEFINITION. The burst reader and the resolution of windows (R12, R13, R20, R45, R47, R49, R54 to R66). -/

namespace Sys2Proof.Machine

/-! ## Taking a first transition (R12, R54, R55) -/

/-- The arrival position B of a first transition found `ticks` eighth bit times into the cycle under way: the whole
bit time, halves rounded down, less the lock run (R12). -/
def arrivalPosition (ticks : Int) : Int := (ticks + 3) / 8 - 768

/-- B lies in the acceptance interval of an entry (R55). -/
def Entry.accepts (e : Entry) (b : Int) : Bool :=
  match e with
  | .burst _ w _ _ _ => decide (32 * (w : Int) - 256 ≤ b) && decide (b ≤ 32 * (w : Int) + 256)
  | .ranging _ w _ => decide (32 * (w : Int) ≤ b) && decide (b ≤ 32 * ((w : Int) + 19))
  | .discovery w n _ => decide (32 * (w : Int) ≤ b) && decide (b ≤ 32 * ((w : Int) + n - 47))
  | .dark _ _ => false

/-- A window takes a first transition at B: it is open, and holds no burst yet unless it is a DISCOVERY window
(R54, R55). -/
def Window.takes (w : Window) (b : Int) : Bool :=
  w.entry.accepts b && decide (w.resolution = .unresolved) &&
  (decide (w.entry.windowId = some .discovery) || decide (w.found = .nothing))

/-- The window of a slot that takes a first transition at B (R55). -/
def Slot.takingWindow (sl : Slot) (b : Int) : Option WindowId :=
  (sl.windows.find? fun w => w.takes b).bind fun w => w.entry.windowId

/-- The finding for a window, written in its ring slot. -/
def Feeder.setFound (x : Feeder) (n : CycleNo) (w : WindowId) (g : Found) : Feeder :=
  match x.slotOf n with
  | none => x
  | some sl => x.setSlot n (some (sl.onWindow w fun v => { v with found := g }))

/-- The reader serves a window from now on. A first transition taken for any window discards what an earlier burst left
in the staging list (R54; R65, its table for a BURST window and its text after FEEDER_STOP for every window). -/
def Feeder.serve (x : Feeder) (n : CycleNo) (w : WindowId) (b : Int) : Feeder :=
  let x := { x with reader := .measuring n w b false, staging := [] }
  if w = .discovery then x else x.setFound n w .taken

/-- A first transition is taken for an open window or passed over (R54, R55). A window of the plan that follows
counts B from its own cycle. -/
def Feeder.firstTransition (x : Feeder) (ticks : Int) : Feeder :=
  match x.reader, x.receiving with
  | .idle, some sl =>
    let b := arrivalPosition ticks
    match sl.takingWindow b with
    | some w => x.serve sl.cycle w b
    | none =>
      match x.slotOf (sl.cycle + 1) with
      | none => x
      | some next =>
        match next.takingWindow (b - Config.cycleBits) with
        | some w => x.serve next.cycle w (b - Config.cycleBits)
        | none => x
  | _, _ => x

/-- A rising transition is a sync mark's first: it follows at least 24 dark bit times and opens a run of 6 to 8 bit
times of light (R186). -/
def opensMark (edge : RisingTransition) : Bool := decide (24 ≤ edge.dark) && within 6 8 edge.lit

/-- SYNC_FIRST_TRANSITION (R55). A transition that opens no sync mark is passed over (R186). -/
def execSyncFirstTransition (f : FeederId) (edge : RisingTransition) (s : State) :
    Host.Outcome State Fault Refusal :=
  live s fun s => if opensMark edge then s.onFeeder f fun x => x.firstTransition edge.ticks else s

/-! ## The measurement (R13) -/

/-- The counters of R64 changed. -/
def Feeder.onReception (x : Feeder) (g : ReceptionCounters → ReceptionCounters) : Feeder :=
  { x with receptionCount := g x.receptionCount }

/-- A garbled reply is counted (R61, R64). -/
def Feeder.replyGarbled (x : Feeder) : Feeder := x.onReception fun c => { c with repliesGarbled := c.repliesGarbled + 1 }

/-- The burst served is garbled in its measurement, and the reader returns to IDLE (R13, R54, R61). -/
def Feeder.measurementGarbled (x : Feeder) (n : CycleNo) (w : WindowId) : Feeder :=
  let x := { x with reader := .idle }
  match w with
  | .discovery => x.replyGarbled
  | _ => x.setFound n w .garbledSpan

/-- The fifth transition with its span (R13). -/
def Feeder.markMeasured (x : Feeder) (span : Nat) : Feeder :=
  match x.reader with
  | .measuring n w b overlong =>
    if !overlong && decide (440 ≤ span) && decide (span ≤ 456) then { x with reader := .label n w b }
    else x.measurementGarbled n w
  | _ => x

/-- SYNC_MARK_MEASURED (R13). -/
def execSyncMarkMeasured (f : FeederId) (span : Nat) (s : State) : Host.Outcome State Fault Refusal :=
  live s fun s => s.onFeeder f fun x => x.markMeasured span

/-- The span counter reaches 1,023 (R13). -/
def Feeder.markOverlong (x : Feeder) : Feeder :=
  match x.reader with
  | .measuring n w b _ => { x with reader := .measuring n w b true }
  | _ => x

/-- SYNC_OVERLONG (R13). -/
def execSyncOverlong (f : FeederId) (s : State) : Host.Outcome State Fault Refusal :=
  live s fun s => s.onFeeder f Feeder.markOverlong

/-- The window ends between the first transition and the fifth (R13). -/
def Feeder.markCutOff (x : Feeder) : Feeder :=
  match x.reader with
  | .measuring n w _ _ => x.measurementGarbled n w
  | _ => x

/-- CUT_OFF_MARK (R13). -/
def execCutOffMark (f : FeederId) (s : State) : Host.Outcome State Fault Refusal :=
  live s fun s => s.onFeeder f Feeder.markCutOff

/-! ## Reading (R57, R58, R60, R61, R66) -/

/-- The lane allocations of the BURST window for index `d` in plan `n`. -/
def Feeder.allocations (x : Feeder) (n : CycleNo) (d : Nat) : List (Nat × Nat) :=
  match (x.slotOf n).bind fun sl => sl.window (.burst d) with
  | some ⟨.burst _ _ _ allocs _, _, _⟩ => allocs
  | _ => []

/-- A decision ends the reading of a window's burst (R54). -/
def Feeder.decided (x : Feeder) (n : CycleNo) (w : WindowId) (g : Found) : Feeder :=
  { x with reader := .idle }.setFound n w g

/-- The label of a BURST window's burst (R57). -/
def Feeder.readLabel (x : Feeder) (label : Word) : Feeder :=
  match x.reader with
  | .label n (.burst d) b =>
    let allocs := x.allocations n d
    match dataLabel d allocs.length label with
    | some g => x.decided n (.burst d) g
    | none => { x with reader := .body n (.burst d) b (Body.start label allocs) }
  | _ => x

/-- LABEL_READ (R57). -/
def execLabelRead (f : FeederId) (label : Word) (s : State) : Host.Outcome State Fault Refusal :=
  live s fun s => s.onFeeder f fun x => x.readLabel label

/-- One further word of the body under way; a segment or an overrun mark joins the staging list as its last word
is read (R58, R65, R66). -/
def Feeder.readWord (x : Feeder) (w : Word) : Feeder :=
  match x.reader with
  | .body n (.burst d) b body =>
    let r := body.read w
    let x := { x with reader := .body n (.burst d) b r.1 }
    match r.2 with
    | none => x
    | some (l, item) => { x with staging := x.staging ++ [⟨n, d, l, item⟩] }
  | _ => x

/-- SEGMENT_SPLIT (R66). -/
def execSegmentSplit (f : FeederId) (words : List Word) (s : State) : Host.Outcome State Fault Refusal :=
  live s fun s => s.onFeeder f fun x => words.foldl Feeder.readWord x

/-- The end mark of a body read whole (R58). -/
def Feeder.readEnd (x : Feeder) (endMark : Word) : Feeder :=
  match x.reader with
  | .body n (.burst d) b body => if body.whole then x.decided n (.burst d) (body.decide b endMark) else x
  | _ => x

/-- END_MARK_READ (R58). -/
def execEndMarkRead (f : FeederId) (words : List Word) (endMark : Word) (s : State) : Host.Outcome State Fault Refusal :=
  live s fun s => s.onFeeder f fun x => (words.foldl Feeder.readWord x).readEnd endMark

/-- A range reply's words (R60). -/
def Feeder.readRange (x : Feeder) (label echo endMark : Word) : Feeder :=
  match x.reader with
  | .label n (.ranging d) b => x.decided n (.ranging d) (rangeReply d b label echo endMark)
  | _ => x

/-- RANGE_REPLY_READ (R60). -/
def execRangeReplyRead (f : FeederId) (label echo endMark : Word) (s : State) : Host.Outcome State Fault Refusal :=
  live s fun s => s.onFeeder f fun x => x.readRange label echo endMark

/-- A discovery reply's words (R61): garbled, a MISLABEL handed on at once, or taken and handed on at once. -/
def readReply (f : FeederId) (label tagHigh tagLow info endMark : Word) (s : State) : State :=
  match (s.feeder f).reader with
  | .label n .discovery b =>
    let s := s.onFeeder f fun x => { x with reader := .idle }
    match discoveryReply label tagHigh tagLow info endMark with
    | .garbled => s.onFeeder f Feeder.replyGarbled
    | .mislabel named =>
      takeMislabel f named <| s.onFeeder f fun x =>
        x.onReception fun c => { c with mislabelled := c.mislabelled + 1 }
    | .taken tag lanes k =>
      takeReply f n tag lanes k b <| s.onFeeder f fun x =>
        x.onReception fun c => { c with repliesTaken := c.repliesTaken + 1 }
  | _ => s

/-- DISCOVERY_REPLY_READ (R61). -/
def execDiscoveryReplyRead (f : FeederId) (label tagHigh tagLow info endMark : Word) (s : State) :
    Host.Outcome State Fault Refusal :=
  live s (readReply f label tagHigh tagLow info endMark)

/-! ## Resolution (R45, R47, R49, R59, R60, R62 to R64) -/

/-- The window the reader serves. -/
def Reader.serving : Reader → Option (CycleNo × WindowId)
  | .idle => none
  | .measuring n w _ _ => some (n, w)
  | .label n w _ => some (n, w)
  | .body n w _ _ => some (n, w)

/-- A burst under way at its window's resolution instant is abandoned as garbled (R54). -/
def Feeder.abandon (x : Feeder) (n : CycleNo) (w : WindowId) : Feeder :=
  if x.reader.serving = some (n, w) then x.measurementGarbled n w else x

/-- The window of plan `n` named, unresolved in a slot that is RECEIVING or DRAINING (R44, R45). -/
def Feeder.unresolved (x : Feeder) (n : CycleNo) (w : WindowId) : Option Window :=
  match x.slotOf n with
  | none => none
  | some sl => if sl.state = .waiting then none else (sl.window w).filter fun v => decide (v.resolution = .unresolved)

/-- A BURST window's owner was expected dark (R47). -/
def Feeder.excusesBurst (x : Feeder) (n : CycleNo) (d : Nat) : Bool :=
  (match (x.drop d).state with
    | .empty | .darkened | .quarantined | .leaving => true
    | _ => false) ||
  (match x.mark d with
    | none => false
    | some .waiting => true
    | some (.cycle m) => atOrBefore n m)

/-- A RANGING window is excused (R49). -/
def Feeder.excusesRanging (x : Feeder) (d : Nat) : Bool := decide ((x.drop d).state ≠ .ranging)

/-- The outcome of a BURST or RANGING window (R59, R60). -/
def outcomeOf (excused : Bool) (g : Found) : Resolution :=
  if excused then .excused
  else match g with
    | .nothing => .missing
    | .taken | .garbledSpan | .garbledLabel | .garbledEnd => .garbled
    | .mislabelled _ => .mislabelled
    | .received _ => .received

/-- The reading a RECEIVED window carries. -/
def Found.reading : Found → Option Reading
  | .received r => some r
  | _ => none

/-- The counter of R64 for a resolution. -/
def countResolution (res : Resolution) (g : Found) (c : ReceptionCounters) : ReceptionCounters :=
  match res, g with
  | .excused, _ => { c with excused := c.excused + 1 }
  | .missing, _ => { c with missing := c.missing + 1 }
  | .mislabelled, _ => { c with mislabelled := c.mislabelled + 1 }
  | .received, _ => { c with received := c.received + 1 }
  | .garbled, .garbledLabel => { c with garbledLabel := c.garbledLabel + 1 }
  | .garbled, .garbledEnd => { c with garbledEnd := c.garbledEnd + 1 }
  | .garbled, _ => { c with garbledSpan := c.garbledSpan + 1 }
  | _, _ => c

/-- The resolution set in the ring slot, and counted (R59, R64). -/
def Feeder.setResolution (x : Feeder) (n : CycleNo) (w : WindowId) (res : Resolution) (g : Found) : Feeder :=
  let x := match x.slotOf n with
    | none => x
    | some sl => x.setSlot n (some (sl.onWindow w fun v => { v with resolution := res }))
  x.onReception (countResolution res g)

/-- A lane's record after a resolution (R20). -/
def LaneRecord.resolved (r : LaneRecord) (n : CycleNo) (granted : Nat) (report : Option Nat) : LaneRecord :=
  let r := { r with outstanding := r.outstanding - granted }
  match report with
  | none => r
  | some b => { r with backlog := b, lastReport := n }

/-- The reports of a resolution, in the order of the allocations: taken on RECEIVED, for a record not EMPTY (R20). -/
def reportsTaken (x : Feeder) (d : Nat) (res : Resolution) (g : Option Reading) : List (Option Nat) :=
  match res, g with
  | .received, some r => if (x.drop d).state = .empty then [] else r.reports.map some
  | _, _ => []

/-- The Grant Scheduler's part of a resolution (R20). -/
def resolveLanes (n : CycleNo) (d : Nat) : List (Nat × Nat) → List (Option Nat) → Feeder → Feeder
  | [], _, x => x
  | (l, granted) :: rest, reports, x =>
    resolveLanes n d rest (reports.drop 1) (x.setLane d l ((x.lane d l).resolved n granted (reports.head?.bind id)))

/-- The symptom a resolution carries to the Light Monitor (R63). -/
def carrySymptom (f : FeederId) (n : CycleNo) (d : Nat) (w : WindowId) (res : Resolution) (g : Found) (s : State) : State :=
  match res, g with
  | .garbled, _ => takeGarble f d s
  | .mislabelled, .mislabelled named => takeMislabel f named s
  | .excused, .nothing => s
  | .excused, _ => s.onFeeder f fun x => x.onLight n fun l => { l with strays := l.strays ++ [w] }
  | _, _ => s

/-- A BURST window resolved and handed on: Flow Engine, Grant Scheduler, Enrolment Controller, Light Monitor (R62). -/
def resolveBurst (f : FeederId) (n : CycleNo) (d start : Nat) (allocs : List (Nat × Nat)) (flag : Option BurstFlag)
    (excused : Bool) (g : Found) (s : State) : State :=
  let w := WindowId.burst d
  let res := outcomeOf excused g
  let s := s.onFeeder f fun x => x.setResolution n w res g
  let s := if res = .received then commitWindow f n d s
    else dropWindow f d ((allocs.filter fun a => decide (0 < a.2)).map Prod.fst) s
  let s := s.onFeeder f fun x => resolveLanes n d allocs (reportsTaken x d res g.reading) x
  let s := if res = .excused then burstExcused f n d flag s else burstTaken f n d start res g.reading s
  carrySymptom f n d w res g s

/-- A RANGING window resolved and handed on: Enrolment Controller, Light Monitor (R62). -/
def resolveRanging (f : FeederId) (n : CycleNo) (d : Nat) (excused : Bool) (g : Found) (s : State) : State :=
  let w := WindowId.ranging d
  let res := outcomeOf excused g
  let s := s.onFeeder f fun x => x.setResolution n w res g
  let s := if res = .excused then s else rangingTaken f d res g.reading s
  carrySymptom f n d w res g s

/-- The finding for a window. -/
def Feeder.foundFor (x : Feeder) (n : CycleNo) (w : WindowId) : Found :=
  match (x.slotOf n).bind fun sl => sl.window w with
  | some v => v.found
  | none => .nothing

/-- A window's resolution instant (R45). -/
def resolveWindow (f : FeederId) (n : CycleNo) (w : WindowId) (s : State) : State :=
  match (s.feeder f).unresolved n w with
  | none => s
  | some v =>
    let s := s.onFeeder f fun x => x.abandon n w
    let x := s.feeder f
    let g := x.foundFor n w
    let s := match v.entry with
      | .burst d start _ allocs flag => resolveBurst f n d start allocs flag (x.excusesBurst n d) g s
      | .ranging d _ _ => resolveRanging f n d (x.excusesRanging d) g s
      | .discovery _ _ _ => s.onFeeder f fun x => x.setResolution n w .resolved g
      | .dark _ _ => s
    arbitrate (completeIfDrained f n s)

/-- BURST_WINDOW_RESOLVED (R59). -/
def execBurstWindowResolved (f : FeederId) (n : CycleNo) (d : Nat) (s : State) : Host.Outcome State Fault Refusal :=
  live s (resolveWindow f n (.burst d))

/-- RANGING_WINDOW_RESOLVED (R60). -/
def execRangingWindowResolved (f : FeederId) (n : CycleNo) (d : Nat) (s : State) : Host.Outcome State Fault Refusal :=
  live s (resolveWindow f n (.ranging d))

/-- DISCOVERY_WINDOW_RESOLVED (R61). -/
def execDiscoveryWindowResolved (f : FeederId) (n : CycleNo) (s : State) : Host.Outcome State Fault Refusal :=
  live s (resolveWindow f n .discovery)

end Sys2Proof.Machine
end

