-- ==== Sys2Proof/Machine/MgmtFrame.lean ====
section
/-! DEFINITION. Management frames of the host as bytes: the reading of a request from a frame and the writing of one
(R178, R180, R187). -/

namespace Sys2Proof.Machine

/-! ## Numbers as bytes, most significant first (13, opening) -/

/-- The low `k` bytes of a number. -/
def putNat : Nat → Nat → List Byte
  | 0, _ => []
  | k + 1, n => BitVec.ofNat 8 (n / 256 ^ k) :: putNat k n

/-- The number a list of bytes gives. -/
def natOf (bs : List Byte) : Nat := bs.foldl (fun n b => n * 256 + b.toNat) 0

/-- A field of `k` bytes read from the front, with the rest. -/
def takeNat (k : Nat) (bs : List Byte) : Option (Nat × List Byte) :=
  if k ≤ bs.length then some (natOf (bs.take k), bs.drop k) else none

/-- A 4-byte field (R187). -/
def put4 (n : Nat) : List Byte := putNat 4 n

/-- An 8-byte field (R187). -/
def put8 (n : Nat) : List Byte := putNat 8 n

/-- An optional 4-byte field: all ones when absent (R187). -/
def putOpt4 (o : Option Nat) : List Byte := put4 (o.getD (2 ^ 32 - 1))

/-- An optional field from its number. -/
def optOf (n : Nat) : Option Nat := if n = 2 ^ 32 - 1 then none else some n

/-- Four 4-byte fields. -/
def putQuad (q : Quad Nat) : List Byte := put4 q.q0 ++ put4 q.q1 ++ put4 q.q2 ++ put4 q.q3

/-- `n` 4-byte fields read from the front, with the rest. -/
def takeList : Nat → List Byte → Option (List Nat × List Byte)
  | 0, bs => some ([], bs)
  | n + 1, bs =>
    match takeNat 4 bs with
    | none => none
    | some (x, rest) => (takeList n rest).map fun r => (x :: r.1, r.2)

/-! ## Request bodies (R178, R180, R187) -/

/-- A body of fields of the widths given, exactly: their values in order, or absent. -/
def fieldsOf : List Nat → List Byte → Option (List Nat)
  | [], bs => if bs.isEmpty then some [] else none
  | k :: ks, bs =>
    match takeNat k bs with
    | none => none
    | some (x, rest) => (fieldsOf ks rest).map fun r => x :: r

/-- What a frame's body reads as. -/
inductive BodyReading where
  | request (c : Instr)
  | badRequest
  | badTable
deriving DecidableEq, Repr

/-- A request if the fields have the form the kind requires. -/
def formed (o : Option Instr) : BodyReading :=
  match o with
  | some c => .request c
  | none => .badRequest

/-- A WRITE of the ADMISSION table. -/
def readAdmission (h : MgmtHead) (i : Nat) (record : List Byte) : Option Instr :=
  match fieldsOf [8, 4, 4, 4, 4, 4, 4, 4, 4] record with
  | some [tag, v, rs, p, a, p0, p1, p2, p3] =>
    some (.writeAdmission h i ⟨BitVec.ofNat 64 tag, v, rs, optOf p, a, ⟨p0, p1, p2, p3⟩⟩)
  | _ => none

/-- A WRITE of the PROFILE table. -/
def readProfile (h : MgmtHead) (i : Nat) (record : List Byte) : Option Instr :=
  match fieldsOf [4, 4, 4, 4] record with
  | some [c, r, k, m] => some (.writeProfile h i ⟨c, r, k, m⟩)
  | _ => none

/-- A WRITE of the FLOW table. -/
def readFlow (h : MgmtHead) (i : Nat) (record : List Byte) : Option Instr :=
  match fieldsOf [4, 4, 4, 4, 4] record with
  | some [f, d, l, t, e] => some (.writeFlow h i ⟨f, d, l, t, e⟩)
  | _ => none

/-- A WRITE of the TAG_MAP table. -/
def readTagMap (h : MgmtHead) (i : Nat) (record : List Byte) : Option Instr :=
  match fieldsOf [4] record with
  | some [x] => some (.writeTagMap h i (optOf x))
  | _ => none

/-- A WRITE of the ACCOUNT table: with loaded no, the flag alone (R154). A loaded field that is neither no nor yes asks
for the whole record, like yes, and is then refused BAD_VALUE (DESIGN CHOICE, log 55). -/
def readAccount (h : MgmtHead) (i : Nat) (record : List Byte) : Option Instr :=
  match takeNat 4 record with
  | none => none
  | some (loaded, rest) =>
    if loaded = 0 then
      if rest.isEmpty then some (.writeAccount h i ⟨0, 0, 0, 0, 0, 0, 0, 0⟩) else none
    else match fieldsOf [4, 4, 4, 4, 8, 4, 4] rest with
      | some [c, m, p, e, a, fp, fr] => some (.writeAccount h i ⟨loaded, c, m, p, e, a, fp, fr⟩)
      | _ => none

/-- A WRITE of the TARIFF_PLAN table: 96 bands, then four weights (R168). -/
def readPlan (h : MgmtHead) (i : Nat) (record : List Byte) : Option Instr :=
  match takeList 96 record with
  | none => none
  | some (bands, rest) =>
    match takeList 4 rest with
    | some (weights, []) => some (.writeTariffPlan h i ⟨bands, weights⟩)
    | _ => none

/-- A WRITE of the FEEDER table, its settings in the order of R187. -/
def readFeeder (h : MgmtHead) (i : Nat) (record : List Byte) : Option Instr :=
  match takeList 19 record with
  | some ([a, b, c, d, e, f, g, t, hold, il, ml, ri, rl, fi, sl, al, st, ob, au], []) =>
    some (.writeFeeder h i ⟨a, b, c, d, e, f, g, t, hold, il, ml, ri, rl, fi, sl, al, st, ob, au⟩)
  | _ => none

/-- A WRITE's body: the table, the index, the record (R180, R187). -/
def readWrite (h : MgmtHead) (body : List Byte) : BodyReading :=
  match takeNat 4 body with
  | none => .badRequest
  | some (table, rest) =>
    match takeNat 4 rest with
    | none => .badRequest
    | some (i, record) =>
      match table with
      | 1 => formed (readAdmission h i record)
      | 2 => formed (readProfile h i record)
      | 3 => formed (readFlow h i record)
      | 4 => formed (readTagMap h i record)
      | 5 => formed (readAccount h i record)
      | 6 => formed (readPlan h i record)
      | 7 => formed (readFeeder h i record)
      | _ => .badTable

/-- An ADMIT's body (R88). -/
def readAdmit (h : MgmtHead) (body : List Byte) : Option Instr :=
  match fieldsOf [4, 8, 4, 4, 4, 4, 4, 4, 4] body with
  | some [f, tag, rs, p, a, p0, p1, p2, p3] =>
    some (.admitReply h f ⟨BitVec.ofNat 64 tag, rs, optOf p, a, ⟨p0, p1, p2, p3⟩⟩)
  | _ => none

/-- A selection of flags: a count and that many fields (R184, R187). -/
def readFlags (h : MgmtHead) (body : List Byte) : Option Instr :=
  match takeNat 4 body with
  | none => none
  | some (n, rest) =>
    if rest.length = 4 * n then
      match takeList n rest with
      | some (l, []) => some (.clearFlags h l)
      | _ => none
    else none

/-- A body of one 4-byte field. -/
def readOne (g : Nat → Instr) (body : List Byte) : BodyReading :=
  match fieldsOf [4] body with
  | some [a] => .request (g a)
  | _ => .badRequest

/-- A body of two 4-byte fields. -/
def readTwo (g : Nat → Nat → Instr) (body : List Byte) : BodyReading :=
  match fieldsOf [4, 4] body with
  | some [a, b] => .request (g a b)
  | _ => .badRequest

/-- A body of a 4-byte and an 8-byte field. -/
def readLong (g : Nat → Nat → Instr) (body : List Byte) : BodyReading :=
  match fieldsOf [4, 8] body with
  | some [a, b] => .request (g a b)
  | _ => .badRequest

/-- A body of three 4-byte fields. -/
def readThree (g : Nat → Nat → Nat → Instr) (body : List Byte) : BodyReading :=
  match fieldsOf [4, 4, 4] body with
  | some [a, b, c] => .request (g a b c)
  | _ => .badRequest

/-- An empty body. -/
def readNone (c : Instr) (body : List Byte) : BodyReading := if body.isEmpty then .request c else .badRequest

/-- What the body of a request frame of a kind reads as (R187). -/
def readBody (h : MgmtHead) (kind : Nat) (body : List Byte) : BodyReading :=
  match kind with
  | 1 => readOne (fun n => .bind h n) body
  | 2 => readTwo (fun t i => .read h t i) body
  | 3 => readWrite h body
  | 4 => readOne (fun f => .feederStart h f) body
  | 5 => readOne (fun f => .feederStop h f) body
  | 6 => readTwo (fun f m => .discovery h f m) body
  | 7 => formed (readAdmit h body)
  | 8 => readLong (fun f tag => .refuse h f (BitVec.ofNat 64 tag)) body
  | 9 => readTwo (fun f d => .remove h f d) body
  | 10 => readTwo (fun f d => .darken h f d) body
  | 11 => readTwo (fun f d => .relight h f d) body
  | 12 => readTwo (fun f d => .release h f d) body
  | 13 => readTwo (fun f d => .isolate h f (optOf d)) body
  | 14 => readLong (fun a p => .topUp h a p) body
  | 15 => readOne (fun a => .suspend h a) body
  | 16 => readOne (fun a => .resume h a) body
  | 17 => readThree (fun d q c => .setTariffClock h d q c) body
  | 18 => readNone (.exportHold h) body
  | 19 => readNone (.exportResume h) body
  | 20 => formed (readFlags h body)
  | 21 => readNone (.partReset h) body
  | _ => .badRequest

/-- A management frame's header and what follows from it (R187). -/
structure MgmtFrame where
  head : MgmtHead
  cls : Nat
  kind : Nat
  body : BodyReading
deriving DecidableEq, Repr

/-- An untagged management frame without its check sequence, read (R187): absent when the management header does
not lie in it. A class other than REQUEST, or a body longer than the frame, is no request. -/
def readFrame (bytes : List Byte) : Option MgmtFrame :=
  if bytes.length < 22 then none
  else
    let at' (i k : Nat) : Nat := natOf ((bytes.drop i).take k)
    let h : MgmtHead := ⟨BitVec.ofNat 48 (at' 6 6), BitVec.ofNat 48 (at' 0 6), BitVec.ofNat 16 (at' 16 2)⟩
    let cls := at' 14 1
    let kind := at' 15 1
    let len := at' 18 2
    let rest := bytes.drop 22
    some ⟨h, cls, kind, if cls = 1 ∧ len ≤ rest.length then readBody h kind (rest.take len) else .badRequest⟩

/-! ## A request as bytes -/

/-- Head, kind and body of a request; absent for the commands that are no request (R187). -/
def requestParts (c : Instr) : Option (MgmtHead × Nat × List Byte) :=
  match c with
  | .bind h n => some (h, 1, put4 n)
  | .read h t i => some (h, 2, put4 t ++ put4 i)
  | .writeAdmission h i r =>
    some (h, 3, put4 1 ++ put4 i ++ put8 r.tag.toNat ++ put4 r.verdict ++ put4 r.restriction ++ putOpt4 r.preferred ++
      put4 r.account ++ putQuad r.profiles)
  | .writeProfile h i r => some (h, 3, put4 2 ++ put4 i ++ put4 r.cls ++ put4 r.rate ++ put4 r.cap ++ put4 r.minGrant)
  | .writeFlow h i r =>
    some (h, 3, put4 3 ++ put4 i ++ put4 r.feeder ++ put4 r.drop ++ put4 r.lane ++ put4 r.tag ++ put4 r.enable)
  | .writeTagMap h i r => some (h, 3, put4 4 ++ put4 i ++ putOpt4 r)
  | .writeAccount h i r =>
    some (h, 3, put4 5 ++ put4 i ++ put4 r.loaded ++ (if r.loaded = 0 then [] else
      put4 r.code ++ put4 r.mode ++ put4 r.plan ++ put4 r.scale ++ put8 r.allowance ++ put4 r.floorProfile ++
      put4 r.floorRate))
  | .writeTariffPlan h i r => some (h, 3, put4 6 ++ put4 i ++ r.bands.flatMap put4 ++ r.weights.flatMap put4)
  | .writeFeeder h i r => some (h, 3, put4 7 ++ put4 i ++ r.list.flatMap put4)
  | .feederStart h f => some (h, 4, put4 f)
  | .feederStop h f => some (h, 5, put4 f)
  | .discovery h f m => some (h, 6, put4 f ++ put4 m)
  | .admitReply h f r =>
    some (h, 7, put4 f ++ put8 r.tag.toNat ++ put4 r.restriction ++ putOpt4 r.preferred ++ put4 r.account ++
      putQuad r.profiles)
  | .refuse h f tag => some (h, 8, put4 f ++ put8 tag.toNat)
  | .remove h f d => some (h, 9, put4 f ++ put4 d)
  | .darken h f d => some (h, 10, put4 f ++ put4 d)
  | .relight h f d => some (h, 11, put4 f ++ put4 d)
  | .release h f d => some (h, 12, put4 f ++ put4 d)
  | .isolate h f d => some (h, 13, put4 f ++ putOpt4 d)
  | .topUp h a p => some (h, 14, put4 a ++ put8 p)
  | .suspend h a => some (h, 15, put4 a)
  | .resume h a => some (h, 16, put4 a)
  | .setTariffClock h d q c => some (h, 17, put4 d ++ put4 q ++ put4 c)
  | .exportHold h => some (h, 18, [])
  | .exportResume h => some (h, 19, [])
  | .clearFlags h l => some (h, 20, put4 l.length ++ l.flatMap put4)
  | .partReset h => some (h, 21, [])
  | _ => none

/-- A frame padded with bytes of 0 to the 64-byte minimum less its check sequence (R187). -/
def padFrame (bytes : List Byte) : List Byte := bytes ++ List.replicate (60 - bytes.length) 0

/-- A management frame without its check sequence (R187). -/
def mgmtBytes (dst src : Mac) (cls kind : Nat) (tag : BitVec 16) (outcome : Nat) (body : List Byte) : List Byte :=
  padFrame (putNat 6 dst.toNat ++ putNat 6 src.toNat ++ putNat 2 0x9B11 ++ putNat 1 cls ++ putNat 1 kind ++
    putNat 2 tag.toNat ++ putNat 2 body.length ++ putNat 2 outcome ++ body)

/-- The frame a host sends for a request, without its check sequence (R187). -/
def requestBytes (c : Instr) : Option (List Byte) :=
  (requestParts c).map fun p => mgmtBytes p.1.dst p.1.src 1 p.2.1 p.1.tag 0 p.2.2

end Sys2Proof.Machine
end

