-- ==== Sys2Proof/Machine/Traffic.lean ====
section
/-! DEFINITION. The uplink's classifier, the agent's taking of management frames, downstream admission, and the
tables of the traffic path (R17, R141 to R148, R177, R178). -/

namespace Sys2Proof.Machine

/-! ## Management frames (R177, R178) -/

/-- The agent's counters changed (R185). -/
def onAgentCount (g : AgentCounters → AgentCounters) (s : State) : State :=
  s.onAgent fun a => { a with count := g a.count }

/-- A frame waits for the agent; answers it owes are given in their turn (R178). -/
def enqueueInbound (i : Inbound) (s : State) : State := answerWaiting (s.agent.inbox ++ [i]) s

/-- A management frame outside BOUND (R177). -/
def takeUnbound (m : MgmtFrame) (s : State) : State :=
  match m.body with
  | .request (.bind h n) => enqueueInbound (.request (.bind h n)) s
  | .badRequest => onAgentCount (fun c => { c with malformed := c.malformed + 1 }) s
  | _ => onAgentCount (fun c => { c with notBound := c.notBound + 1 }) s

/-- A management frame of the bound controller (R177, R178, R179). One that finds the hold full is dropped, a PART_RESET too
(R179; R182 has it taken in BOUND whatever the state of the part: DESIGN CHOICE, log 62), and so is one that forms no
request (R179 and R185 speak of a request: DESIGN CHOICE, log 67). -/
def takeBound (m : MgmtFrame) (s : State) : State :=
  if holdFull s then dropRequest s
  else match m.body with
    | .request c => enqueueInbound (.request c) s
    | .badRequest => enqueueInbound (.answer m.head.tag m.kind .badRequest) s
    | .badTable => enqueueInbound (.answer m.head.tag m.kind .badTable) s

/-- A management frame reaches the agent (R177). -/
def takeManagement (bytes : List Byte) (s : State) : State :=
  match readFrame bytes with
  | none => onAgentCount (fun c => { c with malformed := c.malformed + 1 }) s
  | some m =>
    if s.agent.bind ≠ .bound then takeUnbound m s
    else if s.agent.controller ≠ some m.head.src then onAgentCount (fun c => { c with foreign := c.foreign + 1 }) s
    else takeBound m s

/-! ## Downstream admission (R144, R145, R147) -/

/-- The part-wide counters of R148 changed. -/
def onClassifier (g : ClassifierCounters → ClassifierCounters) (s : State) : State :=
  s.onUplink fun u => { u with classifier := g u.classifier }

/-- A feeder's downstream counters changed (R148). -/
def onDownCount (f : FeederId) (g : DownstreamCounters → DownstreamCounters) (s : State) : State :=
  s.onFeeder f fun x => { x with downCount := g x.downCount }

/-- The account gate for a frame of `len` bytes (R145): absent, the frame passes; else the counter it moves. A floor rate
below 64 passes no frame (R146), though R146's table lets the bucket of a rate from 16 to 63 come to 64 bytes and more:
that the sentence rules the gate and the table the bucket is the model's choice (DESIGN CHOICE, log 71). -/
def gate (a : Account) (len : Nat) : Option (DownstreamCounters → DownstreamCounters) :=
  match a.state with
  | .normal => none
  | .suspended => some fun c => { c with suspended := c.suspended + 1 }
  | .throttled =>
    if Config.minFrame ≤ a.floorRate ∧ len ≤ a.bucket then none
    else some fun c => { c with floorExceeded := c.floorExceeded + 1 }

/-- A frame that passed the gate joins the queue, taking its length from a THROTTLED account's bucket (R145, R147). -/
def joinDownQueue (f : FeederId) (slot : Option Nat) (fr : DownFrame) (len : Nat) (s : State) : State :=
  if (s.feeder f).downQueue.length < Config.downPlaces then
    let s := onDownCount f (fun c => { c with queued := c.queued + 1 }) <|
      s.onFeeder f fun x => { x with downQueue := x.downQueue ++ [fr] }
    match slot with
    | none => s
    | some a => s.onAccount a fun a => if a.state = .throttled then { a with bucket := a.bucket - len } else a
  else onDownCount f (fun c => { c with queueFull := c.queueFull + 1 }) s

/-- Steps 4 to 6 of R144 for a frame of a flow record with a drop index. -/
def admitToDrop (r : FlowRecord) (flow : Nat) (data : List Byte) (len : Nat) (s : State) : State :=
  let f := r.feeder
  if !(s.drop f r.drop).state.delivering then
    onDownCount f (fun c => { c with notDelivering := c.notDelivering + 1 }) s
  else
    let slot := s.boundAccount f r.drop
    match slot.bind fun a => gate (s.account a) len with
    | some count => onDownCount f count s
    | none => joinDownQueue f slot ⟨data, flow, r.drop⟩ len s

/-- A tagged frame with its tag removed, of length `len` with its check sequence (R144). -/
def admitDownstream (tag : Nat) (data : List Byte) (len : Nat) (s : State) : State :=
  if len < Config.minFrame ∨ Config.maxFrame < len then
    onClassifier (fun c => { c with lengthError := c.lengthError + 1 }) s
  else match s.tagEntry tag with
    | none => onClassifier (fun c => { c with unmapped := c.unmapped + 1 }) s
    | some flow =>
      let r := s.flow flow
      if !r.enable then onDownCount r.feeder (fun c => { c with flowDisabled := c.flowDisabled + 1 }) s
      else if r.drop = 0 then onDownCount r.feeder (fun c => { c with notDelivering := c.notDelivering + 1 }) s
      else admitToDrop r flow data len s

/-! ## The classifier (R141, R187) -/

/-- The two bytes that give a frame's type (R187). -/
def frameType (bytes : List Byte) : Nat := natOf ((bytes.drop 12).take 2)

/-- The tag number of a tagged frame (R187). -/
def tagNumber (bytes : List Byte) : Nat := natOf ((bytes.drop 14).take 2) % 4096

/-- A frame without its check sequence. -/
def withoutFcs (bytes : List Byte) : List Byte := bytes.take (bytes.length - 4)

/-- A received frame classified (R141). -/
def classify (bytes : List Byte) (fcsOk : Bool) (s : State) : State :=
  if !fcsOk ∨ bytes.length < Config.minFrame then
    onClassifier (fun c => { c with receiveError := c.receiveError + 1 }) s
  else if frameType bytes = 0x9B11 then takeManagement (withoutFcs bytes) s
  else if s.agent.bind ≠ .bound then onClassifier (fun c => { c with notBound := c.notBound + 1 }) s
  else if frameType bytes ≠ 0x9B10 then onClassifier (fun c => { c with untagged := c.untagged + 1 }) s
  else
    admitDownstream (tagNumber bytes) (withoutFcs (bytes.take 12 ++ bytes.drop 16)) (bytes.length - 4) s

/-- UPLINK_FRAME_RECEIVED (R141). -/
def execUplinkFrameReceived (bytes : List Byte) (fcsOk : Bool) (s : State) : Host.Outcome State Fault Refusal :=
  live s fun s => arbitrate (classify bytes fcsOk s)

/-! ## Tables (R17, R142, R143) -/

/-- WRITE of the PROFILE table (R17): the entry number is looked at before the values (log 26). -/
def writeProfile (entry : Nat) (r : ProfileFields) (s : State) : State × Verdict :=
  if entry = 0 ∨ 63 < entry then refuseWith .badIndex s
  else match profileOf r with
    | none => refuseWith .badValue s
    | some p =>
      let s' := { s with profiles := s.profiles.set Profile.reset entry p }
      (s', .done (.profile (s'.profile entry)))

/-- WRITE_PROFILE (R17). -/
def execWriteProfile (h : MgmtHead) (entry : Nat) (r : ProfileFields) (s : State) : Host.Outcome State Fault Refusal :=
  live s (takeRequest (.writeProfile h entry r) h 3 (writeProfile entry r))

/-- WRITE of the TAG_MAP table (R142): the tag number is looked at before the flow number (log 26). -/
def writeTagMap (tag : Nat) (flow : Option Nat) (s : State) : State × Verdict :=
  if 4095 < tag then refuseWith .badIndex s
  else if (tag = 0 ∨ tag = 4095) ∧ flow.isSome then refuseWith .badIndex s
  else if flow.any fun n => decide (2047 < n) then refuseWith .badValue s
  else
    let s' := { s with tagMap := s.tagMap.set none tag flow }
    (s', .done (.tagMap (s'.tagEntry tag)))

/-- WRITE_TAG_MAP (R142). -/
def execWriteTagMap (h : MgmtHead) (tag : Nat) (flow : Option Nat) (s : State) : Host.Outcome State Fault Refusal :=
  live s (takeRequest (.writeTagMap h tag flow) h 3 (writeTagMap tag flow))

/-- WRITE of the FLOW table (R143): the record number is looked at before the fields (log 26). -/
def writeFlow (n : Nat) (r : FlowFields) (s : State) : State × Verdict :=
  if 2047 < n then refuseWith .badIndex s
  else match flowOf r with
    | none => refuseWith .badValue s
    | some v =>
      let s' := { s with flows := s.flows.set FlowRecord.reset n v }
      (s', .done (.flow (s'.flow n)))

/-- WRITE_FLOW (R143). -/
def execWriteFlow (h : MgmtHead) (n : Nat) (r : FlowFields) (s : State) : Host.Outcome State Fault Refusal :=
  live s (takeRequest (.writeFlow h n r) h 3 (writeFlow n r))

end Sys2Proof.Machine
end

