-- ==== Sys2Proof/Machine/Dispatch.lean ====
section
/-! DEFINITION. One arm for each command, each one direct call of its meaning. -/

namespace Sys2Proof.Machine

/-- What a command does to everything but the queue of commands. -/
def exec (i : Instr) (s : State) : Host.Outcome State Fault Refusal :=
  match i with
  | .powerOnReset => Sys2Proof.Machine.execPowerOnReset s
  | .cycleStart order => Sys2Proof.Machine.execCycleStart order s
  | .doze f d => Sys2Proof.Machine.execDoze f d s
  | .admissionTimeout f tag => Sys2Proof.Machine.execAdmissionTimeout f tag s
  | .bindTimeout => Sys2Proof.Machine.execBindTimeout s
  | .reassemblyAgeOut f d lane => Sys2Proof.Machine.execReassemblyAgeOut f d lane s
  | .strikeDecay f => Sys2Proof.Machine.execStrikeDecay f s
  | .quarterBoundary => Sys2Proof.Machine.execQuarterBoundary s
  | .closeStep => Sys2Proof.Machine.execCloseStep s
  | .upstreamCycleBegin f n => Sys2Proof.Machine.execUpstreamCycleBegin f n s
  | .upstreamCycleEnd f n light => Sys2Proof.Machine.execUpstreamCycleEnd f n light s
  | .syncFirstTransition f edge => Sys2Proof.Machine.execSyncFirstTransition f edge s
  | .syncMarkMeasured f span => Sys2Proof.Machine.execSyncMarkMeasured f span s
  | .syncOverlong f => Sys2Proof.Machine.execSyncOverlong f s
  | .labelRead f label => Sys2Proof.Machine.execLabelRead f label s
  | .segmentSplit f words => Sys2Proof.Machine.execSegmentSplit f words s
  | .endMarkRead f words endMark => Sys2Proof.Machine.execEndMarkRead f words endMark s
  | .rangeReplyRead f label echo endMark => Sys2Proof.Machine.execRangeReplyRead f label echo endMark s
  | .discoveryReplyRead f label tagHigh tagLow info endMark => Sys2Proof.Machine.execDiscoveryReplyRead f label tagHigh tagLow info endMark s
  | .admissionLookup f => Sys2Proof.Machine.execAdmissionLookup f s
  | .burstWindowResolved f n d => Sys2Proof.Machine.execBurstWindowResolved f n d s
  | .rangingWindowResolved f n d => Sys2Proof.Machine.execRangingWindowResolved f n d s
  | .discoveryWindowResolved f n => Sys2Proof.Machine.execDiscoveryWindowResolved f n s
  | .stuckOnset f words => Sys2Proof.Machine.execStuckOnset f words s
  | .stuckClear f words => Sys2Proof.Machine.execStuckClear f words s
  | .uplinkFrameReceived bytes fcsOk => Sys2Proof.Machine.execUplinkFrameReceived bytes fcsOk s
  | .uplinkLinkChange up => Sys2Proof.Machine.execUplinkLinkChange up s
  | .transmissionEnd => Sys2Proof.Machine.execTransmissionEnd s
  | .responseHoldRelease => Sys2Proof.Machine.execResponseHoldRelease s
  | .noticeOffer => Sys2Proof.Machine.execNoticeOffer s
  | .statementExport => Sys2Proof.Machine.execStatementExport s
  | .bind h number => Sys2Proof.Machine.execBind h number s
  | .read h table index => Sys2Proof.Machine.execRead h table index s
  | .writeAdmission h place r => Sys2Proof.Machine.execWriteAdmission h place r s
  | .writeProfile h entry r => Sys2Proof.Machine.execWriteProfile h entry r s
  | .writeFlow h record r => Sys2Proof.Machine.execWriteFlow h record r s
  | .writeTagMap h tagNumber flow => Sys2Proof.Machine.execWriteTagMap h tagNumber flow s
  | .writeAccount h slot r => Sys2Proof.Machine.execWriteAccount h slot r s
  | .writeTariffPlan h plan r => Sys2Proof.Machine.execWriteTariffPlan h plan r s
  | .writeFeeder h feeder r => Sys2Proof.Machine.execWriteFeeder h feeder r s
  | .feederStart h feeder => Sys2Proof.Machine.execFeederStart h feeder s
  | .feederStop h feeder => Sys2Proof.Machine.execFeederStop h feeder s
  | .discovery h feeder mode => Sys2Proof.Machine.execDiscovery h feeder mode s
  | .admitReply h feeder r => Sys2Proof.Machine.execAdmit h feeder r s
  | .refuse h feeder tag => Sys2Proof.Machine.execRefuse h feeder tag s
  | .remove h feeder index => Sys2Proof.Machine.execRemove h feeder index s
  | .darken h feeder index => Sys2Proof.Machine.execDarken h feeder index s
  | .relight h feeder index => Sys2Proof.Machine.execRelight h feeder index s
  | .release h feeder index => Sys2Proof.Machine.execRelease h feeder index s
  | .isolate h feeder index => Sys2Proof.Machine.execIsolate h feeder index s
  | .topUp h slot points => Sys2Proof.Machine.execTopUp h slot points s
  | .suspend h slot => Sys2Proof.Machine.execSuspend h slot s
  | .resume h slot => Sys2Proof.Machine.execResume h slot s
  | .setTariffClock h day quarter closeEvery => Sys2Proof.Machine.execSetTariffClock h day quarter closeEvery s
  | .exportHold h => Sys2Proof.Machine.execExportHold h s
  | .exportResume h => Sys2Proof.Machine.execExportResume h s
  | .clearFlags h flags => Sys2Proof.Machine.execClearFlags h flags s
  | .partReset h => Sys2Proof.Machine.execPartReset h s
  | .cutOffMark f => Sys2Proof.Machine.execCutOffMark f s
  | .resetPinHeld => Sys2Proof.Machine.execResetPinHeld s

end Sys2Proof.Machine
end

