-- ==== Sys2Proof/Machine/Wire.lean ====
section
/-! DEFINITION. What the part sends, as bytes: a downstream cycle, and the frames of the four transmit classes
(R3 to R5, R149, R186, R187). State holds them structured (log 35). -/

namespace Sys2Proof.Machine

/-! ## The downstream cycle (R186) -/

/-- Bytes of a 32-bit value, most significant first. -/
def put32 (v : BitVec 32) : List Byte := put4 v.toNat

/-- The cycle header's bytes 0 to 11. -/
def headerBody (f : FeederId) (c : DownCycle) : List Byte :=
  put4 0x5A3C0F96 ++ put32 c.cycle ++ putNat 1 f.toNat ++ putNat 1 (if c.restart then 1 else 0) ++
  putNat 2 c.orders.length

/-- The cycle header. -/
def headerBytes (f : FeederId) (c : DownCycle) : List Byte :=
  headerBody f c ++ put32 (endCheckBytes (headerBody f c))

/-- The flags byte of a BURST entry. -/
def flagByte : Option BurstFlag → Nat
  | none => 0
  | some .poll => 1
  | some .rouse => 2

/-- A window entry. -/
def entryBytes : Entry → List Byte
  | .burst d w len allocs flag =>
    putNat 1 1 ++ putNat 1 d ++ putNat 1 (flagByte flag) ++ putNat 1 allocs.length ++ putNat 2 w ++ putNat 2 len ++
    put4 (allocs.map Prod.snd).sum ++ allocs.flatMap fun a => putNat 1 a.1 ++ putNat 1 0 ++ putNat 2 a.2
  | .ranging d w delay =>
    putNat 1 2 ++ putNat 1 d ++ putNat 2 0 ++ putNat 2 w ++ putNat 2 Config.rangingWords ++ put4 delay
  | .discovery w len delay => putNat 1 3 ++ putNat 3 0 ++ putNat 2 w ++ putNat 2 len ++ put4 delay
  | .dark w len => putNat 1 4 ++ putNat 3 0 ++ putNat 2 w ++ putNat 2 len

/-- The plan: its counts, then its entries. -/
def planBytes (plan : List Entry) : List Byte :=
  let entries := plan.flatMap entryBytes
  putNat 2 plan.length ++ putNat 2 entries.length ++ entries

/-- The kind number of an order, in the order of the table of R14. -/
def OrderKind.code : OrderKind → Nat
  | .assign => 1
  | .equalise => 2
  | .darken => 3
  | .relight => 4
  | .disable => 5
  | .enable => 6
  | .remove => 7
  | .decline => 8

/-- A line order. -/
def orderBytes (o : LineOrder) : List Byte :=
  putNat 1 o.kind.code ++ putNat 1 o.index ++ putNat 2 0 ++ put8 o.tag.toNat ++ put4 o.value

/-- Bytes of 0 that bring a length to a multiple of 4. -/
def padTo4 (n : Nat) : List Byte := List.replicate ((4 - n % 4) % 4) 0

/-- A frame with its check sequence. -/
def withFcs (bytes : List Byte) : List Byte := bytes ++ put32 (Config.ethernetFcs bytes)

/-- A downstream segment. -/
def segmentBytes (fr : DownFrame) : List Byte :=
  let frame := withFcs fr.data
  putNat 2 (fr.data.length + 4) ++ putNat 1 fr.index ++ putNat 1 0 ++ putNat 2 fr.flow ++ putNat 2 0 ++ frame ++
  padTo4 frame.length

/-- A whole downstream cycle: header, plan, orders, segments, and idle fill to 400,000 bytes. -/
def cycleBytes (f : FeederId) (c : DownCycle) : List Byte :=
  let b := headerBytes f c ++ planBytes c.plan ++ c.orders.flatMap orderBytes ++ c.segments.flatMap segmentBytes
  b ++ List.replicate (Config.cycleBytes - b.length) 0

/-! ## Fields of records and bodies (R187) -/

/-- A flag. -/
def putFlag (b : Bool) : List Byte := put4 (if b then 1 else 0)

/-- A counter. -/
def putCounter (c : Counter) : List Byte := put4 c.toNat

/-- An optional field of 4 bytes. -/
def putOption {α : Type} (g : α → Nat) (o : Option α) : List Byte := putOpt4 (o.map g)

/-- A list whose length varies, with its count. -/
def putCounted (l : List Nat) : List Byte := put4 l.length ++ l.flatMap put4

/-- Four 8-byte pairs: band 0 down and up, then band 1, and so on. -/
def putBands (down up : Quad Nat) : List Byte :=
  laneNumbers.flatMap fun b => put8 (down.get b) ++ put8 (up.get b)

/-- The number of a drop state, in the order of R73. -/
def DropState.code : DropState → Nat
  | .empty => 0
  | .ranging => 1
  | .active => 2
  | .dozing => 3
  | .silent => 4
  | .darkened => 5
  | .quarantined => 6
  | .leaving => 7

/-- The number of a resume state: ACTIVE, DOZING or SILENT (R73). -/
def DropState.resumeCode : DropState → Nat
  | .dozing => 1
  | .silent => 2
  | _ => 0

/-- The number of a darken cause (R73). -/
def DarkenCause.code : DarkenCause → Nat
  | .host => 0
  | .isolation => 1

/-- The number of a reason: the leave reasons of R73, then REAPPEARED and FEEDER_STOP of R75. -/
def RemoveReason.code : RemoveReason → Nat
  | .lost => 0
  | .hostRemove => 1
  | .rangeFail => 2
  | .outOfReach => 3
  | .reappeared => 4
  | .feederStop => 5

/-- The number of an order status (R73). -/
def OrderStatus.code : OrderStatus → Nat
  | .held => 0
  | .queued => 1

/-- The number of an order kind in a DROP record, from 0 (R187). -/
def OrderKind.recordCode (k : OrderKind) : Nat := k.code - 1

/-- Every order field absent. -/
def absentField : List Byte := putOpt4 none

/-- A DROP record (R73, R187). -/
def dropBytes (r : DropRecord) : List Byte :=
  put4 r.state.code ++ put8 r.tag.toNat ++ put4 r.account ++ put4 r.laneCount ++ putQuad r.profiles ++ put4 r.rtd ++
  put4 r.eqd ++ putOption DropState.resumeCode r.resume ++ putOption DarkenCause.code r.cause ++
  putOption RemoveReason.code r.leave ++
  (match r.pending with
    | none => absentField ++ absentField
    | some o => put4 o.kind.recordCode ++ put4 o.status.code) ++
  putOption OrderKind.recordCode r.following ++
  (match r.lastSent with
    | none => absentField ++ absentField
    | some o => put4 o.1.recordCode ++ put32 o.2) ++
  put4 r.miss ++ put4 r.rouse ++ put4 r.idle ++ put4 r.strikes ++ put32 r.lastPlanned ++ put4 r.rangeTries ++
  putFlag r.correctionPending ++ putOption BitVec.toNat r.equaliseCycle

/-- An ADMISSION record; an empty place reads with verdict NONE, no preferred index (all ones), and 0 in every other field
(R85 does not say: DESIGN CHOICE, log 32). -/
def admissionBytes : Option AdmissionEntry → List Byte
  | none => put8 0 ++ put4 2 ++ put4 0 ++ absentField ++ put4 0 ++ putQuad ⟨0, 0, 0, 0⟩
  | some e =>
    put8 e.tag.toNat ++
    put4 (match e.verdict with
      | .permit => 0
      | .deny => 1) ++
    put4 (match e.restriction with
      | none => 0
      | some f => f.toNat + 1) ++
    putOpt4 e.preferred ++ put4 e.account ++ putQuad e.profiles

/-- A PROFILE record (R16). -/
def profileBytes (p : Profile) : List Byte :=
  put4 (match p.cls with
    | .fixed => 0
    | .assured => 1
    | .shared => 2) ++ put4 p.rate ++ put4 p.cap ++ put4 p.minGrant

/-- A FLOW record; ON 0 and OFF 1 (R143). -/
def flowBytes (r : FlowRecord) : List Byte :=
  put4 r.feeder.toNat ++ put4 r.drop ++ put4 r.lane ++ put4 r.tag ++ put4 (if r.enable then 0 else 1)

/-- A bound drop: the feeder and the index, or all ones in both (R153). -/
def boundBytes : Option (FeederId × Nat) → List Byte
  | none => absentField ++ absentField
  | some b => put4 b.1.toNat ++ put4 b.2

/-- The number of an account mode (R153). -/
def AccountMode.code : AccountMode → Nat
  | .counted => 0
  | .openMode => 1

/-- The number of an account state (R153). -/
def AccountState.code : AccountState → Nat
  | .normal => 0
  | .throttled => 1
  | .suspended => 2

/-- An ACCOUNT record (R153). -/
def accountBytes (a : Account) : List Byte :=
  putFlag a.loaded ++ put4 a.code ++ put4 a.mode.code ++ put4 a.state.code ++ put4 a.plan ++ put4 a.scale ++
  put8 a.allowance ++ put8 a.overrun ++ put4 a.floorProfile ++ put4 a.floorRate ++ put4 a.bucket ++
  boundBytes a.bound ++ putBands a.down a.up ++ put4 a.outage ++ put8 a.lifeDown ++ put8 a.lifeUp ++
  putFlag a.saturated ++ putFlag a.wrapped ++ putFlag a.lateClose ++ put4 a.periods

/-- A copy of a tariff plan (R167). -/
def planCopyBytes (c : PlanCopy) : List Byte := c.bands.flatMap put4 ++ c.weights.flatMap put4

/-- A TARIFF_PLAN record: the active copy, then the pending copy, every field of which holds all ones when it is absent
(R167, R187). -/
def tariffPlanBytes (p : TariffPlan) : List Byte :=
  planCopyBytes p.active ++ ((p.pending.map planCopyBytes).getD ((List.replicate 100 absentField).flatMap id))

/-- A FEEDER record, with DW, W0 and S (R94, R187). -/
def feederBytes (t : Settings) : List Byte :=
  [t.td, t.rtdMin, t.rtdMax, t.dk, t.poll, t.keepalive, t.period, t.timeout, t.declineHold, t.idleLimit, t.missLimit,
   t.rouseInterval, t.rouseLimit, t.filter, t.stuckLimit, t.alertLimit, t.strikeLimit, t.observe,
   (if t.autoIsolate then 0 else 1), t.dw, t.w0, t.s].flatMap put4

/-- A LANE record (R18). -/
def laneBytes (r : LaneRecord) : List Byte :=
  put4 r.credit ++ put4 r.backlog ++ put4 r.outstanding ++ put32 r.lastReport

/-- The number of a decline reason (R91). -/
def DeclineReason.code : DeclineReason → Nat
  | .wrongFeeder => 0
  | .denied => 1
  | .timeout => 2
  | .hostRefused => 3
  | .accountMissing => 4
  | .accountInUse => 5
  | .feederFull => 6

/-- A reply queue entry: its pending DECLINE as status and reason (R82, log 16). -/
def replyBytes (e : ReplyEntry) : List Byte :=
  put8 e.tag.toNat ++ put4 e.laneCount ++ put4 e.k ++ put4 e.rtd ++ put32 e.arrival ++
  put4 (match e.status with
    | .lookup => 0
    | .waitingHost => 1) ++ put4 e.age ++
  (match e.decline with
    | none => absentField ++ absentField
    | some d => put4 d.2.code ++ put4 d.1.code)

/-- An ISOLATION record (R133). -/
def isolationBytes (i : Isolation) : List Byte :=
  putOption (fun k => match k with
    | IsolationKind.full => 0
    | IsolationKind.targeted => 1) i.kind ++
  putCounted i.suspects ++ putCounted i.test ++ put4 i.step ++
  putOption (fun p => match p with
    | IsolationPhase.darkening => 0
    | IsolationPhase.observing => 1
    | IsolationPhase.relighting => 2
    | IsolationPhase.confirming => 3) i.phase ++
  putCounted i.awaited ++ put32 i.lastDarken ++ put32 i.observeStart ++ put32 i.observeEnd ++ putFlag i.faultSeen ++
  putCounted i.departed ++
  putOption (fun e => match e with
    | IsolationEnding.quarantine => 0
    | IsolationEnding.unattributed => 1) i.ending

/-- Counters in the order of their table. -/
def putCounters (l : List Counter) : List Byte := l.flatMap putCounter

/-- The tariff clock: day, quarter, in-quarter count, CLOSE_EVERY (R187). -/
def clockBytes (c : TariffClock) : List Byte := put4 c.day ++ put4 c.quarter ++ put4 c.count ++ put4 c.closeEvery

/-- The number of a rogue state (R128). -/
def RogueState.code : RogueState → Nat
  | .clear => 0
  | .watch => 1
  | .alert => 2
  | .isolating => 3
  | .unattributed => 4

/-- A feeder's entry of the PART_STATUS record; STOPPED 0 and RUNNING 1 (R185). The rotation pointer is written as two
numbers, drop index and lane (R185 and R187 give it no layout: DESIGN CHOICE, log 58). -/
def feederStatusBytes (x : FeederStatus) : List Byte :=
  put4 (if x.running then 1 else 0) ++ put4 x.pointer.1 ++ put4 x.pointer.2 ++ putFlag x.overbooked ++
  putFlag x.replyOverrun ++
  putCounters [x.enrol.cancelled, x.enrol.duplicate, x.enrol.clash, x.enrol.heldTag, x.enrol.overrun,
    x.enrol.skipped, x.enrol.declines] ++
  put4 x.rogue.code ++ putFlag x.stuck ++ put4 x.quiet ++ put4 x.recent ++
  putCounters [x.reception.received, x.reception.missing, x.reception.garbledSpan, x.reception.garbledLabel,
    x.reception.garbledEnd, x.reception.mislabelled, x.reception.excused, x.reception.repliesTaken,
    x.reception.repliesGarbled] ++
  putCounters [x.light.darkLight, x.light.stray, x.light.stuckOnsets, x.light.garble, x.light.mislabel,
    x.light.strikeLimits, x.light.isolations, x.light.quarantines, x.light.unattributed] ++
  putCounters [x.upstream.lostInFlight, x.upstream.laneOverrun, x.upstream.lostToState, x.upstream.displaced,
    x.upstream.orphan, x.upstream.flowBreak, x.upstream.oversize, x.upstream.agedOut, x.upstream.runt,
    x.upstream.misrouted, x.upstream.uplinkFull] ++
  putCounters [x.downstream.flowDisabled, x.downstream.notDelivering, x.downstream.suspended,
    x.downstream.floorExceeded, x.downstream.queueFull, x.downstream.queued]

/-- The number of a bind state (R176). -/
def BindState.code : BindState → Nat
  | .unbound => 0
  | .binding => 1
  | .bound => 2

/-- An optional Ethernet address. -/
def putMac : Option Mac → List Byte
  | none => put8 (2 ^ 64 - 1)
  | some m => put8 m.toNat

/-- A PART_STATUS record (R175, R185, R187). -/
def statusBytes (p : PartStatus) : List Byte :=
  put4 p.bind.code ++ putMac p.controller ++ putMac p.partAddr ++ putFlag p.noticeLost ++ put4 p.notices ++
  put4 p.hold ++
  putCounters [p.classifier.receiveError, p.classifier.notBound, p.classifier.untagged, p.classifier.lengthError,
    p.classifier.unmapped] ++
  putCounters [p.transmit.responses, p.transmit.notices, p.transmit.statements, p.transmit.traffic,
    p.transmit.discardedAtReset] ++
  putCounter p.unbilled ++ clockBytes p.clock ++ putCounter p.nextNumber ++ put4 p.records ++
  put4 (if p.exportHeld then 0 else 1) ++ putCounter p.exported ++ putCounter p.lateCloses ++ putOpt4 p.cursor ++
  putCounters [p.agent.notBound, p.agent.foreign, p.agent.malformed, p.agent.dropped, p.agent.noticesLost,
    p.agent.taken] ++
  feederStatusBytes p.feeders.f0 ++ feederStatusBytes p.feeders.f1 ++ feederStatusBytes p.feeders.f2 ++
  feederStatusBytes p.feeders.f3

/-- The ONCE part and its cycle (R79). -/
def onceBytes : OncePart → List Byte
  | .none => put4 0 ++ absentField
  | .due => put4 1 ++ absentField
  | .inFlight n => put4 2 ++ put32 n

/-- The body of a DONE response (R187). -/
def bodyBytes : ResponseBody → List Byte
  | .empty => []
  | .bindEcho n => put4 n ++ put4 Config.makerCode ++ put4 Config.partKind ++ put4 Config.partRevision
  | .admission e => admissionBytes e
  | .profile p => profileBytes p
  | .flow r => flowBytes r
  | .tagMap o => putOpt4 o
  | .account a => accountBytes a
  | .plan p => tariffPlanBytes p
  | .feeder t => feederBytes t
  | .drop r => dropBytes r
  | .lane r => laneBytes r
  | .replies l => put4 l.length ++ l.flatMap replyBytes
  | .isolation i => isolationBytes i
  | .status p => statusBytes p
  | .feederState running first => put4 (if running then 1 else 0) ++ (if running then putOption BitVec.toNat first else [])
  | .sweep w period =>
    onceBytes w.once ++ put4 (if w.continuous then 0 else 1) ++ put4 period ++ putOption BitVec.toNat w.lastDiscovery
  | .assigned d => put4 0 ++ put4 d
  | .declined reason => put4 1 ++ put4 reason.code
  | .clock c => clockBytes c
  | .exportState held records => put4 (if held then 0 else 1) ++ put4 records
  | .flags lost overbooked overrun =>
    putFlag lost ++ FeederId.all.flatMap fun f => putFlag (overbooked.get f) ++ putFlag (overrun.get f)

/-! ## Uplink frames (R149, R187) -/

/-- The number of an outcome (R187). -/
def outcomeCode : Option Reject → Nat
  | none => 0
  | some .badRequest => 1
  | some .badTable => 2
  | some .badIndex => 3
  | some .badValue => 4
  | some .wrongState => 5
  | some .busy => 6
  | some .tooLate => 7

/-- A response frame. -/
def responseBytes (r : Response) : List Byte :=
  withFcs (mgmtBytes (r.dst.getD 0) (r.src.getD 0) 2 r.kind r.tag (outcomeCode r.refused) (bodyBytes r.body))

/-- Kind and fields of a notice (R183). R183 gives ROGUE_ALERT an index and a strike count with STRIKES; with SYMPTOMS and
STUCK they are sent as absent optional fields, all ones as R187 has them, and not left out (DEDUCED, log 68). -/
def noticeParts : Notice → Nat × List Byte
  | .admissionQuery f tag lanes rtd => (1, put4 f.toNat ++ put8 tag.toNat ++ put4 lanes ++ put4 rtd)
  | .dropEnrolled f d tag account rtd eqd =>
    (2, put4 f.toNat ++ put4 d ++ put8 tag.toNat ++ put4 account ++ put4 rtd ++ put4 eqd)
  | .dropRemoved f d tag account reason =>
    (3, put4 f.toNat ++ put4 d ++ put8 tag.toNat ++ put4 account ++ put4 reason.code)
  | .replyOverrun f => (4, put4 f.toNat)
  | .tagClash f tag other => (5, put4 f.toNat ++ put8 tag.toNat ++ put4 other.toNat)
  | .declined f tag reason => (6, put4 f.toNat ++ put8 tag.toNat ++ put4 reason.code)
  | .rogueAlert f .symptoms => (7, put4 f.toNat ++ put4 0 ++ absentField ++ absentField)
  | .rogueAlert f .stuck => (7, put4 f.toNat ++ put4 1 ++ absentField ++ absentField)
  | .rogueAlert f (.strikes d n) => (7, put4 f.toNat ++ put4 2 ++ put4 d ++ put4 n)
  | .rogueFound f d tag account step =>
    (8, put4 f.toNat ++ put4 d ++ put8 tag.toNat ++ put4 account ++ put4 step)
  | .rogueUnattributed f step => (9, put4 f.toNat ++ put4 step)
  | .rogueCleared f => (10, put4 f.toNat)
  | .overbooked f n => (11, put4 f.toNat ++ put32 n)
  | .accountThrottled slot code bound overrun => (12, put4 slot ++ put4 code ++ boundBytes bound ++ put8 overrun)
  | .accountRestored slot code bound allowance => (13, put4 slot ++ put4 code ++ boundBytes bound ++ put8 allowance)

/-- A notice frame from the part address to the controller address. -/
def noticeBytes (part controller : Mac) (n : QueuedNotice) : List Byte :=
  let p := noticeParts n.notice
  withFcs (mgmtBytes controller part 3 p.1 0 0 (put32 n.cycle ++ p.2))

/-- A statement record (R171). -/
def statementBody (r : Statement) : List Byte :=
  putCounter r.number ++ put4 r.slot ++ put4 r.code ++ put4 r.stamp.day ++ put4 r.stamp.quarter ++ put32 r.stamp.cycle ++
  put4 r.periods ++ putBands r.down r.up ++ put4 r.outage ++ put8 r.overrun ++ putFlag r.saturated ++ putFlag r.lateClose

/-- A statement frame. -/
def statementBytes (part controller : Mac) (r : Statement) : List Byte :=
  withFcs (mgmtBytes controller part 4 1 0 0 (statementBody r))

/-- An upstream frame as it goes out: the service tag after the source address, a new check sequence (R149). -/
def upFrameBytes (fr : UpFrame) : List Byte :=
  let data := fr.bytes.take (fr.bytes.length - 4)
  withFcs (data.take 12 ++ putNat 2 0x9B10 ++ putNat 2 fr.tag ++ data.drop 12)

/-- The frame on the wire, if one is being sent (R150, R151). -/
def State.onTheWire (s : State) : Option (List Byte) :=
  let part := s.agent.partAddr.getD 0
  let controller := s.agent.controller.getD 0
  match s.uplink.sending with
  | none => none
  | some .response => s.uplink.responses.head?.map responseBytes
  | some .notice => s.uplink.notices.head?.map (noticeBytes part controller)
  | some .statement => s.uplink.statements.head?.map (statementBytes part controller)
  | some .traffic => s.uplink.traffic.head?.map upFrameBytes

end Sys2Proof.Machine
end

