-- ==== Sys2Proof/Safety.lean ====
section
/-! DEFINITION. The terms that claims about the XL4 use: when a request is taken, where its response goes, what a
command leaves alone, and the invariants of a safe run. -/

namespace Sys2Proof.Machine

/-! ## Requests -/

/-- The agent takes request `c` with head `h` (R177 to R179): the reset pin is not held, it is the request's turn, the
agent is BOUND, the frame comes from the controller address, and the response hold has a free place. -/
def Accepts (c : Instr) (h : MgmtHead) (s : State) : Prop :=
  s.resetHeld = false ∧ s.turn c = true ∧ s.agent.bind = .bound ∧ s.agent.controller = some h.src ∧
  s.agent.hold.length < Config.holdPlaces

/-- The response built for a request in state `s` (R178). -/
def responseTo (h : MgmtHead) (kind : Nat) (refused : Option Reject) (body : ResponseBody) (s : State) : Response :=
  ⟨s.agent.partAddr, s.agent.controller, h.tag, kind, refused, body⟩

/-- The response of a request stands behind every response that waited before it, in the response class or the hold
(R179); answers the agent owed to frames that came after it may stand behind it. -/
def Answered (h : MgmtHead) (kind : Nat) (refused : Option Reject) (body : ResponseBody) (s t : State) : Prop :=
  ∃ later, t.uplink.responses ++ t.agent.hold =
    s.uplink.responses ++ s.agent.hold ++ responseTo h kind refused body s :: later

/-- The agent and the Uplink Port differ only as answering a request makes them differ: the frames and responses that
wait, the agent's counters, the transmitter. -/
def AgentKept (s t : State) : Prop :=
  t.agent = { s.agent with inbox := t.agent.inbox, hold := t.agent.hold, count := t.agent.count } ∧
  t.uplink = { s.uplink with responses := t.uplink.responses, sending := t.uplink.sending }

/-- A request changes nothing but the agent and the Uplink Port, and those only by its answer. -/
def OnlyAnswered (s t : State) : Prop := t = { s with agent := t.agent, uplink := t.uplink } ∧ AgentKept s t

/-- A request is refused for a reason, and changes nothing else (R179). -/
def Refuses (c : Instr) (h : MgmtHead) (kind : Nat) (reason : Reject) (s : State) : Prop :=
  ∃ t, exec c s = .next t ∧ Answered h kind (some reason) .empty s t ∧ OnlyAnswered s t

/-- A request is decided DONE with a body: the owner leaves state `x`, and nothing differs from that but the
answer (R178). -/
def Done (c : Instr) (h : MgmtHead) (kind : Nat) (body : ResponseBody) (s x : State) : Prop :=
  ∃ t, exec c s = .next t ∧ Answered h kind none body x t ∧ OnlyAnswered x t

/-- No frame waits for the agent that it owes an answer itself (R178 step 1). -/
def NoneOwed (s : State) : Prop := ∀ i ∈ s.agent.inbox, ∃ c, i = .request c

/-! ## Commands one after another -/

/-- The commands, run one after another from `s`, each answer a next state, and the last of these is `t`. -/
def Ran : List Instr → State → State → Prop
  | [], s, t => t = s
  | c :: rest, s, t => ∃ y, exec c s = .next y ∧ Ran rest y t

/-! ## What a command leaves alone -/

/-- Nothing but one feeder's holding changed. -/
def OnlyFeeder (f : FeederId) (s t : State) : Prop := t = s.setFeeder f (t.feeder f)

/-- Nothing but the Usage Meter's holding changed. -/
def OnlyMeter (s t : State) : Prop := t = { s with meter := t.meter }

/-! ## The grants of a build (R23, R25 to R32)

What the grant stages owe each lane, said of the finished build alone: the order in which the lanes are considered, the
room that a lane finds with the lanes before it served, and the grant that this room gives it. -/

/-- Every lane key in lane-key order. -/
def laneKeys : List (Nat × Nat) := dropIndices.flatMap fun d => laneNumbers.map fun l => (d, l)

/-- An enabled lane of an ACTIVE drop, with its class in force (R21, R29, R30, R32). -/
def Feeder.inClass (x : Feeder) (force : Nat → Nat → Option Profile) (c : LaneClass) (k : Nat × Nat) : Bool :=
  decide ((x.drop k.1).state = .active) && decide (k.2 ∈ (x.drop k.1).enabledLanes) &&
    decide ((force k.1 k.2).map Profile.cls = some c)

/-- The lanes that stages 6 to 8 consider, in their order: FIXED and then ASSURED in lane-key order, then SHARED from the
rotation pointer on and around to it (R29, R30, R32). -/
def Feeder.considered (x : Feeder) (force : Nat → Nat → Option Profile) : List (Nat × Nat) :=
  let p := laneKey x.pointer.1 x.pointer.2
  laneKeys.filter (x.inClass force .fixed) ++ laneKeys.filter (x.inClass force .assured) ++
    (laneKeys.drop p ++ laneKeys.take p).filter (x.inClass force .shared)

/-- A considered lane's demand (R28). -/
def Feeder.demandOf (x : Feeder) (k : Nat × Nat) : Nat := (x.lane k.1 k.2).backlog - (x.lane k.1 k.2).outstanding

/-- A considered lane's candidate before any bound by room: the whole words of its credit, bounded and accrued, and its
demand too unless it is FIXED (R22, R25, R29, R30, R32). -/
def Feeder.candidate (x : Feeder) (p : Profile) (k : Nat × Nat) : Nat :=
  let c := min (256 * p.cap) (min (x.lane k.1 k.2).credit (256 * p.cap) + p.rate)
  if p.cls = .fixed then c / 256 else min (x.demandOf k) (c / 256)

/-- The grant that a room gives a considered lane: the candidate within the room, issued for FIXED, at the minimum grant,
or as the whole of a demand (R27, R31, R32). -/
def Feeder.grantIn (x : Feeder) (p : Profile) (k : Nat × Nat) (room : Nat) : Nat :=
  let g := min (x.candidate p k) room
  if p.cls = .fixed ∨ p.minGrant ≤ g ∨ (g = x.demandOf k ∧ 0 < g) then g else 0

/-- A drop's burst is open once the lanes `done` have been considered: as a mandatory burst, or by a grant (R23, R27). -/
def Build.openAfter (b : Build) (done : List (Nat × Nat)) (d : Nat) : Bool :=
  b.opened.any (fun o => decide (o.1 = d) && o.2.isSome) ||
    done.any fun j => decide (j.1 = d) && decide (b.grantOf j.1 j.2 ≠ 0)

/-- The words used once the lanes `done` have been considered: 44 and the enabled lanes for each open burst, and the
grants (R23, R27). -/
def Build.usedAfter (b : Build) (x : Feeder) (done : List (Nat × Nat)) : Nat :=
  ((dropIndices.filter (b.openAfter done)).map fun d => 44 + (x.drop d).enabledLanes.length).sum +
    (done.map fun j => b.grantOf j.1 j.2).sum

/-- The room that a lane finds once the lanes `done` have been considered (R27). -/
def Build.roomAfter (b : Build) (capacity : Nat) (x : Feeder) (done : List (Nat × Nat)) (k : Nat × Nat) : Nat :=
  capacity - b.usedAfter x done -
    (if b.openAfter done k.1 then 0 else 44 + (x.drop k.1).enabledLanes.length)

/-! ## Invariants -/

/-- Every table stands in its canonical form: keys strictly rising, no entry equal to the default. -/
def Feeder.canonical (x : Feeder) : Bool :=
  Tbl.wf DropRecord.empty x.drops && Tbl.wf LaneRecord.zero x.lanes && Tbl.wf none x.marks && Tbl.wf none x.reassembly

/-- Every table of the part stands in its canonical form. -/
def State.canonical (s : State) : Bool :=
  Tbl.wf Profile.reset s.profiles && Tbl.wf none s.admission && Tbl.wf none s.tagMap &&
  Tbl.wf FlowRecord.reset s.flows && Tbl.wf Account.reset s.meter.accounts && Tbl.wf TariffPlan.reset s.meter.plans &&
  s.feeders.f0.canonical && s.feeders.f1.canonical && s.feeders.f2.canonical && s.feeders.f3.canonical

/-- A feeder's queues hold no more than their places (R15, R82, R147). -/
def Feeder.bounded (x : Feeder) : Bool :=
  decide (x.orderQueue.length ≤ Config.orderPlaces) && decide (x.replies.length ≤ Config.replyPlaces) &&
  decide (x.downQueue.length ≤ Config.downPlaces)

/-- Every queue of the part holds no more than its places (R15, R82, R147, R150, R173, R179, R183). -/
def State.bounded (s : State) : Bool :=
  s.feeders.f0.bounded && s.feeders.f1.bounded && s.feeders.f2.bounded && s.feeders.f3.bounded &&
  decide (s.uplink.responses.length ≤ Config.classPlaces) && decide (s.uplink.notices.length ≤ Config.classPlaces) &&
  decide (s.uplink.statements.length ≤ Config.classPlaces) && decide (s.uplink.traffic.length ≤ Config.trafficPlaces) &&
  decide (s.agent.hold.length ≤ Config.holdPlaces) && decide (s.agent.notices.length ≤ Config.noticePlaces) &&
  decide (s.meter.queue.length ≤ Config.statementPlaces) && decide (s.meter.exportCount ≤ Config.exportsPerCycle)

/-- The states of R103, in which a record's RTD and EQD are equalised. -/
def DropState.equalised : DropState → Bool
  | .active | .dozing | .silent | .darkened | .quarantined => true
  | _ => false

/-- A record's RTD and EQD sum to TD where R103 says so, and in the ranging phase that leads there (R100, R102). -/
def DropRecord.equalisedAt (r : DropRecord) (td : Nat) : Prop :=
  (r.state.equalised = true ∨ (r.state = .ranging ∧ r.phase = some .equalising)) → r.rtd + r.eqd = td

/-- A feeder's records keep R103; outside 1 to 64 no record is held; and a STOPPED feeder holds no records, replies,
or plans and reads nothing (R2, R92). -/
def Feeder.equalised (x : Feeder) : Prop :=
  (∀ d, (x.drop d).equalisedAt x.settings.td) ∧
  (∀ d, ¬ (1 ≤ d ∧ d ≤ 64) → (x.drop d).state = .empty) ∧
  (x.running = false → (∀ d, (x.drop d).state = .empty) ∧ x.replies = [] ∧ x.ring = ⟨none, none, none, none⟩ ∧
    x.reader = .idle ∧ x.detector.inCycle = false)

/-- R103 on every feeder. -/
def State.equalised (s : State) : Prop := ∀ f, (s.feeder f).equalised

/-- The windows of a plan lie in the cycle outside the dark slot, and any two are separated by 16 words at least (R41). -/
def Slot.apart (dk : Nat) (sl : Slot) : Prop :=
  let windows := (sl.windows.map Window.entry).filter fun e => e.windowId.isSome
  windows.Pairwise (fun a b => a.start + a.len + 16 ≤ b.start) ∧ ∀ e ∈ windows, e.start + e.len + dk ≤ 25000

/-- The reach settings that bound a plan keep R95's limits, a STOPPED feeder's ring is empty, and every plan in the
ring keeps R41. -/
def Feeder.separated (x : Feeder) : Prop :=
  x.settings.dk ≤ 128 ∧ x.settings.rtdMax - x.settings.rtdMin ≤ 512000 ∧
  (x.running = false → x.ring = ⟨none, none, none, none⟩) ∧
  ∀ o ∈ x.ring.list, ∀ sl, o = some sl → sl.apart x.settings.dk

/-- R41 on every feeder, with minimum grants of 1 at least (R17). -/
def State.separated (s : State) : Prop := (∀ n, 1 ≤ (s.profile n).minGrant) ∧ ∀ f, (s.feeder f).separated

/-- The binding: bind state, controller address, part address and bind number (R176). -/
def State.binding (s : State) : BindState × Option Mac × Option Mac × Nat :=
  (s.agent.bind, s.agent.controller, s.agent.partAddr, s.agent.bindNumber)

end Sys2Proof.Machine
end

