-- ==== Sys2Proof/Certificates/Slice0/Obligations.lean ====
section
/-! DEFINITION. The statements about this model, for the provers. Each docstring names the rules of spec/ that the
statement formalises; where it rests on a choice of the model it says so and names the log entry. -/

open Sys2Proof Sys2Proof.Machine

/-! ## Steps and resets -/

/-- A step takes the command at the front of the queue and runs it with the queue's rest; with no command waiting
the block idles (the model's choice, log 2). -/
def Obligations.StepTakesFrontCommand : Prop :=
  (∀ (c : Instr) (rest : List Instr) (s : State), s.pending = c :: rest → step s = exec c { s with pending := rest }) ∧
  (∀ s : State, s.pending = [] → step s = .next s)

/-- POWER_ON_RESET puts the state it names at its value after power-on reset, whatever went before: the feeders and
their tables, the accounts, the tariff plans and clock, the binding, the queues, and every counter at 0 (R93 and the
reset values of R15, R16, R19, R26, R33, R34, R43, R48, R54, R64, R65, R67, R72, R79, R84, R85, R87, R91, R94, R107,
R120, R123, R124, R126, R128, R142, R143, R147, R148, R150, R152, R153, R156, R165, R167, R173, R174, R175, R176,
R179, R183, R185). That the commands that wait stay is the model's choice (log 44). R133 gives the isolation record no
numbers outside an isolation: that they read 0 is the model's choice (log 24). The cycle number before the first
origin and the link's state are the model's choices (logs 7 and 8) and are not stated. -/
def Obligations.PowerOnResetValues : Prop :=
  ∀ s : State, ∃ t, exec .powerOnReset s = .next t ∧ t.pending = s.pending ∧ t.resetHeld = false ∧
    (∀ f, (t.feeder f).running = false ∧ (t.feeder f).replies = [] ∧ (t.feeder f).discoveries = [] ∧
      (t.feeder f).sweep = Sweep.off ∧ (t.feeder f).replyOverrun = false ∧ (t.feeder f).orderQueue = [] ∧
      (t.feeder f).downQueue = [] ∧ (t.feeder f).staging = [] ∧ (t.feeder f).reader = .idle ∧
      (t.feeder f).pointer = (1, 0) ∧ (t.feeder f).overbooked = false ∧
      (t.feeder f).ring = ⟨none, none, none, none⟩ ∧ (t.feeder f).rogue = .clear ∧ (t.feeder f).stuck = none ∧
      (t.feeder f).recent = [] ∧ (t.feeder f).quiet = 0 ∧ (t.feeder f).decay = 0 ∧
      (t.feeder f).isolation = ⟨none, [], [], 0, none, [], 0, 0, 0, false, [], none, false⟩ ∧
      (t.feeder f).enrolCount = ⟨0, 0, 0, 0, 0, 0, 0⟩ ∧ (t.feeder f).receptionCount = ⟨0, 0, 0, 0, 0, 0, 0, 0, 0⟩ ∧
      (t.feeder f).lightCount = ⟨0, 0, 0, 0, 0, 0, 0, 0, 0⟩ ∧
      (t.feeder f).upCount = ⟨0, 0, 0, 0, 0, 0, 0, 0, 0, 0, 0⟩ ∧ (t.feeder f).downCount = ⟨0, 0, 0, 0, 0, 0⟩ ∧
      (t.feeder f).settings =
        { td := 1920000, rtdMin := 128000, rtdMax := 640000, dk := 64, poll := 8, keepalive := 16, period := 400,
          timeout := 8000, declineHold := 16000, idleLimit := 16000, missLimit := 4, rouseInterval := 40,
          rouseLimit := 8, filter := 2, stuckLimit := 2, alertLimit := 4, strikeLimit := 8, observe := 16,
          autoIsolate := true } ∧
      ∀ d lane, (t.feeder f).drop d = DropRecord.empty ∧ (t.feeder f).lane d lane = ⟨0, 0, 0, 0⟩ ∧
        (t.feeder f).mark d = none ∧ (t.feeder f).partialFrame d lane = none) ∧
    (∀ n, t.profile n = ⟨.shared, 0, 1, 1⟩ ∧ t.place n = none ∧ t.tagEntry n = none ∧
      t.flow n = ⟨.f0, 0, 0, 1, false⟩ ∧ t.account n = {
        loaded := false, code := 0, mode := .counted, state := .normal, plan := 0, scale := 0,
        allowance := 0, overrun := 0, floorProfile := 0, floorRate := 0, bucket := 0, bound := none, down := ⟨0, 0, 0, 0⟩,
        up := ⟨0, 0, 0, 0⟩, outage := 0, lifeDown := 0, lifeUp := 0, saturated := false, wrapped := false,
        lateClose := false, periods := 1 } ∧
      t.tariffPlan n = ⟨⟨List.replicate 96 0, [0, 0, 0, 0]⟩, none⟩) ∧
    t.meter.clock = ⟨0, 0, 0, 96⟩ ∧ t.meter.pass = none ∧ t.meter.queue = [] ∧ t.meter.nextNumber = 0 ∧
    t.meter.held = false ∧ t.meter.exportCount = 0 ∧ t.meter.unbilled = 0 ∧
    t.meter.exported = 0 ∧ t.meter.lateCloses = 0 ∧
    t.agent.bind = .unbound ∧ t.agent.controller = none ∧ t.agent.partAddr = none ∧ t.agent.bindNumber = 0 ∧
    t.agent.bindAge = 0 ∧ t.agent.notices = [] ∧ t.agent.noticeLost = false ∧ t.agent.hold = [] ∧
    t.agent.count = ⟨0, 0, 0, 0, 0, 0⟩ ∧ t.uplink.classifier = ⟨0, 0, 0, 0, 0⟩ ∧ t.uplink.transmit = ⟨0, 0, 0, 0, 0⟩ ∧
    t.uplink.responses = [] ∧ t.uplink.notices = [] ∧ t.uplink.statements = [] ∧ t.uplink.traffic = [] ∧
    t.uplink.sending = none

/-- The state after power-on reset meets the invariants that every step keeps. -/
def Obligations.ResetMeetsInvariants : Prop :=
  State.reset.canonical = true ∧ State.reset.bounded = true ∧ State.reset.equalised ∧ State.reset.separated

/-- While the reset pin is held nothing moves but by the pin: holding it darkens the transmitters (00 section 9; what
it does to a transmission under way is the model's choice, log 10), and every other command leaves the whole state as
it is until POWER_ON_RESET: section 9 says that the part then neither transmits nor receives, and that every command
is frozen is the model's reading of it (log 10). -/
def Obligations.HeldResetPinFreezesThePart : Prop :=
  (∀ s : State, ∃ t, exec .resetPinHeld s = .next t ∧ t.resetHeld = true ∧
    (∀ f, t.feeder f = { s.feeder f with sending := none }) ∧
    t = { s with resetHeld := true, feeders := t.feeders, uplink := { s.uplink with sending := none } }) ∧
  ∀ (c : Instr) (s : State), s.resetHeld = true → c ≠ .powerOnReset → c ≠ .resetPinHeld → exec c s = .next s

/-! ## Taking requests (R177 to R179) -/

/-- The agent takes requests in the order in which their frames were handed over (R178). A request that is not the
next one waits and its command changes nothing; the next one leaves the agent's input, and those behind it stay (that a
command stands for the frame that waits first, and may stand alone where none waits, is log 12; that those behind a
PART_RESET survive it is the model's choice, log 61). Every request but BIND is then discarded
without a response, and counted, outside BOUND, from a foreign source, and while the response hold has its 8 places
taken; nothing else changes (R177, R179, R185). R179 speaks of a request that arrives: that the hold is looked at
again when the request is taken is the model's choice (log 13), and so is that a PART_RESET, which R182 has taken
whatever the state of the part, is dropped with it full (log 62). Any other request is decided and counts one more
request taken (R185); a PART_RESET leaves that counter 0 (log 34). -/
def Obligations.RequestsAreTakenInTheirTurn : Prop :=
  ∀ (c : Instr) (h : MgmtHead) (kind : Nat) (body : List Byte) (s : State),
    requestParts c = some (h, kind, body) → s.resetHeld = false →
    (∀ c' rest, s.agent.inbox = .request c' :: rest → c' ≠ c → exec c s = .next s) ∧
    (NoneOwed s → (s.agent.inbox = [] ∨ ∃ rest, s.agent.inbox = .request c :: rest) →
      (∃ t, exec c s = .next t ∧ t.agent.inbox = s.agent.inbox.drop 1) ∧
      (kind ≠ 1 →
        (s.agent.bind ≠ .bound → ∃ t, exec c s = .next t ∧ OnlyAnswered s t ∧
          t.uplink.responses ++ t.agent.hold = s.uplink.responses ++ s.agent.hold ∧
          t.agent.count = { s.agent.count with notBound := s.agent.count.notBound + 1 }) ∧
        (s.agent.bind = .bound → s.agent.controller ≠ some h.src → ∃ t, exec c s = .next t ∧ OnlyAnswered s t ∧
          t.uplink.responses ++ t.agent.hold = s.uplink.responses ++ s.agent.hold ∧
          t.agent.count = { s.agent.count with foreign := s.agent.count.foreign + 1 }) ∧
        (s.agent.bind = .bound → s.agent.controller = some h.src → 8 ≤ s.agent.hold.length →
          ∃ t, exec c s = .next t ∧ OnlyAnswered s t ∧
          t.uplink.responses ++ t.agent.hold = s.uplink.responses ++ s.agent.hold ∧
          t.agent.count = { s.agent.count with dropped := s.agent.count.dropped + 1 }) ∧
        (s.agent.bind = .bound → s.agent.controller = some h.src → s.agent.hold.length < 8 →
          ∃ t, exec c s = .next t ∧ t.agent.count.taken = if kind = 21 then 0 else s.agent.count.taken + 1)))

/-- The table of R176. A BIND in its turn that finds a free place in the response hold begins a binding (UNBOUND, or
BINDING and other than the one held) with a BIND_ECHO, confirms the one held (BINDING) with DONE, or is refused
WRONG_STATE from the controller (BOUND); one from any other source in BOUND is discarded and counted; and one that
finds the hold full where it would be answered is dropped and counted, with no other effect (R176, R179, R185; that
the hold is looked at first is log 14). A BIND that finds a binding of age 4,000 finds it ended: its timeout, due at a
cycle start already taken, comes first (R176; log 4). BIND_TIMEOUT ends a binding of age 4,000, whose age stays as it
was and whose bind number becomes 0 (R176 makes it absent; both log 42), and does nothing otherwise (that the timeout
is a command that finds the age is logs 4 and 6). -/
def Obligations.BindingFollowsItsTable : Prop :=
  (∀ (h : MgmtHead) (n : Nat) (s : State), s.resetHeld = false → s.turn (.bind h n) = true → s.agent.hold.length < 8 →
    ((s.agent.bind = .unbound ∨ (s.agent.bind = .binding ∧ (4000 ≤ s.agent.bindAge ∨
        ¬ (s.agent.controller = some h.src ∧ s.agent.partAddr = some h.dst ∧ s.agent.bindNumber = n)))) →
      Done (.bind h n) h 1 (.bindEcho n) s { s with agent := { s.agent with
        bind := .binding, controller := some h.src, partAddr := some h.dst, bindNumber := n, bindAge := 0 } }) ∧
    (s.agent.bind = .binding → s.agent.bindAge < 4000 → s.agent.controller = some h.src →
        s.agent.partAddr = some h.dst → s.agent.bindNumber = n →
      Done (.bind h n) h 1 .empty s { s with agent := { s.agent with bind := .bound } }) ∧
    (s.agent.bind = .bound → s.agent.controller = some h.src → Refuses (.bind h n) h 1 .wrongState s)) ∧
  (∀ (h : MgmtHead) (n : Nat) (s : State), s.resetHeld = false → s.turn (.bind h n) = true → NoneOwed s →
    (s.agent.bind = .bound → s.agent.controller ≠ some h.src → ∃ t, exec (.bind h n) s = .next t ∧ OnlyAnswered s t ∧
      t.uplink.responses ++ t.agent.hold = s.uplink.responses ++ s.agent.hold ∧
      t.agent.count = { s.agent.count with foreign := s.agent.count.foreign + 1 }) ∧
    (∀ y : State, s.agent.bind ≠ .bound ∨ s.agent.controller = some h.src → 8 ≤ s.agent.hold.length →
      y = (if s.agent.bind = .binding ∧ 4000 ≤ s.agent.bindAge then { s with agent := { s.agent with
        bind := .unbound, controller := none, partAddr := none, bindNumber := 0 } } else s) →
      ∃ t, exec (.bind h n) s = .next t ∧ OnlyAnswered y t ∧
      t.uplink.responses ++ t.agent.hold = s.uplink.responses ++ s.agent.hold ∧
      t.agent.count = { s.agent.count with dropped := s.agent.count.dropped + 1 })) ∧
  (∀ s : State, s.resetHeld = false →
    (s.agent.bind = .binding → s.agent.bindAge = 4000 → exec .bindTimeout s = .next { s with agent := { s.agent with
      bind := .unbound, controller := none, partAddr := none, bindNumber := 0 } }) ∧
    (s.agent.bind ≠ .binding ∨ s.agent.bindAge < 4000 → exec .bindTimeout s = .next s))

/-- A READ answers DONE with the record as it stands, or BAD_TABLE, or BAD_INDEX; nothing changes but its answer, and
it is counted among the requests taken (R180, R185, R187 for the indices of DROP and LANE). That a READ of PART_STATUS
does not show its own count is the model's choice (log 48). -/
def Obligations.ReadReturnsASnapshot : Prop :=
  ∀ (h : MgmtHead) (table index : Nat) (s : State), Accepts (.read h table index) h s →
    (table = 0 ∨ 12 < table → Refuses (.read h table index) h 2 .badTable s) ∧
    (1 ≤ table → table ≤ 12 →
      [511, 63, 2047, 4095, 255, 15, 3, 255, 1023, 3, 3, 0].getD (table - 1) 0 < index →
      Refuses (.read h table index) h 2 .badIndex s) ∧
    (1 ≤ table → table ≤ 12 →
      index ≤ [511, 63, 2047, 4095, 255, 15, 3, 255, 1023, 3, 3, 0].getD (table - 1) 0 →
      ∃ body, Done (.read h table index) h 2 body s s ∧
        (NoneOwed s → ∀ t, exec (.read h table index) s = .next t →
          t.agent.count = { s.agent.count with taken := s.agent.count.taken + 1 }) ∧
        (table = 1 → body = .admission (s.place index)) ∧
        (table = 2 → body = .profile (if index = 0 then ⟨.shared, 0, 0, 0⟩ else s.profile index)) ∧
        (table = 3 → body = .flow (s.flow index)) ∧
        (table = 4 → body = .tagMap (s.tagEntry index)) ∧
        (table = 5 → body = .account (s.account index)) ∧
        (table = 6 → body = .plan (s.tariffPlan index)) ∧
        (∀ f : FeederId, table = 7 → index = f.toNat → body = .feeder (s.feeder f).settings) ∧
        (∀ (f : FeederId) (d : Nat), table = 8 → 1 ≤ d → d ≤ 64 → index = 64 * f.toNat + (d - 1) →
          body = .drop (s.drop f d)) ∧
        (∀ (f : FeederId) (d lane : Nat), table = 9 → 1 ≤ d → d ≤ 64 → lane < 4 →
          index = 256 * f.toNat + 4 * (d - 1) + lane → body = .lane ((s.feeder f).lane d lane)) ∧
        (∀ f : FeederId, table = 10 → index = f.toNat → body = .replies (s.feeder f).replies) ∧
        (∀ f : FeederId, table = 11 → index = f.toNat → body = .isolation (s.feeder f).isolation) ∧
        (table = 12 → body = .status s.status))

/-! ## Tables (R17, R85, R95, R142, R143, R154, R168) -/

/-- A WRITE of the PROFILE table: refused BAD_INDEX or BAD_VALUE, or the whole entry is replaced with rate and cap
clamped, in any feeder state; a READ then returns it, and entry 0 reads as SHARED with every number 0 (R17). Plans
already built are no part of what it changes. That BAD_INDEX comes first is the model's choice (log 26). -/
def Obligations.ProfileWriteClampsAndStores : Prop :=
  (∀ (h : MgmtHead) (n : Nat) (r : ProfileFields) (s : State), Accepts (.writeProfile h n r) h s →
    (n = 0 ∨ 63 < n → Refuses (.writeProfile h n r) h 3 .badIndex s) ∧
    (1 ≤ n → n ≤ 63 → (2 < r.cls ∨ r.cap = 0 ∨ r.minGrant = 0 ∨ 4096 < r.minGrant) →
      Refuses (.writeProfile h n r) h 3 .badValue s) ∧
    (∀ c : LaneClass, 1 ≤ n → n ≤ 63 → r.cls = c.code → 1 ≤ r.cap → 1 ≤ r.minGrant → r.minGrant ≤ 4096 →
      ∃ x : State,
        Done (.writeProfile h n r) h 3 (.profile ⟨c, min r.rate 6400000, min r.cap 25000, r.minGrant⟩) s x ∧
        x = { s with profiles := x.profiles } ∧
        x.profile n = ⟨c, min r.rate 6400000, min r.cap 25000, r.minGrant⟩ ∧ ∀ m, m ≠ n → x.profile m = s.profile m)) ∧
  (∀ (h : MgmtHead) (n : Nat) (s : State), Accepts (.read h 2 n) h s → n ≤ 63 →
    Done (.read h 2 n) h 2 (.profile (if n = 0 then ⟨.shared, 0, 0, 0⟩ else s.profile n)) s s)

/-- A WRITE of the TAG_MAP table: its refusals, the entry it stores, and that tags 0 and 4,095 take only absent; the
map is absent everywhere after power-on reset, and PART_RESET and FEEDER_STOP leave it (R142).
That BAD_INDEX comes first is the model's choice (log 26). -/
def Obligations.TagMapWriteStores : Prop :=
  (∀ (h : MgmtHead) (n : Nat) (o : Option Nat) (s : State), Accepts (.writeTagMap h n o) h s →
    (4095 < n → Refuses (.writeTagMap h n o) h 3 .badIndex s) ∧
    (n = 0 ∨ n = 4095 → o.isSome → Refuses (.writeTagMap h n o) h 3 .badIndex s) ∧
    (∀ k, 1 ≤ n → n ≤ 4094 → o = some k → 2047 < k → Refuses (.writeTagMap h n o) h 3 .badValue s) ∧
    (n ≤ 4095 → (n = 0 ∨ n = 4095 → o = none) → (∀ k, o = some k → k ≤ 2047) →
      ∃ x : State, Done (.writeTagMap h n o) h 3 (.tagMap o) s x ∧ x = { s with tagMap := x.tagMap } ∧
        x.tagEntry n = o ∧ ∀ m, m ≠ n → x.tagEntry m = s.tagEntry m)) ∧
  (∀ (h : MgmtHead) (n : Nat) (s : State), Accepts (.read h 4 n) h s → n ≤ 4095 →
    Done (.read h 4 n) h 2 (.tagMap (s.tagEntry n)) s s) ∧
  (∀ n, State.reset.tagEntry n = none) ∧
  (∀ (h : MgmtHead) (f : Nat) (s t : State),
    exec (.partReset h) s = .next t ∨ exec (.feederStop h f) s = .next t → t.tagMap = s.tagMap)

/-- A WRITE of the FLOW table replaces the whole record, or is refused; the record reads as R143 says after power-on
reset, PART_RESET and FEEDER_STOP leave the table, and a READ returns the record (R143; that downstream enable ON is
written 0 and OFF 1 is the model's reading of R187, log 16). A WRITE of the TARIFF_PLAN table becomes the plan's
pending copy, or is refused; the active copy is untouched, and the pending copy becomes active at the next quarter
boundary (R168, R169; that a boundary is a flag that a command takes is log 4). That BAD_INDEX comes first is the
model's choice (log 26). -/
def Obligations.FlowAndPlanWritesReplaceTheirRecord : Prop :=
  ((∀ (h : MgmtHead) (n : Nat) (r : FlowFields) (s : State), Accepts (.writeFlow h n r) h s →
      (2047 < n → Refuses (.writeFlow h n r) h 3 .badIndex s) ∧
      (n ≤ 2047 → (3 < r.feeder ∨ 64 < r.drop ∨ 3 < r.lane ∨ r.tag = 0 ∨ 4094 < r.tag ∨ 1 < r.enable) →
        Refuses (.writeFlow h n r) h 3 .badValue s) ∧
      (∀ f : FeederId, n ≤ 2047 → r.feeder = f.toNat → r.drop ≤ 64 → r.lane ≤ 3 → 1 ≤ r.tag → r.tag ≤ 4094 →
        r.enable ≤ 1 →
        ∃ x : State, Done (.writeFlow h n r) h 3 (.flow ⟨f, r.drop, r.lane, r.tag, decide (r.enable = 0)⟩) s x ∧
          x = { s with flows := x.flows } ∧ x.flow n = ⟨f, r.drop, r.lane, r.tag, decide (r.enable = 0)⟩ ∧
          ∀ m, m ≠ n → x.flow m = s.flow m)) ∧
    (∀ (h : MgmtHead) (n : Nat) (s : State), Accepts (.read h 3 n) h s → n ≤ 2047 → Done (.read h 3 n) h 2 (.flow (s.flow n)) s s) ∧
    (∀ n, State.reset.flow n = ⟨.f0, 0, 0, 1, false⟩) ∧
    (∀ (h : MgmtHead) (f : Nat) (s t : State),
      exec (.partReset h) s = .next t ∨ exec (.feederStop h f) s = .next t → t.flows = s.flows)) ∧
  ((∀ (h : MgmtHead) (n : Nat) (r : PlanFields) (s : State), Accepts (.writeTariffPlan h n r) h s →
      (15 < n → Refuses (.writeTariffPlan h n r) h 3 .badIndex s) ∧
      (n ≤ 15 → ((∃ b ∈ r.bands, 3 < b) ∨ ∃ w ∈ r.weights, 15 < w) → Refuses (.writeTariffPlan h n r) h 3 .badValue s) ∧
      (n ≤ 15 → (∀ b ∈ r.bands, b ≤ 3) → (∀ w ∈ r.weights, w ≤ 15) →
        ∃ x : State,
          Done (.writeTariffPlan h n r) h 3 (.plan ⟨(s.tariffPlan n).active, some ⟨r.bands, r.weights⟩⟩) s x ∧
          x = { s with meter := { s.meter with plans := x.meter.plans } } ∧
          x.tariffPlan n = ⟨(s.tariffPlan n).active, some ⟨r.bands, r.weights⟩⟩ ∧
          ∀ m, m ≠ n → x.tariffPlan m = s.tariffPlan m)) ∧
    (∀ (s : State) (n : Nat) (c : PlanCopy), s.resetHeld = false → s.meter.boundaryDue = true →
      (s.tariffPlan n).pending = some c → ∃ t, exec .quarterBoundary s = .next t ∧ t.tariffPlan n = ⟨c, none⟩))

/-- A WRITE of the ADMISSION table: BAD_INDEX, BAD_VALUE, a place emptied by NONE, or the entry stored while the other
place that held its tag becomes empty (R85; the verdicts' numbers are R187's, the restriction's, ANY 0 and F0 to F3 1
to 4 with a larger one BAD_VALUE, log 16; that BAD_INDEX comes before BAD_VALUE is the model's choice, log 26). -/
def Obligations.AdmissionWriteKeepsOnePlacePerTag : Prop :=
  ∀ (h : MgmtHead) (n : Nat) (r : AdmissionFields) (s : State), Accepts (.writeAdmission h n r) h s →
    (511 < n → Refuses (.writeAdmission h n r) h 3 .badIndex s) ∧
    (n ≤ 511 → (2 < r.verdict ∨ 4 < r.restriction ∨ r.preferred = some 0 ∨ (∃ p, r.preferred = some p ∧ 64 < p) ∨
        255 < r.account ∨ 63 < r.profiles.q0 ∨ 63 < r.profiles.q1 ∨ 63 < r.profiles.q2 ∨ 63 < r.profiles.q3) →
      Refuses (.writeAdmission h n r) h 3 .badValue s) ∧
    (n ≤ 511 → r.restriction ≤ 4 → (∀ p, r.preferred = some p → 1 ≤ p ∧ p ≤ 64) → r.account ≤ 255 →
      r.profiles.q0 ≤ 63 → r.profiles.q1 ≤ 63 → r.profiles.q2 ≤ 63 → r.profiles.q3 ≤ 63 →
      (r.verdict = 2 → ∃ x : State, Done (.writeAdmission h n r) h 3 (.admission none) s x ∧
        x = { s with admission := x.admission } ∧ x.place n = none ∧ ∀ m, m ≠ n → x.place m = s.place m) ∧
      (∀ (v : AdmissionVerdict) (o : Option FeederId),
        (v = .permit ∧ r.verdict = 0) ∨ (v = .deny ∧ r.verdict = 1) → r.restriction = restrictionCode o →
        ∃ x : State, Done (.writeAdmission h n r) h 3
            (.admission (some ⟨r.tag, v, o, r.preferred, r.account, r.profiles⟩)) s x ∧
          x = { s with admission := x.admission } ∧
          x.place n = some ⟨r.tag, v, o, r.preferred, r.account, r.profiles⟩ ∧
          ∀ m, m ≠ n → x.place m =
            if (s.place m).any (fun e => decide (e.tag = r.tag)) then none else s.place m))

/-- A WRITE of the ACCOUNT table in the order of R154: BAD_INDEX, BUSY for a bound slot, an unload, BAD_VALUE, or a
load that zeroes the slot's counters and derives its state (R154; the modes' numbers are R187's). That loaded no is
written 0 and yes 1 is the model's reading (log 16), and so is that any other value of it is BAD_VALUE (log 55). An
unload leaves every other field, the floor bucket too (R154; where R146 has the bucket 0 on a write, log 54). -/
def Obligations.AccountWriteLoadsOrUnloads : Prop :=
  ∀ (h : MgmtHead) (n : Nat) (r : AccountFields) (s : State), Accepts (.writeAccount h n r) h s →
    (255 < n → Refuses (.writeAccount h n r) h 3 .badIndex s) ∧
    (n ≤ 255 → (s.account n).bound ≠ none → Refuses (.writeAccount h n r) h 3 .busy s) ∧
    (n ≤ 255 → (s.account n).bound = none → r.loaded = 0 →
      ∃ x : State, Done (.writeAccount h n r) h 3 (.account { s.account n with loaded := false }) s x ∧
        x = { s with meter := { s.meter with accounts := x.meter.accounts } } ∧
        x.account n = { s.account n with loaded := false } ∧ ∀ m, m ≠ n → x.account m = s.account m) ∧
    (n ≤ 255 → (s.account n).bound = none → 1 < r.loaded → Refuses (.writeAccount h n r) h 3 .badValue s) ∧
    (n ≤ 255 → (s.account n).bound = none → r.loaded = 1 →
      (1 < r.mode ∨ 15 < r.plan ∨ (r.scale ≠ 0 ∧ r.scale ≠ 6 ∧ r.scale ≠ 10) ∨ 2 ^ 40 - 1 < r.allowance ∨
        63 < r.floorProfile ∨ 400000 < r.floorRate) → Refuses (.writeAccount h n r) h 3 .badValue s) ∧
    (∀ m : AccountMode, n ≤ 255 → (s.account n).bound = none → r.loaded = 1 → r.mode = m.code → r.plan ≤ 15 →
      (r.scale = 0 ∨ r.scale = 6 ∨ r.scale = 10) → r.allowance ≤ 2 ^ 40 - 1 → r.floorProfile ≤ 63 →
      r.floorRate ≤ 400000 →
      ∃ (x : State) (a : Account), Done (.writeAccount h n r) h 3 (.account a) s x ∧
        a = { loaded := true, code := r.code, mode := m,
              state := if r.mode = 0 ∧ r.allowance = 0 then .throttled else .normal,
              plan := r.plan, scale := r.scale, allowance := r.allowance, overrun := 0,
              floorProfile := r.floorProfile, floorRate := r.floorRate, bucket := 0, bound := none,
              down := ⟨0, 0, 0, 0⟩, up := ⟨0, 0, 0, 0⟩, outage := 0, lifeDown := 0, lifeUp := 0,
              saturated := false, wrapped := false, lateClose := false, periods := 1 } ∧
        x = { s with meter := { s.meter with accounts := x.meter.accounts } } ∧
        x.account n = a ∧ ∀ k, k ≠ n → x.account k = s.account k)

/-- A WRITE of the FEEDER table: BAD_INDEX, BAD_VALUE exactly when a value breaks R95 or its own rule's range (R26,
R79, R87, R91, R107, R120), WRONG_STATE for a RUNNING feeder whose reach settings would change, and otherwise the
settings stored with rouse counts brought down to a lower ROUSE_LIMIT (R95, R107), but for a LEAVING record's, which
stays as it stood (R113, read as R107's exception: log 52). Nothing else changes unless a
measured run of light has already lasted the new STUCK_LIMIT: then STUCK becomes active at once (R120), counted, with
CLEAR or WATCH becoming ALERT and one ROGUE_ALERT, and the cycles from the onset to the one under way bear it (R123,
R124, R130). The onset is the cycle in which the run reached the new limit, counted back from the run's last word of
filtered light, which the words examined since follow (R123; log 19). AUTO_ISOLATE ON is written 0 and OFF 1 (log 16);
that BAD_INDEX comes first is log 26. -/
def Obligations.FeederWriteKeepsTheReachOfARun : Prop :=
  (∀ r : FeederFields, settingsOf r = none ↔
    ¬ ((r.dk = 0 ∨ r.dk = 32 ∨ r.dk = 64 ∨ r.dk = 128) ∧ 320000 ≤ r.td ∧ r.rtdMin < r.rtdMax ∧ r.rtdMax ≤ r.td ∧
      r.td ≤ 2240000 ∧ r.rtdMax - r.rtdMin ≤ 512000 ∧ 1 ≤ r.poll ∧ r.poll ≤ 64 ∧ 4 ≤ r.keepalive ∧
      r.keepalive ≤ 256 ∧ 4 ≤ r.period ∧ r.period ≤ 4096 ∧ 16 ≤ r.timeout ∧ r.timeout ≤ 65535 ∧
      1 ≤ r.declineHold ∧ r.declineHold ≤ 65535 ∧
      (r.idleLimit = 4000 ∨ r.idleLimit = 8000 ∨ r.idleLimit = 16000 ∨ r.idleLimit = 32000) ∧
      1 ≤ r.missLimit ∧ r.missLimit ≤ 15 ∧ 8 ≤ r.rouseInterval ∧ r.rouseInterval ≤ 1024 ∧ 1 ≤ r.rouseLimit ∧
      r.rouseLimit ≤ 15 ∧ r.filter ≤ 7 ∧
      (r.stuckLimit = 1 ∨ r.stuckLimit = 2 ∨ r.stuckLimit = 4 ∨ r.stuckLimit = 8) ∧ 1 ≤ r.alertLimit ∧
      r.alertLimit ≤ 64 ∧ 1 ≤ r.strikeLimit ∧ r.strikeLimit ≤ 15 ∧ 4 ≤ r.observe ∧ r.observe ≤ 64 ∧
      r.autoIsolate ≤ 1)) ∧
  (∀ (h : MgmtHead) (n : Nat) (r : FeederFields) (s : State), Accepts (.writeFeeder h n r) h s →
    (3 < n → Refuses (.writeFeeder h n r) h 3 .badIndex s) ∧
    (∀ f : FeederId, n = f.toNat →
      (settingsOf r = none → Refuses (.writeFeeder h n r) h 3 .badValue s) ∧
      (∀ u : Settings, settingsOf r = some u →
        u = ⟨r.td, r.rtdMin, r.rtdMax, r.dk, r.poll, r.keepalive, r.period, r.timeout, r.declineHold, r.idleLimit,
          r.missLimit, r.rouseInterval, r.rouseLimit, r.filter, r.stuckLimit, r.alertLimit, r.strikeLimit, r.observe,
          decide (r.autoIsolate = 0)⟩ ∧
        ((s.feeder f).running = true →
          ¬ (u.td = (s.feeder f).settings.td ∧ u.rtdMin = (s.feeder f).settings.rtdMin ∧
             u.rtdMax = (s.feeder f).settings.rtdMax ∧ u.dk = (s.feeder f).settings.dk) →
          Refuses (.writeFeeder h n r) h 3 .wrongState s) ∧
        ((s.feeder f).running = false ∨
            (u.td = (s.feeder f).settings.td ∧ u.rtdMin = (s.feeder f).settings.rtdMin ∧
             u.rtdMax = (s.feeder f).settings.rtdMax ∧ u.dk = (s.feeder f).settings.dk) →
          ∃ x : State, Done (.writeFeeder h n r) h 3 (.feeder u) s x ∧ (x.feeder f).settings = u ∧
            (∀ d, (x.feeder f).drop d =
              if ((s.feeder f).drop d).state = .leaving then (s.feeder f).drop d
              else { (s.feeder f).drop d with rouse := min ((s.feeder f).drop d).rouse u.rouseLimit }) ∧
            ((s.feeder f).detector.measured < 25000 * u.stuckLimit ∨ (s.feeder f).detector.looking = false ∨
                (s.feeder f).stuck ≠ none →
              x = s.setFeeder f { s.feeder f with settings := u, drops := (x.feeder f).drops }) ∧
            (∀ (past : Nat) (onset : CycleNo), 25000 * u.stuckLimit ≤ (s.feeder f).detector.measured →
              (s.feeder f).detector.looking = true → (s.feeder f).stuck = none →
              past = (s.feeder f).detector.measured - 25000 * u.stuckLimit +
                (if (s.feeder f).detector.passed = true then 0
                  else (s.feeder f).detector.dark + (s.feeder f).detector.raw) →
              onset = (if past < (s.feeder f).detector.pos then (s.feeder f).detector.cycle
                else (s.feeder f).detector.cycle -
                  BitVec.ofNat 32 ((past - (s.feeder f).detector.pos) / 25000 + 1)) →
              x.feeder f = { s.feeder f with
                settings := u, drops := (x.feeder f).drops, ring := (x.feeder f).ring, stuck := some onset
                rogue := if (s.feeder f).rogue = .clear ∨ (s.feeder f).rogue = .watch then .alert else (s.feeder f).rogue
                lightCount := { (s.feeder f).lightCount with
                  stuckOnsets := (s.feeder f).lightCount.stuckOnsets + 1 } } ∧
              (∀ m, (x.feeder f).slotOf m = ((s.feeder f).slotOf m).map fun sl =>
                if sl.state ≠ .waiting ∧ (sl.cycle - onset).toNat < 2 ^ 31 ∧
                    ((s.feeder f).detector.cycle - sl.cycle).toNat < 2 ^ 31
                  then { sl with light := { sl.light with stuck := true } } else sl) ∧
              (∀ g, g ≠ f → x.feeder g = s.feeder g) ∧ x = { s with feeders := x.feeders, agent := x.agent } ∧
              x.agent = if (s.feeder f).rogue = .clear ∨ (s.feeder f).rogue = .watch
                then (notify (.rogueAlert f .stuck) s).agent else s.agent)))))

/-! ## Feeder control and enrolment requests (R2, R79, R88 to R92, R181) -/

/-- FEEDER_START makes a STOPPED feeder RUNNING with the next cycle its first, and is refused for a feeder number
above 3 or a RUNNING feeder (R2, R92, R181). FEEDER_STOP in one step: every record of the feeder EMPTY and unbound
with its DROP_REMOVED in ascending index, as many as the notice queue has room for among 64 places, the others lost,
counted and shown by NOTICE_LOST (R183); the partial frames of its shining drops discarded and counted as lost to a
state change (R67, R72); the reply queue, windows, ring, marks, order queue, lane records, pointer and rogue light
state cleared, the settings, counters of R64, R84 and R124, REPLY_OVERRUN, OVERBOOKED and the downstream queue left;
and no other feeder, no other table and no other field of an account changed (R2, R15, R19, R33, R52, R75, R92, R140,
R147, R181; the numbers of the cleared isolation record are log 24). -/
def Obligations.FeederStartAndStopMoveTheRun : Prop :=
  (∀ (h : MgmtHead) (n : Nat) (s : State), Accepts (.feederStart h n) h s →
      (3 < n → Refuses (.feederStart h n) h 4 .badIndex s) ∧
      (∀ f : FeederId, n = f.toNat →
        ((s.feeder f).running = true → Refuses (.feederStart h n) h 4 .wrongState s) ∧
        ((s.feeder f).running = false →
          Done (.feederStart h n) h 4 (.feederState true (some (s.cycle + 1))) s
            (s.setFeeder f { s.feeder f with running := true, restartDue := true })))) ∧
  (∀ (h : MgmtHead) (n : Nat) (s : State), Accepts (.feederStop h n) h s →
      (3 < n → Refuses (.feederStop h n) h 5 .badIndex s) ∧
      (∀ f : FeederId, n = f.toNat →
        ((s.feeder f).running = false → Refuses (.feederStop h n) h 5 .wrongState s) ∧
        ((s.feeder f).running = true →
          ∃ x : State, Done (.feederStop h n) h 5 (.feederState false none) s x ∧
            x = { s with feeders := x.feeders, meter := { s.meter with accounts := x.meter.accounts },
                         agent := { s.agent with notices := x.agent.notices, noticeLost := x.agent.noticeLost,
                                                 count := x.agent.count } } ∧
            (∀ g, g ≠ f → x.feeder g = s.feeder g) ∧
            (∀ d, 1 ≤ d → d ≤ 64 → ((x.feeder f).drop d).state = .empty ∧
              ((s.drop f d).state ≠ .empty → (x.feeder f).drop d = DropRecord.empty)) ∧
            (∀ d lane, (s.drop f d).state.shining = true → 1 ≤ d → d ≤ 64 → lane < 4 →
              (x.feeder f).partialFrame d lane = none) ∧
            (∀ d lane, (s.drop f d).state.shining = false → 1 ≤ d → d ≤ 64 → lane < 4 →
              (x.feeder f).partialFrame d lane = (s.feeder f).partialFrame d lane) ∧
            (x.feeder f).upCount = { (s.feeder f).upCount with
              lostToState := (s.feeder f).upCount.lostToState + BitVec.ofNat 32
                (((dropIndices.filter fun d => (s.drop f d).state.shining).flatMap fun d =>
                  laneNumbers.filter fun l => ((s.feeder f).partialFrame d l).isSome).length) } ∧
            x.feeder f = { s.feeder f with
              running := false, sending := none, restartDue := false, drops := (x.feeder f).drops, replies := [],
              sweep := Sweep.off, discoveries := [], orderQueue := [], lanes := [], pointer := (1, 0),
              ring := ⟨none, none, none, none⟩, marks := [], reader := .idle, detector := Detector.off, stuck := none,
              rogue := .clear, recent := [], quiet := 0, decay := 0, decayDue := false, isolation := Isolation.none,
              reassembly := (x.feeder f).reassembly, upCount := (x.feeder f).upCount } ∧
            (∀ a, x.account a = { s.account a with bound := (x.account a).bound }) ∧
            (Tbl.wf Account.reset s.meter.accounts = true → ∀ d a, 1 ≤ d → d ≤ 64 → (s.drop f d).state ≠ .empty →
              s.boundAccount f d = some a → (x.account a).bound = none) ∧
            (∀ (removed : List QueuedNotice) (room : Nat), room = 64 - s.agent.notices.length →
              removed = ((dropIndices.filter fun d => decide ((s.drop f d).state ≠ .empty)).map fun d =>
                ⟨s.cycle, .dropRemoved f d (s.drop f d).tag (s.drop f d).account .feederStop⟩) →
              x.agent = { s.agent with
                notices := s.agent.notices ++ removed.take room
                noticeLost := s.agent.noticeLost || decide (room < removed.length)
                count := { s.agent.count with
                  noticesLost := s.agent.count.noticesLost + BitVec.ofNat 32 (removed.length - room) } }))))

/-- DISCOVERY sets the sweep of a feeder in any state: OFF, ONCE and CONTINUOUS as the table of R79 gives, with the sweep
state in the response; a feeder above 3 is BAD_INDEX and another mode BAD_VALUE (R79;
the modes' numbers are R187's; that BAD_INDEX comes first is the model's choice, log 26). -/
def Obligations.DiscoveryRequestSetsTheSweep : Prop :=
  ∀ (h : MgmtHead) (n mode : Nat) (s : State), Accepts (.discovery h n mode) h s →
    (3 < n → Refuses (.discovery h n mode) h 6 .badIndex s) ∧
    (∀ f : FeederId, n = f.toNat →
      (2 < mode → Refuses (.discovery h n mode) h 6 .badValue s) ∧
      (mode = 0 → Done (.discovery h n mode) h 6 (.sweep ⟨.none, false, none⟩ (s.feeder f).settings.period) s
        (s.setFeeder f { s.feeder f with
          sweep := ⟨.none, false, none⟩
          discoveries := (s.feeder f).discoveries.map fun e => ⟨e.cycle, false⟩ })) ∧
      (∀ w : Sweep, mode = 1 →
        w = { (s.feeder f).sweep with
              once := if (s.feeder f).sweep.once = .none then .due else (s.feeder f).sweep.once } →
        Done (.discovery h n mode) h 6 (.sweep w (s.feeder f).settings.period) s
          (s.setFeeder f { s.feeder f with sweep := w })) ∧
      (∀ w : Sweep, mode = 2 →
        w = { (s.feeder f).sweep with
              continuous := true
              lastDiscovery := if (s.feeder f).sweep.continuous then (s.feeder f).sweep.lastDiscovery else none } →
        Done (.discovery h n mode) h 6 (.sweep w (s.feeder f).settings.period) s
          (s.setFeeder f { s.feeder f with sweep := w })))

/-- ADMIT and REFUSE are taken against the entry that holds the tag: WAITING_HOST and not declined, an ADMIT is
decided as a PERMIT with its fields and a REFUSE declines HOST_REFUSED; in LOOKUP both are refused WRONG_STATE; with a
DECLINE pending, or no entry, TOO_LATE; and a feeder above 3 or a value R85 does not allow is refused (R85, R88). An
entry whose timeout is due from a cycle start already taken is declined TIMEOUT first, and the answer is TOO_LATE
(R87, R88; log 4). That these refusals come first is log 26, that REFUSE's DONE has no fields log 43, and the numbers
of the restriction log 16. -/
def Obligations.AnswersSettleTheQuery : Prop :=
  (∀ (h : MgmtHead) (n : Nat) (r : AdmitFields) (s : State), Accepts (.admitReply h n r) h s →
    (3 < n → Refuses (.admitReply h n r) h 7 .badIndex s) ∧
    (∀ f : FeederId, n = f.toNat →
      ((4 < r.restriction ∨ r.preferred = some 0 ∨ (∃ p, r.preferred = some p ∧ 64 < p) ∨ 255 < r.account ∨
        63 < r.profiles.q0 ∨ 63 < r.profiles.q1 ∨ 63 < r.profiles.q2 ∨ 63 < r.profiles.q3) →
        Refuses (.admitReply h n r) h 7 .badValue s) ∧
      (∀ o : Option FeederId, r.restriction = restrictionCode o → (∀ p, r.preferred = some p → 1 ≤ p ∧ p ≤ 64) →
        r.account ≤ 255 → r.profiles.q0 ≤ 63 → r.profiles.q1 ≤ 63 → r.profiles.q2 ≤ 63 → r.profiles.q3 ≤ 63 →
        ((s.feeder f).entryOf r.tag = none → Refuses (.admitReply h n r) h 7 .tooLate s) ∧
        (∀ e : ReplyEntry, (s.feeder f).entryOf r.tag = some e →
          (e.decline ≠ none → Refuses (.admitReply h n r) h 7 .tooLate s) ∧
          (e.decline = none → e.timeoutDue = true → ∃ t, exec (.admitReply h n r) s = .next t ∧
            Answered h 7 (some .tooLate) .empty (declineEntry f e .timeout s) t ∧
            OnlyAnswered (declineEntry f e .timeout s) t) ∧
          (e.decline = none → e.timeoutDue = false → e.status = .lookup →
            Refuses (.admitReply h n r) h 7 .wrongState s) ∧
          (e.decline = none → e.timeoutDue = false → e.status = .waitingHost →
            (∀ d, (permit f e ⟨r.tag, .permit, o, r.preferred, r.account, r.profiles⟩ s).2 = .ok d →
              Done (.admitReply h n r) h 7 (.assigned d) s
                (permit f e ⟨r.tag, .permit, o, r.preferred, r.account, r.profiles⟩ s).1) ∧
            (∀ why, (permit f e ⟨r.tag, .permit, o, r.preferred, r.account, r.profiles⟩ s).2 = .error why →
              Done (.admitReply h n r) h 7 (.declined why) s
                (permit f e ⟨r.tag, .permit, o, r.preferred, r.account, r.profiles⟩ s).1)))))) ∧
  (∀ (h : MgmtHead) (n : Nat) (tag : FactoryTag) (s : State), Accepts (.refuse h n tag) h s →
    (3 < n → Refuses (.refuse h n tag) h 8 .badIndex s) ∧
    (∀ f : FeederId, n = f.toNat →
      ((s.feeder f).entryOf tag = none → Refuses (.refuse h n tag) h 8 .tooLate s) ∧
      (∀ e : ReplyEntry, (s.feeder f).entryOf tag = some e →
        (e.decline ≠ none → Refuses (.refuse h n tag) h 8 .tooLate s) ∧
        (e.decline = none → e.timeoutDue = true → ∃ t, exec (.refuse h n tag) s = .next t ∧
          Answered h 8 (some .tooLate) .empty (declineEntry f e .timeout s) t ∧
          OnlyAnswered (declineEntry f e .timeout s) t) ∧
        (e.decline = none → e.timeoutDue = false → e.status = .lookup → Refuses (.refuse h n tag) h 8 .wrongState s) ∧
        (e.decline = none → e.timeoutDue = false → e.status = .waitingHost →
          Done (.refuse h n tag) h 8 .empty s (declineEntry f e .hostRefused s)))))

/-- A PERMIT, from a place or from an ADMIT, checks the restriction, the account and the index in the order of R86 and
R89, and either declines with that step's reason or creates the record, binds the account and takes the entry out of
the queue (R89, R90). A decline leaves the entry at its place with a DECLINE pending and its reason, counts it and
asks for one DECLINED notice; no other entry changes but that a HELD DECLINE may become QUEUED (R91, R77). -/
def Obligations.PermitAssignsAndDeclineKeepsTheEntry : Prop :=
  (∀ (f : FeederId) (e : ReplyEntry) (a : AdmissionEntry) (s : State),
      (∀ g, a.restriction = some g → g ≠ f → permit f e a s = (declineEntry f e .wrongFeeder s, .error .wrongFeeder)) ∧
      (a.restriction = none ∨ a.restriction = some f →
        ((s.account a.account).loaded = false →
          permit f e a s = (declineEntry f e .accountMissing s, .error .accountMissing)) ∧
        ((s.account a.account).loaded = true → (s.account a.account).bound ≠ none →
          permit f e a s = (declineEntry f e .accountInUse s, .error .accountInUse)) ∧
        ((s.account a.account).loaded = true → (s.account a.account).bound = none →
          ((∀ d, 1 ≤ d → d ≤ 64 → (s.drop f d).state ≠ .empty ∨ (s.feeder f).ringHolds d = true) →
            permit f e a s = (declineEntry f e .feederFull s, .error .feederFull)) ∧
          (∀ d, 1 ≤ d → d ≤ 64 → (s.drop f d).state = .empty → (s.feeder f).ringHolds d = false →
            (a.preferred = some d ∨
              ((∀ p, a.preferred = some p → ¬ (1 ≤ p ∧ p ≤ 64) ∨ (s.drop f p).state ≠ .empty ∨
                  (s.feeder f).ringHolds p = true) ∧
                ∀ k, 1 ≤ k → k < d → (s.drop f k).state ≠ .empty ∨ (s.feeder f).ringHolds k = true)) →
            ∃ x : State, permit f e a s = (x, .ok d) ∧
              x.account a.account = { s.account a.account with bound := some (f, d) } ∧
              (∀ k, k ≠ a.account → x.account k = s.account k) ∧
              (∃ st, x.drop f d = { DropRecord.empty with
                state := .ranging, tag := e.tag, account := a.account, laneCount := e.laneCount,
                profiles := ⟨if 0 < e.laneCount then a.profiles.q0 else 0, if 1 < e.laneCount then a.profiles.q1 else 0,
                  if 2 < e.laneCount then a.profiles.q2 else 0, if 3 < e.laneCount then a.profiles.q3 else 0⟩,
                rtd := e.rtd, pending := some ⟨.assign, st⟩, lastPlanned := s.cycle, phase := some .awaitingAssign,
                serial := s.serial }) ∧
              (∀ lane, lane < 4 → (x.feeder f).lane d lane = ⟨0, 0, 0, 0⟩) ∧
              ((x.feeder f).replies.map fun y => y.serial) =
                ((s.feeder f).replies.filter fun y => decide (y.serial ≠ e.serial)).map (fun y => y.serial) ∧
              (∀ g, g ≠ f → x.feeder g = s.feeder g) ∧ x.agent = s.agent ∧ x.uplink = s.uplink)))) ∧
  (∀ (f : FeederId) (e : ReplyEntry) (why : DeclineReason) (s : State), e ∈ (s.feeder f).replies →
      ∃ x : State, declineEntry f e why s = x ∧
        ((x.feeder f).replies.map fun y => (y.serial, y.tag)) = (s.feeder f).replies.map (fun y => (y.serial, y.tag)) ∧
        (∀ y ∈ (x.feeder f).replies, y.serial = e.serial → ∃ st, y.decline = some (why, st)) ∧
        (∀ y ∈ (x.feeder f).replies, y.serial ≠ e.serial →
          ∃ z ∈ (s.feeder f).replies, y = { z with decline := y.decline } ∧
            y.decline.map Prod.fst = z.decline.map Prod.fst) ∧
        (x.feeder f).enrolCount =
          { (s.feeder f).enrolCount with declines := (s.feeder f).enrolCount.declines + 1 } ∧
        x.agent = (notify (.declined f e.tag why) s).agent ∧ x.uplink = s.uplink ∧ x.meter = s.meter ∧
        (∀ g, g ≠ f → x.feeder g = s.feeder g))

/-! ## Requests about a drop (R113 to R119) -/

/-- REMOVE in the order of R114: BAD_INDEX, WRONG_STATE, BUSY, or the record enters LEAVING with reason HOST_REMOVE and a
REMOVE order, whatever the feeder's rogue state; the response carries the record (R113, R114). The partial frames of a
shining drop are discarded and counted as lost to a state change, and no other slot moves (R67, R72); the Light
Monitor is told last, and what it then does of an isolation under way is IsolationConfirmsAndEnds' (R113, R138). -/
def Obligations.RemoveMakesTheDropLeave : Prop :=
  ∀ (h : MgmtHead) (n d : Nat) (s : State), Accepts (.remove h n d) h s →
    (3 < n ∨ d = 0 ∨ 64 < d → Refuses (.remove h n d) h 9 .badIndex s) ∧
    (∀ f : FeederId, n = f.toNat → 1 ≤ d → d ≤ 64 →
      ((s.drop f d).state = .empty ∨ (s.drop f d).state = .leaving → Refuses (.remove h n d) h 9 .wrongState s) ∧
      ((s.drop f d).state ≠ .empty → (s.drop f d).state ≠ .leaving →
        ((s.drop f d).pending ≠ none → Refuses (.remove h n d) h 9 .busy s) ∧
        ((s.drop f d).pending = none →
          ∃ x y : State, Done (.remove h n d) h 9 (.drop (x.drop f d)) s x ∧
            x = departure f d (decide ((s.drop f d).state = .darkened ∧ (s.drop f d).cause = some .isolation)) false y ∧
            y = s.setFeeder f { ((s.feeder f).setDrop d { s.drop f d with
                state := .leaving, leave := some .hostRemove, resume := none, cause := none, phase := none,
                inFlight := none, pending := some ⟨.remove, .held⟩ }).fillOrders with
              reassembly := (y.feeder f).reassembly, upCount := (y.feeder f).upCount } ∧
            (∀ k lane, 1 ≤ k → lane < 4 → (y.feeder f).partialFrame k lane =
              if k = d ∧ (s.drop f d).state.shining = true then none else (s.feeder f).partialFrame k lane) ∧
            (y.feeder f).upCount = { (s.feeder f).upCount with
              lostToState := (s.feeder f).upCount.lostToState + (if (s.drop f d).state.shining then BitVec.ofNat 32
                (laneNumbers.filter fun l => ((s.feeder f).partialFrame d l).isSome).length else 0) } ∧
            ((s.feeder f).isolation.kind = none → x = y) ∧
            (∃ st, x.drop f d = { s.drop f d with
              state := .leaving, leave := some .hostRemove, resume := none, cause := none, phase := none,
              inFlight := none, pending := some ⟨.remove, st⟩ }) ∧
            (∀ g, g ≠ f → x.feeder g = s.feeder g) ∧
            ((s.drop f d).state.shining = true → ∀ lane, lane < 4 → (x.feeder f).partialFrame d lane = none) ∧
            x.meter = s.meter ∧ x.uplink = s.uplink ∧
            ((s.feeder f).isolation.kind = none →
              x = s.setFeeder f (x.feeder f) ∧
              ∀ k, k ≠ d → ((x.feeder f).drop k) =
                { s.drop f k with pending := ((x.feeder f).drop k).pending }))))

/-- DARKEN in the order of R116: BAD_INDEX, WRONG_STATE, BUSY while ISOLATING or with an order pending, or the drop is
DARKENED by the host with a DARKEN order, and its partial frames are discarded as lost to a state change (R67, R116).
RELIGHT in the order of R117: BAD_INDEX, WRONG_STATE for a drop not DARKENED by the host, BUSY while ISOLATING or with
an order pending, or the drop returns to its resume state with a RELIGHT order and its resume mark WAITING (R48, R110,
R117). RELEASE in the order of R119: BAD_INDEX, WRONG_STATE for a drop not QUARANTINED, BUSY with an order pending, or
the drop becomes ACTIVE with its counts and strikes 0, an ENABLE order and its resume mark WAITING, whatever the rogue
state (R48, R119). -/
def Obligations.DarkenRelightAndReleaseMoveADrop : Prop :=
  (∀ (h : MgmtHead) (n d : Nat) (s : State), Accepts (.darken h n d) h s →
      (3 < n ∨ d = 0 ∨ 64 < d → Refuses (.darken h n d) h 10 .badIndex s) ∧
      (∀ f : FeederId, n = f.toNat → 1 ≤ d → d ≤ 64 →
        ((s.drop f d).state.shining = false → Refuses (.darken h n d) h 10 .wrongState s) ∧
        ((s.drop f d).state.shining = true →
          ((s.feeder f).rogue = .isolating → Refuses (.darken h n d) h 10 .busy s) ∧
          ((s.feeder f).rogue ≠ .isolating → (s.drop f d).pending ≠ none → Refuses (.darken h n d) h 10 .busy s) ∧
          ((s.feeder f).rogue ≠ .isolating → (s.drop f d).pending = none →
            ∃ x : State, Done (.darken h n d) h 10 (.drop (x.drop f d)) s x ∧
              (∃ st, x.drop f d = { s.drop f d with
                state := .darkened, resume := some (s.drop f d).state, cause := some .host,
                pending := some ⟨.darken, st⟩ }) ∧
              x = s.setFeeder f { ((s.feeder f).setDrop d { s.drop f d with
                    state := .darkened, resume := some (s.drop f d).state, cause := some .host,
                    pending := some ⟨.darken, .held⟩ }).fillOrders with
                  reassembly := (x.feeder f).reassembly, upCount := (x.feeder f).upCount } ∧
              (∀ k lane, 1 ≤ k → lane < 4 → (x.feeder f).partialFrame k lane =
                if k = d then none else (s.feeder f).partialFrame k lane) ∧
              (x.feeder f).upCount = { (s.feeder f).upCount with
                lostToState := (s.feeder f).upCount.lostToState +
                  BitVec.ofNat 32 (laneNumbers.filter fun l => ((s.feeder f).partialFrame d l).isSome).length })))) ∧
  (∀ (h : MgmtHead) (n d : Nat) (s : State), Accepts (.relight h n d) h s →
      (3 < n ∨ d = 0 ∨ 64 < d → Refuses (.relight h n d) h 11 .badIndex s) ∧
      (∀ f : FeederId, n = f.toNat → 1 ≤ d → d ≤ 64 →
        ((s.drop f d).state ≠ .darkened ∨ (s.drop f d).cause = some .isolation →
          Refuses (.relight h n d) h 11 .wrongState s) ∧
        (∀ st : DropState, (s.drop f d).state = .darkened → (s.drop f d).cause ≠ some .isolation →
          (s.drop f d).resume = some st →
          ((s.feeder f).rogue = .isolating → Refuses (.relight h n d) h 11 .busy s) ∧
          ((s.feeder f).rogue ≠ .isolating → (s.drop f d).pending ≠ none → Refuses (.relight h n d) h 11 .busy s) ∧
          ((s.feeder f).rogue ≠ .isolating → (s.drop f d).pending = none →
            ∃ x : State, Done (.relight h n d) h 11 (.drop (x.drop f d)) s x ∧
              (∃ st', x.drop f d = { s.drop f d with
                state := st, resume := none, cause := none, idle := if st = .active then 0 else (s.drop f d).idle,
                pending := some ⟨.relight, st'⟩ }) ∧
              (x.feeder f).mark d = some .waiting ∧
              x = s.setFeeder f (((s.feeder f).setDrop d { s.drop f d with
                state := st, resume := none, cause := none, idle := if st = .active then 0 else (s.drop f d).idle,
                pending := some ⟨.relight, .held⟩ }).fillOrders.setMark d (some .waiting)))))) ∧
  (∀ (h : MgmtHead) (n d : Nat) (s : State), Accepts (.release h n d) h s →
      (3 < n ∨ d = 0 ∨ 64 < d → Refuses (.release h n d) h 12 .badIndex s) ∧
      (∀ f : FeederId, n = f.toNat → 1 ≤ d → d ≤ 64 →
        ((s.drop f d).state ≠ .quarantined → Refuses (.release h n d) h 12 .wrongState s) ∧
        ((s.drop f d).state = .quarantined → (s.drop f d).pending ≠ none → Refuses (.release h n d) h 12 .busy s) ∧
        ((s.drop f d).state = .quarantined → (s.drop f d).pending = none →
          ∃ x : State, Done (.release h n d) h 12 (.drop (x.drop f d)) s x ∧
            (∃ st', x.drop f d = { s.drop f d with
              state := .active, miss := 0, rouse := 0, idle := 0, strikes := 0, pending := some ⟨.enable, st'⟩ }) ∧
            (x.feeder f).mark d = some .waiting ∧
            x = s.setFeeder f (((s.feeder f).setDrop d { s.drop f d with
              state := .active, miss := 0, rouse := 0, idle := 0, strikes := 0,
              pending := some ⟨.enable, .held⟩ }).fillOrders.setMark d (some .waiting)))))

/-- ISOLATE in the order of R132: BAD_INDEX, WRONG_STATE, BUSY, or the isolation begins: of one named shining drop, or
of all when exactly one is shining, which is darkened for its confirm step at once; of all the shining drops, the
first half of which is darkened; or, with none shining, one that ends UNATTRIBUTED at once (R118, R131, R132, R134,
R137, R139). The numbers of the record that no rule has set yet are log 24, the mark of the confirm step log 38. -/
def Obligations.IsolateBeginsAnIsolation : Prop :=
  ∀ (h : MgmtHead) (n : Nat) (o : Option Nat) (s : State), Accepts (.isolate h n o) h s →
    (3 < n ∨ o = some 0 ∨ (∃ d, o = some d ∧ 64 < d) → Refuses (.isolate h n o) h 13 .badIndex s) ∧
    (∀ f : FeederId, n = f.toNat → (∀ d, o = some d → 1 ≤ d ∧ d ≤ 64) →
      ((s.feeder f).running = false → Refuses (.isolate h n o) h 13 .wrongState s) ∧
      ((s.feeder f).running = true → (s.feeder f).rogue = .isolating → Refuses (.isolate h n o) h 13 .busy s) ∧
      ((s.feeder f).running = true → (s.feeder f).rogue ≠ .isolating →
        (∀ d, o = some d → (s.drop f d).state.shining = false → Refuses (.isolate h n o) h 13 .wrongState s) ∧
        (∀ d kind, (o = some d ∧ (s.drop f d).state.shining = true ∧ kind = .targeted) ∨
            (o = none ∧ (s.feeder f).shiningDrops = [d] ∧ kind = .full) →
          ∃ x : State, Done (.isolate h n o) h 13 (.isolation (x.feeder f).isolation) s x ∧
            (x.feeder f).rogue = .isolating ∧
            (x.feeder f).isolation = { Isolation.none with
              kind := some kind, suspects := [d], test := [d], step := 1, phase := some .darkening,
              awaited := [d], confirmStep := true } ∧
            (x.drop f d).state = .darkened ∧ (x.drop f d).resume = some (s.drop f d).state ∧
            (x.drop f d).cause = some .isolation ∧
            (x.feeder f).lightCount =
              { (s.feeder f).lightCount with isolations := (s.feeder f).lightCount.isolations + 1 } ∧
            x = s.setFeeder f (x.feeder f)) ∧
        (o = none → 2 ≤ (s.feeder f).shiningDrops.length →
          ∃ x : State, Done (.isolate h n o) h 13 (.isolation (x.feeder f).isolation) s x ∧
            (x.feeder f).rogue = .isolating ∧
            (∀ half, half = (s.feeder f).shiningDrops.take (((s.feeder f).shiningDrops.length + 1) / 2) →
              (x.feeder f).isolation = { Isolation.none with
                kind := some .full, suspects := (s.feeder f).shiningDrops, test := half, step := 1,
                phase := some .darkening, awaited := half } ∧
              (∀ d ∈ half, (x.drop f d).state = .darkened ∧ (x.drop f d).resume = some (s.drop f d).state ∧
                (x.drop f d).cause = some .isolation) ∧
              (∀ d, d ∉ half → x.drop f d = { s.drop f d with pending := (x.drop f d).pending })) ∧
            x = s.setFeeder f (x.feeder f)) ∧
        (o = none → (s.feeder f).shiningDrops = [] →
          ∃ x : State, Done (.isolate h n o) h 13 (.isolation Isolation.none) s x ∧
            x = notify (.rogueUnattributed f 1) (s.setFeeder f { s.feeder f with
              rogue := .unattributed, isolation := Isolation.none, recent := [], quiet := 0,
              lightCount := { (s.feeder f).lightCount with
                isolations := (s.feeder f).lightCount.isolations + 1,
                unattributed := (s.feeder f).lightCount.unattributed + 1 } }))))

/-! ## Requests about accounts, the tariff clock and exports (R161 to R163, R166, R174) -/

/-- TOP_UP in the order of R161: BAD_INDEX, BAD_VALUE, WRONG_STATE, or the allowance grows, stopping at 2^40 − 1; a
THROTTLED account whose allowance is then above 0 becomes NORMAL with an empty bucket and an ACCOUNT_RESTORED notice.
Nothing else of the account changes, in any state, bound or not, in either mode (R161). SUSPEND and RESUME in the
order of R162 and R163: BAD_INDEX, WRONG_STATE for a slot not loaded or in the wrong state, or SUSPENDED with the
bucket 0, and back to THROTTLED for a COUNTED account with allowance 0 and to NORMAL otherwise, with the bucket as it
stands; no notice, and nothing else changes (R162, R163). -/
def Obligations.AccountRequestsMoveTheAccount : Prop :=
  (∀ (h : MgmtHead) (n points : Nat) (s : State), Accepts (.topUp h n points) h s →
      (255 < n → Refuses (.topUp h n points) h 14 .badIndex s) ∧
      (n ≤ 255 → (points = 0 ∨ 2 ^ 40 - 1 < points) → Refuses (.topUp h n points) h 14 .badValue s) ∧
      (n ≤ 255 → 1 ≤ points → points ≤ 2 ^ 40 - 1 →
        ((s.account n).loaded = false → Refuses (.topUp h n points) h 14 .wrongState s) ∧
        (∀ a : Account, (s.account n).loaded = true →
          a = { s.account n with allowance := min ((s.account n).allowance + points) (2 ^ 40 - 1) } →
          ((s.account n).state ≠ .throttled → ∃ x : State, Done (.topUp h n points) h 14 (.account a) s x ∧
            x = { s with meter := { s.meter with accounts := x.meter.accounts } } ∧ x.account n = a ∧
            ∀ k, k ≠ n → x.account k = s.account k) ∧
          ((s.account n).state = .throttled → ∃ x : State,
            Done (.topUp h n points) h 14 (.account { a with state := .normal, bucket := 0 }) s x ∧
            x = notify (.accountRestored n a.code a.bound a.allowance)
              { s with meter := { s.meter with accounts := x.meter.accounts } } ∧
            x.account n = { a with state := .normal, bucket := 0 } ∧ ∀ k, k ≠ n → x.account k = s.account k)))) ∧
  ((∀ (h : MgmtHead) (n : Nat) (s : State), Accepts (.suspend h n) h s →
      (255 < n → Refuses (.suspend h n) h 15 .badIndex s) ∧
      (n ≤ 255 → (s.account n).loaded = false ∨ (s.account n).state = .suspended →
        Refuses (.suspend h n) h 15 .wrongState s) ∧
      (n ≤ 255 → (s.account n).loaded = true → (s.account n).state ≠ .suspended → ∃ x : State,
        Done (.suspend h n) h 15 (.account { s.account n with state := .suspended, bucket := 0 }) s x ∧
        x = { s with meter := { s.meter with accounts := x.meter.accounts } } ∧
        x.account n = { s.account n with state := .suspended, bucket := 0 } ∧ ∀ k, k ≠ n → x.account k = s.account k)) ∧
    (∀ (h : MgmtHead) (n : Nat) (s : State), Accepts (.resume h n) h s →
      (255 < n → Refuses (.resume h n) h 16 .badIndex s) ∧
      (n ≤ 255 → (s.account n).loaded = false ∨ (s.account n).state ≠ .suspended →
        Refuses (.resume h n) h 16 .wrongState s) ∧
      (∀ a : Account, n ≤ 255 → (s.account n).loaded = true → (s.account n).state = .suspended →
        a = { s.account n with
              state := if (s.account n).mode = .counted ∧ (s.account n).allowance = 0 then .throttled else .normal } →
        ∃ x : State, Done (.resume h n) h 16 (.account a) s x ∧
          x = { s with meter := { s.meter with accounts := x.meter.accounts } } ∧ x.account n = a ∧
          ∀ k, k ≠ n → x.account k = s.account k)))

/-- SET_TARIFF_CLOCK is refused BAD_VALUE for a day, quarter or CLOSE_EVERY out of range, and otherwise sets the clock
with the in-quarter count 0: no statement closes, no plan becomes active, and a pass under way goes on (R166); a
boundary due at a cycle start already taken is taken in full before it (log 4). EXPORT_HOLD holds running export and
EXPORT_RESUME runs held export, each with the export state and the number of records in its response; otherwise each
is refused WRONG_STATE. EXPORT_RESUME restarts the export at once: as many records as wait, as the cycle's count of 4
has left and as the statement class has places leave the queue for that class (R173, R174; that the response gives the
number left in the queue is log 59). While export is held STATEMENT_EXPORT takes no record (R173); PART_RESET leaves
the export state (R174). -/
def Obligations.ClockAndExportAreSet : Prop :=
  (∀ (h : MgmtHead) (day quarter every : Nat) (s : State), Accepts (.setTariffClock h day quarter every) h s →
      (65535 < day ∨ 95 < quarter ∨ every = 0 ∨ 96 < every →
        Refuses (.setTariffClock h day quarter every) h 17 .badValue s) ∧
      (day ≤ 65535 → quarter ≤ 95 → 1 ≤ every → every ≤ 96 →
        (s.meter.boundaryDue = false →
          Done (.setTariffClock h day quarter every) h 17 (.clock ⟨day, quarter, 0, every⟩) s
            { s with meter := { s.meter with clock := ⟨day, quarter, 0, every⟩ } }) ∧
        (s.meter.boundaryDue = true → ∃ x : State, exec .quarterBoundary s = .next x ∧
          Done (.setTariffClock h day quarter every) h 17 (.clock ⟨day, quarter, 0, every⟩) s
            { x with meter := { x.meter with clock := ⟨day, quarter, 0, every⟩ } }))) ∧
  ((∀ (h : MgmtHead) (s : State), Accepts (.exportHold h) h s →
      (s.meter.held = true → Refuses (.exportHold h) h 18 .wrongState s) ∧
      (s.meter.held = false → Done (.exportHold h) h 18 (.exportState true s.meter.queue.length) s
        { s with meter := { s.meter with held := true } })) ∧
    (∀ (h : MgmtHead) (s : State), Accepts (.exportResume h) h s →
      (s.meter.held = false → Refuses (.exportResume h) h 19 .wrongState s) ∧
      (∀ k : Nat, s.meter.held = true →
        k = min (4 - s.meter.exportCount) (min s.meter.queue.length (8 - s.uplink.statements.length)) →
        Done (.exportResume h) h 19 (.exportState false (s.meter.queue.length - k)) s { s with
          meter := { s.meter with
            held := false, queue := s.meter.queue.drop k, exportCount := s.meter.exportCount + k
            exported := s.meter.exported + BitVec.ofNat 32 k }
          uplink := { s.uplink with statements := s.uplink.statements ++ s.meter.queue.take k } })) ∧
    (∀ s : State, s.meter.held = true → exec .statementExport s = .next s) ∧
    State.reset.meter.held = false ∧
    (∀ (h : MgmtHead) (s t : State), exec (.partReset h) s = .next t → t.meter.held = s.meter.held))

/-- CLEAR_FLAGS clears exactly the flags selected in one step and answers with every sticky flag as it then stands; a
selection that names no flag is refused BAD_VALUE (R184). The numbers of the flags, and BAD_VALUE for a number above 8,
are the model's reading of R187 (log 16). -/
def Obligations.ClearFlagsClearsTheSelection : Prop :=
  ∀ (h : MgmtHead) (l : List Nat) (s : State), Accepts (.clearFlags h l) h s →
    (l = [] ∨ (∃ n ∈ l, 8 < n) → Refuses (.clearFlags h l) h 20 .badValue s) ∧
    (l ≠ [] → (∀ n ∈ l, n ≤ 8) → ∃ x : State,
      Done (.clearFlags h l) h 20 (.flags x.agent.noticeLost
        ⟨(x.feeder .f0).overbooked, (x.feeder .f1).overbooked, (x.feeder .f2).overbooked, (x.feeder .f3).overbooked⟩
        ⟨(x.feeder .f0).replyOverrun, (x.feeder .f1).replyOverrun, (x.feeder .f2).replyOverrun,
          (x.feeder .f3).replyOverrun⟩) s x ∧
      x = { s with feeders := x.feeders,
                   agent := { s.agent with noticeLost := s.agent.noticeLost && decide (0 ∉ l) } } ∧
      ∀ f : FeederId, x.feeder f = { s.feeder f with
        overbooked := (s.feeder f).overbooked && decide (2 * f.toNat + 1 ∉ l)
        replyOverrun := (s.feeder f).replyOverrun && decide (2 * f.toNat + 2 ∉ l) })

/-- PART_RESET in one step: every feeder STOPPED and as after power-on reset but for its settings; the notice queue,
the hold and the transmit queue empty, with the frames of the transmit queue counted as discarded and every other
counter of the feeders, the agent and the Uplink Port 0 (the count of the discarded is log 20); every account without
its bound drop, and one period more pending in each loaded slot that a pass under way had not visited; the binding,
the tables, the plans, the statement queue and the export state kept; and DONE the one response (R93, R140, R152,
R153, R155, R170, R175, R176, R182). The places freed in the statement class let kept records go, if export is not
held, within the cycle's count (R173; that the reset frees places in R173's sense is log 36). A quarter boundary due
at a cycle start already taken comes wholly before it, and the clock stands as that leaves it (R182; log 4). The
numbers of the isolation record are log 24, that the DONE has no fields log 43, and that PART_RESET is not itself
counted among the requests taken log 34. Where the agent owes no other answer, its counters stand at 0 and the DONE
is the one response that waits. -/
def Obligations.PartResetKeepsTheBooks : Prop :=
  ∀ (h : MgmtHead) (k : Nat) (s : State), Accepts (.partReset h) h s →
    k = (if s.meter.held = true then 0 else min (4 - s.meter.exportCount) (min s.meter.queue.length 8)) →
    ∃ q x : State, exec .quarterBoundary s = .next q ∧ Done (.partReset h) h 21 .empty s x ∧
    (NoneOwed s → ∀ t, exec (.partReset h) s = .next t → t.agent.count = ⟨0, 0, 0, 0, 0, 0⟩ ∧
      t.uplink.responses ++ t.agent.hold = [responseTo h 21 none .empty x]) ∧
    (∀ f, x.feeder f = { Feeder.reset with settings := (s.feeder f).settings }) ∧
    x.agent = { s.agent with hold := [], notices := [], noticeLost := false, count := ⟨0, 0, 0, 0, 0, 0⟩ } ∧
    x.uplink = { Uplink.reset with
      linkUp := s.uplink.linkUp, statements := s.meter.queue.take k
      transmit := { TransmitCounters.zero with discardedAtReset := BitVec.ofNat 32 (
        s.uplink.responses.length + s.uplink.notices.length + s.uplink.statements.length +
          s.uplink.traffic.length) } } ∧
    x.meter = { q.meter with
      pass := none, unbilled := 0, accounts := x.meter.accounts, queue := s.meter.queue.drop k
      exportCount := s.meter.exportCount + k, exported := s.meter.exported + BitVec.ofNat 32 k } ∧
    (∀ n, x.account n = { s.account n with
      bound := none
      periods := if (s.account n).loaded = true ∧ (∃ p, q.meter.pass = some p ∧ p.cursor ≤ n)
        then min ((s.account n).periods + 1) 255 else (s.account n).periods }) ∧
    x = { s with feeders := x.feeders, meter := x.meter, agent := x.agent, uplink := x.uplink }

/-! ## Cycle starts and the work due at them -/

/-- CYCLE_START, whatever the order of its work: the cycle number grows by 1, each RUNNING feeder's framer sends a
cycle with that number, with RESTART on the first of its run and with the plan that its ring slot then holds, WAITING
and unresolved. The cycle's export count becomes 0 and counts what the test of R173 lets go at once: what waits once
the work of the last cycle is done, up to 4 and to the places of the statement class, while export is not held (that
this work is done first is the model's choice, log 4); with close steps in its operand it counts what they append and
let go too, and no record that may go is left. The responses keep their order. R46 says the slot is FREE; where it is
not, CYCLE_START stops with the model's own fault (log 5) (R1, R2, R3, R42, R44, R46, R173, R179; that waiting
responses may join their class then is log 36). -/
def Obligations.CycleStartHandsOnOnePlan : Prop :=
  (∀ (order : List CycleWork) (s : State), s.resetHeld = false →
    (∀ f, (s.feeder f).running = true → (s.feeder f).ring.get ((s.cycle + 1).toNat % 4) = none) →
    ∃ t, exec (.cycleStart order) s = .next t ∧ t.cycle = s.cycle + 1 ∧
      ((∀ j, CycleWork.closeThrough j ∉ order) → t.meter.exportCount = if s.meter.held = true then 0
        else min 4 (min (settle s).meter.queue.length (8 - (settle s).uplink.statements.length))) ∧
      t.meter.exportCount ≤ (if s.meter.held = true then 0 else 4) ∧
      (s.meter.held = true ∨ t.meter.queue = [] ∨ t.meter.exportCount = 4 ∨ 8 ≤ t.uplink.statements.length) ∧
      t.pending = s.pending ∧
      t.uplink = { s.uplink with responses := t.uplink.responses, notices := t.uplink.notices
                                 statements := t.uplink.statements, sending := t.uplink.sending } ∧
      t.uplink.responses ++ t.agent.hold = s.uplink.responses ++ s.agent.hold ∧
      ∀ f, (t.feeder f).running = (s.feeder f).running ∧ ((s.feeder f).running = true →
        ∃ (c : DownCycle) (sl : Slot), (t.feeder f).sending = some c ∧
          (t.feeder f).ring.get ((s.cycle + 1).toNat % 4) = some sl ∧
          c.cycle = s.cycle + 1 ∧ c.restart = (s.feeder f).restartDue ∧ c.orders.length ≤ 8 ∧
          sl.state = .waiting ∧ sl.cycle = s.cycle + 1 ∧
          sl.windows = c.plan.map (fun e => ⟨e, .nothing, .unresolved⟩) ∧ (t.feeder f).restartDue = false)) ∧
  (∀ (order : List CycleWork) (s : State), s.resetHeld = false →
    (∃ f, (s.feeder f).running = true ∧ (s.feeder f).ring.get ((s.cycle + 1).toNat % 4) ≠ none) →
    exec (.cycleStart order) s = .fault .ringSlotOccupied)

/-- The work of a CYCLE_START: what the last cycle start made due is taken first, then the cycle number advances, then
each piece of work is done once, each after the pieces that the rules put before it, and no other piece (R1, R3, R6;
the order is log 3): of two pieces that the command's operand names, the first is done first, unless the second is one
that the rules put before it or before a piece named earlier. A feeder's framesFirst takes and meters the frames that
fit beside its plan and then builds the plan; where the plan so built would leave another number of frames fitting,
the plan is built first (log 28); a framesTo takes a part of them and may come before the plan or after it (R160).
What was due is taken as its own commands take it, and nothing else is: of each feeder in turn DOZE, the timeouts,
STRIKE_DECAY, REASSEMBLY_AGE_OUT (log 56; for the first two see CycleStartCounts), then BIND_TIMEOUT,
QUARTER_BOUNDARY, the CLOSE_STEPs and what may join a class. Nothing is left due of the cycle before: no boundary, no
close step, no doze test, no admission timeout, no strike decay, no bind timeout, no partial frame of age 4,000, and
nothing that its rule lets join a class still waits for that: a held response or a notice only for a place, a record
only for a place, for the count of 4, or held (R69, R87, R110, R126, R170, R173, R176, R179, R183; that this is the
moment is logs 4 and 36). -/
def Obligations.CycleStartTakesEachWorkOnce : Prop :=
  (∀ (order : List CycleWork) (s : State), s.resetHeld = false →
    (∀ f, (s.feeder f).running = true → (s.feeder f).ring.get ((s.cycle + 1).toNat % 4) = none) →
    exec (.cycleStart order) s =
      .next ((schedule order).foldl (runWork (s.cycle + 1)) (newOrigin (settle s)))) ∧
  (∀ (order before between after : List CycleWork) (a b : CycleWork),
    order = before ++ a :: between ++ b :: after → b ∉ before ++ a :: between →
    (∀ w ∈ before ++ a :: between, ∀ f, (w = .frames f → b ≠ .build f ∧ b ≠ .orders f) ∧
      (∀ k, w = .framesTo f k → b ≠ .orders f) ∧
      (∀ j, w = .closeThrough j → b ≠ .quarter ∧ b ≠ .boundary) ∧
      (w = .framesFirst f → b ≠ .orders f) ∧ (w = .doze f → b ≠ .idle f) ∧ (w = .queryTimeout f → b ≠ .queryAge f) ∧
      (w = .strikeDecay f → b ≠ .decay f) ∧ (w = .boundary → b ≠ .quarter) ∧ (w = .bindTimeout → b ≠ .bindAge)) →
    a ∈ schedule order → b ∈ schedule order → ∃ p q r, schedule order = p ++ a :: q ++ b :: r) ∧
  (∀ (order : List CycleWork), ∀ w ∈ schedule order, w ∈ order ∨
    (∃ f, w ∈ [CycleWork.build f, .orders f, .frames f, .idle f, .queryAge f, .decay f, .autoIsolate f]) ∨
    w ∈ [CycleWork.refill, .outage, .quarter, .exportCount, .bindAge] ∨
    (w = .boundary ∧ ∃ j, CycleWork.closeThrough j ∈ order)) ∧
  (∀ (f : FeederId) (n : CycleNo) (s first framed built : State) (c c' : DownCycle) (used : Nat),
    first = runWork n (runWork n s (.build f)) (.frames f) →
    ((s.feeder f).running = false → runWork n s (.framesFirst f) = first) ∧
    ((s.feeder f).running = true → ((runWork n s (.build f)).feeder f).sending = some c →
      used = (c.segments.map DownFrame.bytes).sum →
      framed = takeFrames f (s.feeder f).downQueue (c.dataArea - used) s → built = runWork n framed (.build f) →
      (built.feeder f).sending = some c' →
      runWork n s (.framesFirst f) =
        if ((takeFrames f (s.feeder f).downQueue (c'.dataArea - used) s).feeder f).downQueue.length =
          (framed.feeder f).downQueue.length then built else first)) ∧
  (∀ order : List CycleWork, (schedule order).Nodup ∧
    (∀ w, w ∈ order ∨ w ∈ mandatoryWork → w ∈ schedule order ∨
      ∃ f, (w = .build f ∨ w = .frames f) ∧ CycleWork.framesFirst f ∈ schedule order) ∧
    (∀ f, CycleWork.build f ∈ mandatoryWork ∧ CycleWork.orders f ∈ mandatoryWork ∧ CycleWork.frames f ∈ mandatoryWork ∧
      CycleWork.idle f ∈ mandatoryWork ∧ CycleWork.queryAge f ∈ mandatoryWork ∧ CycleWork.decay f ∈ mandatoryWork ∧
      CycleWork.autoIsolate f ∈ mandatoryWork) ∧
    (∀ w ∈ [CycleWork.refill, .outage, .quarter, .exportCount, .bindAge], w ∈ mandatoryWork) ∧
    (∀ before w after, schedule order = before ++ w :: after →
      (∀ f, (w = .frames f → CycleWork.build f ∈ before ∧ CycleWork.orders f ∈ before) ∧
        (w = .framesFirst f → CycleWork.orders f ∈ before) ∧ (w = .doze f → CycleWork.idle f ∈ before) ∧
        (∀ k, w = .framesTo f k → CycleWork.orders f ∈ before) ∧
        (w = .queryTimeout f → CycleWork.queryAge f ∈ before) ∧ (w = .strikeDecay f → CycleWork.decay f ∈ before)) ∧
      (w = .boundary → CycleWork.quarter ∈ before) ∧ (w = .bindTimeout → CycleWork.bindAge ∈ before) ∧
      (∀ j, w = .closeThrough j → CycleWork.boundary ∈ before))) ∧
  (∀ (n : CycleNo) (s : State), s.resetHeld = false →
    (∀ f, Ran ((s.feeder f).reassembly.map fun e => .reassemblyAgeOut f (e.1 / 4 + 1) (e.1 % 4)) s (ageOuts f s)) ∧
    Ran (.bindTimeout :: .quarterBoundary :: (List.replicate 256 .closeStep ++ List.replicate 8 .responseHoldRelease ++
        List.replicate 8 .noticeOffer ++ List.replicate 4 .statementExport))
      ([FeederId.f0, .f1, .f2, .f3].foldl (fun y f => ageOuts f
        (runWork n (runWork n (runWork n y (.doze f)) (.queryTimeout f)) (.strikeDecay f))) s) (settle s)) ∧
  (∀ s t : State, t = settle s →
    t.cycle = s.cycle ∧ t.meter.boundaryDue = false ∧ t.meter.pass = none ∧
    ¬ (t.agent.bind = .binding ∧ 4000 ≤ t.agent.bindAge) ∧
    (∀ f, (t.feeder f).decayDue = false ∧ (∀ d, 1 ≤ d → d ≤ 64 → (t.drop f d).dozeDue = false) ∧
      (∀ e ∈ (t.feeder f).replies, e.timeoutDue = true → e.decline ≠ none) ∧
      (∀ d l p, 1 ≤ d → l < 4 → (t.feeder f).partialFrame d l = some p → (t.cycle - p.arrival).toNat < 4000)) ∧
    (t.agent.hold = [] ∨ 8 ≤ t.uplink.responses.length) ∧ (t.agent.notices = [] ∨ 8 ≤ t.uplink.notices.length) ∧
    (t.meter.queue = [] ∨ t.meter.held = true ∨ 4 ≤ t.meter.exportCount ∨ 8 ≤ t.uplink.statements.length))

/-- What a build takes from other blocks. The profile in force for a lane: its own for a NORMAL account, the floor
profile with class SHARED for a THROTTLED one, none for a floor of 0 or a SUSPENDED one (R21; a drop that no account
is bound to has its own, log 25). A discovery window is planned exactly when the sweep is due, the rogue state CLEAR
or WATCH, REPLY_OVERRUN clear and the reply queue not full; planning it moves the sweep and the window list, and a
sweep that fails for a full queue alone is counted as skipped (R80, R81; that the other conditions must hold is log
21). A RANGING drop is listed, in ascending index, exactly when it is MEASURING, no window is in flight, the feeder is
neither ISOLATING nor STUCK, and n is after the cycle of its ASSIGN, of two cycles 2^31 apart neither being after the
other (R1, R98). The capacity (R24). -/
def Obligations.BuildInputsFollowTheirRules : Prop :=
  (∀ (f : FeederId) (d l : Nat) (s : State),
    (s.boundAccount f d = none → s.inForce f d l = some (s.profile ((s.drop f d).profiles.get l))) ∧
    (∀ (k : Nat) (a : Account), s.boundAccount f d = some k → a = s.account k →
      (a.state = .normal → s.inForce f d l = some (s.profile ((s.drop f d).profiles.get l))) ∧
      (a.state = .throttled → a.floorProfile = 0 → s.inForce f d l = none) ∧
      (a.state = .throttled → a.floorProfile ≠ 0 → s.inForce f d l = some ⟨.shared, (s.profile a.floorProfile).rate,
        (s.profile a.floorProfile).cap, (s.profile a.floorProfile).minGrant⟩) ∧
      (a.state = .suspended → s.inForce f d l = none))) ∧
  (∀ (x : Feeder) (n : CycleNo) (due may : Bool),
    (due = true ↔ x.sweep.once = .due ∨ (x.sweep.continuous = true ∧ (x.sweep.lastDiscovery = none ∨
      ∃ m, x.sweep.lastDiscovery = some m ∧ x.settings.period ≤ (n - m).toNat))) →
    (may = true ↔ due = true ∧ (x.rogue = .clear ∨ x.rogue = .watch) ∧ x.replyOverrun = false) →
    (x.plansDiscovery n = true ↔ may = true ∧ x.replies.length < 4) ∧
    (may = true → x.replies.length < 4 → x.decideDiscovery n = { x with
      sweep := { x.sweep with
        once := if x.sweep.once = .due then .inFlight n else x.sweep.once, lastDiscovery := some n }
      discoveries := x.discoveries ++ [⟨n, true⟩] }) ∧
    (may = true → 4 ≤ x.replies.length → x.decideDiscovery n = { x with enrolCount :=
      { x.enrolCount with skipped := x.enrolCount.skipped + 1 } }) ∧
    (may = false → x.decideDiscovery n = x)) ∧
  (∀ (x : Feeder) (n : CycleNo), (x.rangingList n).Pairwise (· < ·) ∧
    ∀ d, d ∈ x.rangingList n ↔ 1 ≤ d ∧ d ≤ 64 ∧ (x.drop d).state = .ranging ∧ (x.drop d).phase = some .measuring ∧
      (x.drop d).inFlight = none ∧ x.rogue ≠ .isolating ∧ x.stuck = none ∧
      ∃ m, (x.drop d).lastSent = some (.assign, m) ∧ (n - m).toNat < 2 ^ 31 ∧ n ≠ m) ∧
  (∀ (t : Settings) (discovery : Bool) (k : Nat),
    capacityOf t discovery k = 25000 - t.dk - (if discovery then t.dw else 0) - 64 * k)

/-- The build of plan n at a cycle start: the grants are those of the capacity, the profiles in force and the
discovery and ranging decisions; the plan laid out from them enters the framer's cycle and ring slot n mod 4, WAITING
with every window unresolved; the pointer and the lane records are those the grants leave; each BURST entry moves its
drop's last planned cycle, and the rouse count of a SILENT drop given a ROUSE window, above ROUSE_LIMIT too (log 51);
each RANGING entry sets its drop's window in flight; and a cut FIXED or ASSURED grant sets OVERBOOKED, with one notice
while it was clear; nothing else changes (R23, R24, R34, R35, R37, R39, R42, R44, R112; the parts of the build are
BuildInputsFollowTheirRules and GrantsKeepToCreditDemandAndCapacity). A STOPPED feeder builds nothing. The layout: one
BURST entry for each open burst, in ascending index with its enabled lanes' grants, the first at word 0 and each 16
words after the end of the one before; the RANGING entries from the end of these on, 64 words apart, with S_r = R + 8
+ ceil((TD − RTD_est) / 32); the DISCOVERY entry at W0 with length DW and delay S; and the DARK entry at 25,000 − DK
with length DK; where DW = ceil((RTD_max − RTD_min) / 32) + 1,008, W0 = 25,000 − DK − DW and S = W0 + ceil((TD −
RTD_min) / 32) (R8, R35, R37 to R40, R96, R99). -/
def Obligations.BuildHandsOnThePlan : Prop :=
  (∀ (f : FeederId) (n : CycleNo) (s : State) (c : DownCycle) (x : Feeder) (b : Build) (plan : List Entry),
    x = s.feeder f → x.running = true → x.sending = some c →
    b = buildGrants (capacityOf x.settings (x.plansDiscovery n) (x.rangingList n).length) n (s.inForce f)
      (x.decideDiscovery n) →
    plan = layPlan x.settings (fun d => (x.drop d).rtd) b.bursts (x.rangingList n) (x.plansDiscovery n) →
    ∃ t, runWork n s (.build f) = t ∧
      (t.feeder f).sending = some { c with plan := plan } ∧
      (t.feeder f).slotOf n = some ⟨.waiting, n, plan.map (fun e => ⟨e, .nothing, .unresolved⟩), ⟨[], [], false⟩⟩ ∧
      (∀ m, m.toNat % 4 ≠ n.toNat % 4 → (t.feeder f).slotOf m = x.slotOf m) ∧
      (t.feeder f).pointer = b.feeder.pointer ∧
      (∀ d l, (t.feeder f).lane d l = b.feeder.lane d l) ∧
      (∀ d, 1 ≤ d → d ≤ 64 →
        (∀ w len allocs flag, Entry.burst d w len allocs flag ∈ plan → t.drop f d = { x.drop d with
          lastPlanned := n
          rouse := if (x.drop d).state = .silent ∧ flag = some .rouse then (x.drop d).rouse + 1
            else (x.drop d).rouse }) ∧
        (∀ w delay, Entry.ranging d w delay ∈ plan → t.drop f d = { x.drop d with inFlight := some ⟨n, w, delay⟩ }) ∧
        ((∀ e ∈ plan, e.windowId ≠ some (.burst d) ∧ e.windowId ≠ some (.ranging d)) → t.drop f d = x.drop d)) ∧
      t.feeder f = { x.decideDiscovery n with
        drops := (t.feeder f).drops, lanes := (t.feeder f).lanes, pointer := (t.feeder f).pointer
        ring := (t.feeder f).ring, sending := (t.feeder f).sending, overbooked := x.overbooked || b.cut } ∧
      (∀ g, g ≠ f → t.feeder g = s.feeder g) ∧
      t = { s with feeders := t.feeders, agent := t.agent } ∧
      t.agent = if b.cut = true ∧ x.overbooked = false then (notify (.overbooked f n) s).agent else s.agent) ∧
  (∀ (f : FeederId) (n : CycleNo) (s : State), (s.feeder f).running = false → runWork n s (.build f) = s) ∧
  (∀ (b : Build), (b.bursts.map Prod.fst).Pairwise (· < ·) ∧
    ∀ d allocs flag, (d, allocs, flag) ∈ b.bursts ↔ 1 ≤ d ∧ d ≤ 64 ∧
      allocs = (b.feeder.drop d).enabledLanes.map (fun l => (l, b.grantOf d l)) ∧
      ∃ before after, b.opened = before ++ (d, flag) :: after ∧ d ∉ before.map Prod.fst) ∧
  (∀ t : Settings, t.dw = (t.rtdMax - t.rtdMin + 31) / 32 + 1008 ∧ t.w0 = 25000 - t.dk - t.dw ∧
    t.s = t.w0 + (t.td - t.rtdMin + 31) / 32) ∧
  (∀ (t : Settings) (rtd : Nat → Nat) (bursts : List (Nat × List (Nat × Nat) × Option BurstFlag)) (ranging : List Nat)
    (discovery : Bool) (plan : List Entry) (cost : Nat × List (Nat × Nat) × Option BurstFlag → Nat) (u : Nat),
    plan = layPlan t rtd bursts ranging discovery →
    (∀ o, cost o = 44 + o.2.1.length + (o.2.1.map Prod.snd).sum) → u = (bursts.map cost).sum →
    plan.length = bursts.length + ranging.length + (if discovery then 1 else 0) + (if t.dk = 0 then 0 else 1) ∧
    (∀ i d allocs flag, bursts[i]? = some (d, allocs, flag) → plan[i]? = some (Entry.burst d ((bursts.take i).map cost).sum
      (28 + allocs.length + (allocs.map Prod.snd).sum) allocs flag)) ∧
    (∀ i d r : Nat, ranging[i]? = some d → r = u + 64 * i →
      plan[bursts.length + i]? = some (Entry.ranging d r (r + 8 + (t.td - rtd d + 31) / 32))) ∧
    (discovery = true → plan[bursts.length + ranging.length]? = some (Entry.discovery t.w0 t.dw t.s)) ∧
    (t.dk ≠ 0 → plan.getLast? = some (Entry.dark (25000 - t.dk) t.dk)))

/-- What a cycle start counts. On a RUNNING feeder the idle count of each ACTIVE drop grows by 1, stopping at 32,000,
and one that meets IDLE_LIMIT makes the doze test due (R110); the query age of each WAITING_HOST entry without a
DECLINE grows by 1, and one that meets the admission timeout makes the decline due (R87); the decay count grows by 1,
and where it would reach 4,000 the decay is due (R126). The bucket of each loaded THROTTLED account rises by its floor
rate, stopping at four times that (R146); a loaded account whose bound drop is DARKENED counts one outage cycle
(R164); the in-quarter count grows by 1, and where it would reach 3,600,000 the boundary is due (R165); the bind age
of a BINDING agent grows by 1 (R176); and the export count becomes 0 and the test of R173 is made: what may go joins
the statement class, counted anew (R173). Nothing else changes. The rest that CYCLE_START's operand may name is what its
own command does: QUARTER_BOUNDARY, BIND_TIMEOUT, STRIKE_DECAY; DOZE for each drop; REASSEMBLY_AGE_OUT for each slot
held; and for the admission timeouts due the decline that ADMISSION_TIMEOUT makes, in arrival order (R87; log 56). That
a test is marked due is log 4. -/
def Obligations.CycleStartCounts : Prop :=
  (∀ (f : FeederId) (n : CycleNo) (s : State),
    ((s.feeder f).running = true → ∃ t, runWork n s (.idle f) = t ∧
      t = s.setFeeder f { s.feeder f with drops := (t.feeder f).drops } ∧
      ∀ d, t.drop f d = if (s.drop f d).state = .active then
          { s.drop f d with
            idle := min ((s.drop f d).idle + 1) 32000
            dozeDue := decide ((s.feeder f).settings.idleLimit ≤ min ((s.drop f d).idle + 1) 32000) }
        else s.drop f d) ∧
    ((s.feeder f).running = false → runWork n s (.idle f) = s ∧ runWork n s (.decay f) = s) ∧
    runWork n s (.queryAge f) = s.setFeeder f { s.feeder f with replies := (s.feeder f).replies.map fun e =>
      if e.status = .waitingHost ∧ e.decline = none then
        { e with age := e.age + 1, timeoutDue := decide ((s.feeder f).settings.timeout ≤ e.age + 1) }
      else e } ∧
    ((s.feeder f).running = true → runWork n s (.decay f) = s.setFeeder f { s.feeder f with
      decay := if (s.feeder f).decay + 1 < 4000 then (s.feeder f).decay + 1 else (s.feeder f).decay
      decayDue := (s.feeder f).decayDue || decide (4000 ≤ (s.feeder f).decay + 1) })) ∧
  (∀ (n : CycleNo) (s : State),
    (∃ t, runWork n s .refill = t ∧ t = { s with meter := { s.meter with accounts := t.meter.accounts } } ∧
      ∀ k, t.account k = { s.account k with
        bucket := if (s.account k).loaded = true ∧ (s.account k).state = .throttled
          then min ((s.account k).bucket + (s.account k).floorRate) (4 * (s.account k).floorRate)
          else (s.account k).bucket }) ∧
    (∃ t, runWork n s .outage = t ∧ t = { s with meter := { s.meter with accounts := t.meter.accounts } } ∧
      ∀ k, (∀ f d, (s.account k).loaded = true → (s.account k).bound = some (f, d) → (s.drop f d).state = .darkened →
          t.account k = { s.account k with outage := min ((s.account k).outage + 1) (2 ^ 32 - 1) }) ∧
        ((s.account k).loaded = false ∨ (s.account k).bound = none ∨
            (∃ f d, (s.account k).bound = some (f, d) ∧ (s.drop f d).state ≠ .darkened) →
          t.account k = s.account k)) ∧
    runWork n s .quarter = { s with meter := { s.meter with
      clock := { s.meter.clock with
        count := if s.meter.clock.count + 1 < 3600000 then s.meter.clock.count + 1 else s.meter.clock.count }
      boundaryDue := s.meter.boundaryDue || decide (3600000 ≤ s.meter.clock.count + 1) } } ∧
    (∀ k : Nat, k = (if s.meter.held = true then 0
        else min 4 (min s.meter.queue.length (8 - s.uplink.statements.length))) →
      (k = 0 → runWork n s .exportCount = { s with meter := { s.meter with exportCount := 0 } }) ∧
      (k ≠ 0 → runWork n s .exportCount = arbitrate { s with
        meter := { s.meter with
          queue := s.meter.queue.drop k, exportCount := k, exported := s.meter.exported + BitVec.ofNat 32 k }
        uplink := { s.uplink with statements := s.uplink.statements ++ s.meter.queue.take k } })) ∧
    runWork n s .bindAge = { s with agent := { s.agent with
      bindAge := if s.agent.bind = .binding then min (s.agent.bindAge + 1) 4000 else s.agent.bindAge } } ∧
    (s.resetHeld = false →
      exec .quarterBoundary s = .next (runWork n s .boundary) ∧ exec .bindTimeout s = .next (runWork n s .bindTimeout) ∧
      Ran ([FeederId.f0, .f1, .f2, .f3].flatMap fun f => (s.feeder f).reassembly.map fun e =>
        .reassemblyAgeOut f (e.1 / 4 + 1) (e.1 % 4)) s (runWork n s .ageOut) ∧
      ∀ f, exec (.strikeDecay f) s = .next (runWork n s (.strikeDecay f)) ∧
        Ran ((List.range 64).map fun k => .doze f (k + 1)) s (runWork n s (.doze f)) ∧
        runWork n s (.queryTimeout f) = ((s.feeder f).replies.filter fun e => e.timeoutDue && e.decline.isNone).foldl
          (fun y e => declineEntry f e .timeout y) s))

/-- The line orders of a cycle start: the framer takes up to 8 from the head of the queue into its cycle, a filling
follows, and then each order is reported in queue order (R15, R77; the filling before the reports is log 50); a
STOPPED feeder's takes none. A report for a record that is freed or created anew does nothing (R78; the identity is
log 33). Otherwise the order leaves the record, the following order becomes pending, the kind and cycle are noted,
and: an ASSIGN takes AWAITING_ASSIGN to MEASURING (R98); an EQUALISE sets the equalise cycle of a pending correction
and takes EQUALISING to ACTIVE with one DROP_ENROLLED notice (R102, R105); a RELIGHT or ENABLE turns a WAITING resume
mark into the cycle (R48); a REMOVE frees a LEAVING record whose windows the ring no longer holds, with everything R75
clears (R75, R115); a report of a DECLINE removes its entry (R78, R91). What the Light Monitor does with an order it
awaits is IsolationStepsGoOn. -/
def Obligations.OrderReportsMoveTheRecord : Prop :=
  (∀ (f : FeederId) (n : CycleNo) (s : State) (c : DownCycle) (x : Feeder), x = s.feeder f → x.running = true →
    x.sending = some c →
    runWork n s (.orders f) = (x.orderQueue.take 8).foldl (orderReport f n) (fillOrders f (s.setFeeder f { x with
      orderQueue := x.orderQueue.drop 8, sending := some { c with orders := c.orders ++ x.orderQueue.take 8 } }))) ∧
  (∀ (f : FeederId) (n : CycleNo) (s : State), (s.feeder f).running = false → runWork n s (.orders f) = s) ∧
  (∀ (f : FeederId) (m : CycleNo) (s : State) (o : LineOrder) (serial : Nat), o.origin = .reply serial →
    orderReport f m s o = s.setFeeder f { s.feeder f with
      replies := (s.feeder f).replies.filter fun e => decide (e.serial ≠ serial) }) ∧
  (∀ (f : FeederId) (m : CycleNo) (s : State) (o : LineOrder) (d serial : Nat) (r : DropRecord),
    o.origin = .drop d serial → r = s.drop f d → (r.state = .empty ∨ r.serial ≠ serial) → orderReport f m s o = s) ∧
  (∀ (f : FeederId) (m : CycleNo) (s y : State) (o : LineOrder) (d serial : Nat) (r : DropRecord),
    o.origin = .drop d serial → r = s.drop f d → r.state ≠ .empty → r.serial = serial →
    y = fillOrders f (s.setFeeder f ((s.feeder f).setDrop d { r with
      pending := r.following.map (fun k => ⟨k, .held⟩), following := none, lastSent := some (o.kind, m) })) →
    y.drop f d = { r with pending := (y.drop f d).pending, following := none, lastSent := some (o.kind, m) } ∧
    (y.drop f d).pending.map PendingOrder.kind = r.following ∧
    ∃ t, orderReport f m s o = t ∧
      (o.kind = .assign → t = y.setFeeder f { y.feeder f with drops := (t.feeder f).drops } ∧
        (∀ k, k ≠ d → t.drop f k = y.drop f k) ∧ t.drop f d = { y.drop f d with
          phase := if r.state = .ranging ∧ r.phase = some .awaitingAssign then some .measuring else r.phase }) ∧
      (o.kind = .equalise → t = { y with feeders := t.feeders, agent := t.agent } ∧
        t.feeders = (y.setFeeder f { y.feeder f with drops := (t.feeder f).drops }).feeders ∧
        (∀ k, k ≠ d → t.drop f k = y.drop f k) ∧
        (r.state = .ranging → r.phase = some .equalising →
          t.drop f d = { y.drop f d with
            state := .active, phase := none, idle := 0
            equaliseCycle := if r.correctionPending then some m else r.equaliseCycle } ∧
          t.agent = (notify (.dropEnrolled f d r.tag r.account r.rtd r.eqd) s).agent) ∧
        (r.state ≠ .ranging ∨ r.phase ≠ some .equalising →
          t.drop f d = { y.drop f d with equaliseCycle := if r.correctionPending then some m else r.equaliseCycle } ∧
          t.agent = s.agent)) ∧
      (o.kind = .darken → t = if r.state = .darkened ∧ r.cause = some .isolation
        then isolationReport f d .darken m y else y) ∧
      (o.kind = .disable → t = isolationReport f d .disable m y) ∧
      (o.kind = .relight ∨ o.kind = .enable → ∃ z, t = isolationReport f d o.kind m z ∧
        z = y.setFeeder f { y.feeder f with marks := (z.feeder f).marks } ∧
        (∀ k, k ≠ d → (z.feeder f).mark k = (s.feeder f).mark k) ∧
        (z.feeder f).mark d = if (s.feeder f).mark d = some .waiting then some (.cycle m) else (s.feeder f).mark d) ∧
      (o.kind = .remove → r.state ≠ .leaving ∨ (s.feeder f).ringHolds d = true → t = y) ∧
      (∀ why, o.kind = .remove → r.state = .leaving → r.leave = some why → (s.feeder f).ringHolds d = false →
        t = freeRecord f d why y ∧
        ((s.feeder f).isolation.kind = none → t.drop f d = DropRecord.empty ∧ (t.feeder f).mark d = none ∧
          (∀ l, l < 4 → (t.feeder f).lane d l = ⟨0, 0, 0, 0⟩) ∧ (∀ k, k ≠ d → t.drop f k = y.drop f k) ∧
          (∀ k, t.account k = { s.account k with bound := if s.boundAccount f d = some k then none
            else (s.account k).bound }) ∧
          t.agent = (notify (.dropRemoved f d r.tag r.account why) s).agent)))

/-- The framing of a cycle: the framer takes frames from the head of the feeder's downstream queue in queue order
while the head fits in what remains of the data area, which is 400,000 bytes less the header, the plan and the orders
(and the segments placed already); the first frame that does not fit ends the taking; a frame whose drop is ACTIVE,
DOZING, SILENT, DARKENED or RANGING is placed and metered downstream, any other is discarded and counted; nothing else
changes (R5, R6, R148, R156; a frame's bytes with its check sequence are log 11). A STOPPED feeder takes nothing. The
operand's framesTo takes frames in the same way until the cycle holds the number it names, and the framing takes the
rest, so that other work of the origin, the build of the plan too, may come between (R160, R170; the orders of one
origin are log 3); before the plan is built they must fit beside the largest plan (R5; log 28). -/
def Obligations.FramesAreTakenWhileTheyFit : Prop :=
  (∀ (f : FeederId) (n : CycleNo) (s : State) (c : DownCycle) (area used room k : Nat) (goes : DownFrame → Bool)
    (size : DownFrame → Nat),
    (s.feeder f).running = true → (s.feeder f).sending = some c →
    area = 400000 - 16 - (4 + (c.plan.map fun e => match e with
      | .burst _ _ _ allocs _ => 12 + 4 * allocs.length
      | .dark _ _ => 8
      | _ => 12).sum) - 16 * c.orders.length →
    (∀ fr, goes fr = true ↔ (s.drop f fr.index).state = .active ∨ (s.drop f fr.index).state = .dozing ∨
      (s.drop f fr.index).state = .silent ∨ (s.drop f fr.index).state = .darkened ∨
      (s.drop f fr.index).state = .ranging) →
    (∀ fr, size fr = 8 + 4 * ((fr.data.length + 4 + 3) / 4)) →
    used = (c.segments.map size).sum → room = (if (s.feeder f).slotOf n = none then 398004 else area) - used →
    (∃ (t m : State) (taken rest : List DownFrame), runWork n s (.frames f) = t ∧
      (s.feeder f).downQueue = taken ++ rest ∧
      ((taken.filter goes).map size).sum ≤ area - used ∧
      (∀ fr more, rest = fr :: more → area - used < ((taken.filter goes).map size).sum + size fr) ∧
      m = (taken.filter goes).foldl (fun y fr => meterFrame false f fr.index (fr.data.length + 4) y) s ∧
      t = m.setFeeder f { s.feeder f with
        downQueue := rest
        sending := some { c with segments := c.segments ++ taken.filter goes }
        downCount := { (s.feeder f).downCount with
          notDelivering := (s.feeder f).downCount.notDelivering +
            BitVec.ofNat 32 (taken.filter fun fr => !goes fr).length } } ∧
      m = { s with meter := m.meter, agent := m.agent }) ∧
    (∃ (t m : State) (taken rest : List DownFrame), runWork n s (.framesTo f k) = t ∧
      (s.feeder f).downQueue = taken ++ rest ∧
      (taken.filter goes).length ≤ k - c.segments.length ∧ ((taken.filter goes).map size).sum ≤ room ∧
      (∀ fr more, rest = fr :: more → (taken.filter goes).length = k - c.segments.length ∨
        room < ((taken.filter goes).map size).sum + size fr) ∧
      m = (taken.filter goes).foldl (fun y fr => meterFrame false f fr.index (fr.data.length + 4) y) s ∧
      t = m.setFeeder f { s.feeder f with
        downQueue := rest
        sending := some { c with segments := c.segments ++ taken.filter goes }
        downCount := { (s.feeder f).downCount with
          notDelivering := (s.feeder f).downCount.notDelivering +
            BitVec.ofNat 32 (taken.filter fun fr => !goes fr).length } } ∧
      m = { s with meter := m.meter, agent := m.agent } ∧
      ((s.feeder f).slotOf n ≠ none → runWork n t (.frames f) = runWork n s (.frames f)))) ∧
  (∀ (f : FeederId) (n : CycleNo) (k : Nat) (s : State), (s.feeder f).running = false →
    runWork n s (.frames f) = s ∧ runWork n s (.framesTo f k) = s)

/-- DOZE makes the doze test of one drop: an ACTIVE drop of a RUNNING feeder whose idle count meets IDLE_LIMIT and
which has no enabled lane whose own profile is FIXED becomes DOZING, and nothing else changes; otherwise no state
changes (R110). ADMISSION_TIMEOUT declines TIMEOUT the entry of the tag whose timeout is due, unless a DECLINE is
already pending on it; an entry not due stays (R87, R91). REASSEMBLY_AGE_OUT empties a slot whose partial frame
arrived 4,000 or more cycles ago and counts it as aged out, and leaves any other; STRIKE_DECAY, when a decay is due,
lowers every strike count of the feeder by 1, stopping at 0, and sets the decay count to 0 (R69, R126), but
for a LEAVING record's, which stays as it stood (R113, read as R126's exception: log 52). That a test, a timeout or
a decay is due once for each cycle start is the model's flag (log 4), which CycleStartCounts sets. -/
def Obligations.DueWorkIsDoneByItsCommand : Prop :=
  (∀ (f : FeederId) (d : Nat) (s : State), s.resetHeld = false →
      ((s.drop f d).dozeDue = true → (s.feeder f).running = true → (s.drop f d).state = .active →
        (s.feeder f).settings.idleLimit ≤ (s.drop f d).idle →
        (∀ lane, lane < 4 → (s.drop f d).profiles.get lane ≠ 0 →
          (s.profile ((s.drop f d).profiles.get lane)).cls ≠ .fixed) →
        ∃ t, exec (.doze f d) s = .next t ∧ t.drop f d = { s.drop f d with state := .dozing, dozeDue := false } ∧
          (∀ k, k ≠ d → t.drop f k = s.drop f k) ∧
          t = s.setFeeder f { s.feeder f with drops := (t.feeder f).drops }) ∧
      ((s.drop f d).dozeDue = false ∨ (s.feeder f).running = false ∨ (s.drop f d).state ≠ .active ∨
          (s.drop f d).idle < (s.feeder f).settings.idleLimit ∨
          (∃ lane, lane < 4 ∧ (s.drop f d).profiles.get lane ≠ 0 ∧
            (s.profile ((s.drop f d).profiles.get lane)).cls = .fixed) →
        ∃ t, exec (.doze f d) s = .next t ∧ (t.drop f d) = { s.drop f d with dozeDue := false } ∧
          (∀ k, k ≠ d → t.drop f k = s.drop f k) ∧
          t = s.setFeeder f { s.feeder f with drops := (t.feeder f).drops })) ∧
  (∀ (f : FeederId) (e : ReplyEntry) (s : State), s.resetHeld = false →
      (s.feeder f).replies.filter (fun y => decide (y.tag = e.tag)) = [e] →
      (e.timeoutDue = true → e.decline = none →
        exec (.admissionTimeout f e.tag) s = .next (declineEntry f e .timeout s)) ∧
      (e.timeoutDue = false ∨ e.decline ≠ none → exec (.admissionTimeout f e.tag) s = .next s)) ∧
  ((∀ (f : FeederId) (d lane : Nat) (s : State), s.resetHeld = false → 1 ≤ d → lane < 4 →
      (∀ p : Partial, (s.feeder f).partialFrame d lane = some p → 4000 ≤ (s.cycle - p.arrival).toNat →
        ∃ t, exec (.reassemblyAgeOut f d lane) s = .next t ∧ (t.feeder f).partialFrame d lane = none ∧
          (∀ k l, 1 ≤ k → l < 4 → (k ≠ d ∨ l ≠ lane) →
            (t.feeder f).partialFrame k l = (s.feeder f).partialFrame k l) ∧
          t = s.setFeeder f { s.feeder f with
            reassembly := (t.feeder f).reassembly
            upCount := { (s.feeder f).upCount with agedOut := (s.feeder f).upCount.agedOut + 1 } }) ∧
      ((∀ p : Partial, (s.feeder f).partialFrame d lane = some p → (s.cycle - p.arrival).toNat < 4000) →
        exec (.reassemblyAgeOut f d lane) s = .next s)) ∧
    (∀ (f : FeederId) (s : State), s.resetHeld = false →
      ((s.feeder f).decayDue = true → ∃ t, exec (.strikeDecay f) s = .next t ∧
        (∀ d, t.drop f d = if (s.drop f d).state = .leaving then s.drop f d
          else { s.drop f d with strikes := (s.drop f d).strikes - 1 }) ∧
        t = s.setFeeder f { s.feeder f with drops := (t.feeder f).drops, decay := 0, decayDue := false }) ∧
      ((s.feeder f).decayDue = false → exec (.strikeDecay f) s = .next s)))

/-- QUARTER_BOUNDARY, when one is due: the quarter advances, and after quarter 95 the day, wrapping after 65,535;
every pending copy becomes active; and a close pass begins with the new day, quarter and the current cycle as its
stamp exactly when the new quarter is a multiple of CLOSE_EVERY; nothing else changes (R165, R169; that a boundary is
a flag and QUARTER_BOUNDARY without it does nothing is logs 4 and 6). CLOSE_STEP at the cursor's slot: a loaded
account with room in the queue appends its record, built as R171 gives, and starts its next period; where the queue
was empty the test of R173 then lets the record go, unless export is held, the cycle's count is 4 or the statement
class is full; with 512 records held the account closes late; a slot not loaded is passed over; the cursor grows by 1
and the pass ends at 256 (R170, R171, R172, R173, R175); without a pass nothing happens (log 6). The operand of
CYCLE_START may name the steps up to a slot as a piece of its work, so that they fall between the meterings of the
origin: the piece takes these steps and no other (R170; log 3). -/
def Obligations.BoundaryAndClosePassKeepTheBooks : Prop :=
  (∀ (s : State), s.resetHeld = false →
      (s.meter.boundaryDue = false → exec .quarterBoundary s = .next s) ∧
      (∀ q day : Nat, s.meter.boundaryDue = true →
        q = (if s.meter.clock.quarter < 95 then s.meter.clock.quarter + 1 else 0) →
        day = (if s.meter.clock.quarter < 95 then s.meter.clock.day else (s.meter.clock.day + 1) % 65536) →
        ∃ t, exec .quarterBoundary s = .next t ∧
          t = { s with meter := { s.meter with
            boundaryDue := false
            plans := t.meter.plans
            clock := ⟨day, q, 0, s.meter.clock.closeEvery⟩
            pass := if q % s.meter.clock.closeEvery = 0 then some ⟨0, ⟨day, q, s.cycle⟩⟩ else s.meter.pass } } ∧
          ∀ n, t.tariffPlan n = match (s.tariffPlan n).pending with
            | some c => ⟨c, none⟩
            | none => s.tariffPlan n)) ∧
  (∀ (s : State), s.resetHeld = false →
      (s.meter.pass = none → exec .closeStep s = .next s) ∧
      (∀ (p : ClosePass) (a : Account) (next : Option ClosePass), s.meter.pass = some p → a = s.account p.cursor →
        next = (if p.cursor < 255 then some ⟨p.cursor + 1, p.stamp⟩ else none) →
        (a.loaded = false → exec .closeStep s = .next { s with meter := { s.meter with pass := next } }) ∧
        (∀ r : Statement, a.loaded = true → s.meter.queue.length < 512 →
          r = ⟨s.meter.nextNumber, p.cursor, a.code, p.stamp, a.periods, a.down, a.up, a.outage, a.overrun, a.saturated,
            a.lateClose⟩ → ∃ t, exec .closeStep s = .next t ∧
          (s.meter.queue ≠ [] ∨ s.meter.held = true ∨ 4 ≤ s.meter.exportCount ∨ 8 ≤ s.uplink.statements.length →
            t = { s with meter := { s.meter with
              pass := next, accounts := t.meter.accounts, nextNumber := s.meter.nextNumber + 1
              queue := s.meter.queue ++ [r] } }) ∧
          (s.meter.queue = [] → s.meter.held = false → s.meter.exportCount < 4 → s.uplink.statements.length < 8 →
            t = arbitrate { s with
              meter := { s.meter with
                pass := next, accounts := t.meter.accounts, nextNumber := s.meter.nextNumber + 1
                exportCount := s.meter.exportCount + 1, exported := s.meter.exported + 1 }
              uplink := { s.uplink with statements := s.uplink.statements ++ [r] } }) ∧
          t.account p.cursor = { a with
            down := ⟨0, 0, 0, 0⟩, up := ⟨0, 0, 0, 0⟩, outage := 0, overrun := 0, saturated := false, lateClose := false,
            periods := 1 } ∧
          ∀ k, k ≠ p.cursor → t.account k = s.account k) ∧
        (a.loaded = true → 512 ≤ s.meter.queue.length → ∃ t, exec .closeStep s = .next t ∧
          t = { s with meter := { s.meter with
            pass := next, accounts := t.meter.accounts, lateCloses := s.meter.lateCloses + 1 } } ∧
          t.account p.cursor = { a with lateClose := true, periods := min (a.periods + 1) 255 } ∧
          ∀ k, k ≠ p.cursor → t.account k = s.account k))) ∧
  (∀ (j : Nat) (n : CycleNo) (s : State), s.resetHeld = false →
    (s.meter.pass = none → runWork n s (.closeThrough j) = s) ∧
    (∀ p : ClosePass, s.meter.pass = some p →
      (j < p.cursor → runWork n s (.closeThrough j) = s) ∧
      (p.cursor ≤ j → ∃ t, exec .closeStep s = .next t ∧
        runWork n s (.closeThrough j) = runWork n t (.closeThrough j))))

/-! ## The upstream line: slots, the reader, resolutions -/

/-- UPSTREAM_CYCLE_BEGIN takes the slot of its plan from WAITING to RECEIVING; with no cycle under way the detector
enters it, and it bears STUCK if the flag is active (R123). UPSTREAM_CYCLE_END takes the RECEIVING slot of the cycle
under way to FREE when every window is resolved and to DRAINING otherwise, after the rest of its light, given as runs
that do what STUCK_ONSET and STUCK_CLEAR do, the rest of the cycle dark (log 17); the detector then leaves the cycle,
for the next one if that has begun (R121). No other slot changes its state or its windows, and an event with no such
slot changes nothing (R44; that there is nothing to act on is log 6). A slot that becomes FREE is completed: its plan
no longer holds an index, a resume mark that holds its cycle becomes absent, its element leaves the discovery window
list and ends a ONCE sweep in flight with it, the LEAVING records now ready are freed, and the light record is judged
(R44, R48, R50, R81, R115, R122); of several made ready at once the one of the lowest index is freed first (log 49),
and R44 gives the two recipients of a completion no order: that the records are freed before the light is judged is
log 39. -/
def Obligations.SlotsPassThroughTheirStates : Prop :=
  (∀ (f : FeederId) (n : CycleNo) (s : State), s.resetHeld = false →
    (∀ sl : Slot, (s.feeder f).slotOf n = some sl → sl.state = .waiting →
      ∃ t : State, exec (.upstreamCycleBegin f n) s = .next t ∧
        (t.feeder f).slotOf n = some { sl with state := .receiving, light := { sl.light with
          stuck := sl.light.stuck || (!(s.feeder f).detector.inCycle && (s.feeder f).stuck.isSome) } } ∧
        (∀ m, m ≠ n → (t.feeder f).slotOf m = (s.feeder f).slotOf m) ∧
        t = s.setFeeder f { s.feeder f with
          ring := (t.feeder f).ring
          detector := if (s.feeder f).detector.inCycle then (s.feeder f).detector
            else { (s.feeder f).detector with looking := true, inCycle := true, cycle := n, pos := 0 } }) ∧
    ((∀ sl : Slot, (s.feeder f).slotOf n = some sl → sl.state ≠ .waiting) →
      exec (.upstreamCycleBegin f n) s = .next s)) ∧
  (∀ (f : FeederId) (n : CycleNo) (light : List LightRun) (s : State), s.resetHeld = false →
    (∀ (sl : Slot) (z y : State), (s.feeder f).receiving = some sl → sl.cycle = n →
      z = feedRun f (light.foldl (feedRun f) s) ⟨false, 25000⟩ → y = z.setFeeder f (z.feeder f).leaveCycle →
      ∃ (t : State) (lr : LightRecord), exec (.upstreamCycleEnd f n light) s = .next t ∧
        (y.feeder f).slotOf n = some { sl with light := lr } ∧
        y = { s.setFeeder f { s.feeder f with
          ring := (y.feeder f).ring, detector := (y.feeder f).detector, stuck := (y.feeder f).stuck
          rogue := (y.feeder f).rogue, lightCount := { (s.feeder f).lightCount with
            stuckOnsets := (y.feeder f).lightCount.stuckOnsets } } with agent := y.agent } ∧
        (sl.allResolved = true → (t.feeder f).slotOf n = none ∧ t = complete f { sl with light := lr } y) ∧
        (sl.allResolved = false → t = y.setFeeder f ((y.feeder f).setSlot n
          (some { sl with state := .draining, light := lr }))) ∧
        ∀ m, m ≠ n → ((t.feeder f).slotOf m).map (fun y => (y.state, y.windows)) =
          ((s.feeder f).slotOf m).map (fun y => (y.state, y.windows))) ∧
    ((∀ sl : Slot, (s.feeder f).receiving = some sl → sl.cycle ≠ n) →
      exec (.upstreamCycleEnd f n light) s = .next s)) ∧
  (∀ (f : FeederId) (words : Nat) (s : State), s.resetHeld = false →
    exec (.stuckOnset f words) s = .next (feedRun f s ⟨true, words⟩) ∧
    exec (.stuckClear f words) s = .next (feedRun f s ⟨false, words⟩)) ∧
  (∀ (x y : Feeder) (next : CycleNo), next = x.detector.cycle + 1 → y = x.leaveCycle →
    (∀ sl : Slot, x.slotOf next = some sl → sl.state = .receiving →
      (y.slotOf next = some { sl with light := { sl.light with stuck := sl.light.stuck || x.stuck.isSome } } ∧
        ∀ m, m ≠ next → y.slotOf m = x.slotOf m) ∧
      y = { x with
        ring := y.ring, detector := { x.detector with looking := true, inCycle := true, cycle := next, pos := 0 } }) ∧
    ((∀ sl : Slot, x.slotOf next = some sl → sl.state ≠ .receiving) →
      y = { x with detector := { x.detector with inCycle := false } })) ∧
  (∀ (f : FeederId) (sl : Slot) (s : State), (s.feeder f).slotOf sl.cycle = some sl →
    ∃ z : State, complete f sl s = judgeLight f sl (dropIndices.foldl (fun y d =>
        if (y.drop f d).state = .leaving ∧ (y.drop f d).lastSent.map Prod.fst = some .remove ∧
            (y.feeder f).ringHolds d = false
          then freeRecord f d ((y.drop f d).leave.getD .hostRemove) y else y) z) ∧
      (z.feeder f).slotOf sl.cycle = none ∧
      (∀ m, m ≠ sl.cycle → (z.feeder f).slotOf m = (s.feeder f).slotOf m) ∧
      (∀ d, (z.feeder f).mark d = if (s.feeder f).mark d = some (.cycle sl.cycle) then none else (s.feeder f).mark d) ∧
      z = s.setFeeder f { s.feeder f with
        ring := (z.feeder f).ring, marks := (z.feeder f).marks
        discoveries := (s.feeder f).discoveries.filter fun e => decide (e.cycle ≠ sl.cycle)
        sweep := { (s.feeder f).sweep with once :=
          if (s.feeder f).sweep.once = .inFlight sl.cycle then .none else (s.feeder f).sweep.once } })

/-- SYNC_FIRST_TRANSITION at a position in eighth-bit ticks: a rising transition that does not follow 24 dark bit times
or does not open a run of 6 to 8 lit ones is no sync mark's and is passed over (R186; that the two runs are the
command's operands is log 37). B is the position to the whole bit time, a half rounded down, less 768; an IDLE reader
takes it for the open window of the plan being received whose acceptance interval holds B, the first that does in the
plan's order, or, counting B from its own cycle, for one of the plan that follows, and else passes it over; taking it
is noted for a BURST or RANGING window, no other window and no other slot changing, and empties the staging list (R12,
R54, R55, R65). A fifth transition with a span of 440 to 456 ticks is accepted and the reader goes on to the label; any
other span, an OVERLONG mark and a cut-off mark make the burst GARBLED (a garbled reply in a DISCOVERY window) and the
reader IDLE (R13, R54, R61); outside a measurement the three events change nothing (log 6). -/
def Obligations.FirstTransitionAndSpanDecideAMark : Prop :=
  ((∀ ticks : Int, ticks - 4 ≤ 8 * (arrivalPosition ticks + 768) ∧ 8 * (arrivalPosition ticks + 768) ≤ ticks + 3) ∧
    (∀ (v : Window) (b : Int), v.takes b = true ↔
      v.resolution = .unresolved ∧
      ((∃ (d w len : Nat) (allocs : List (Nat × Nat)) (flag : Option BurstFlag),
          v.entry = .burst d w len allocs flag ∧ v.found = .nothing ∧ 32 * (w : Int) - 256 ≤ b ∧ b ≤ 32 * (w : Int) + 256) ∨
       (∃ d w delay : Nat, v.entry = .ranging d w delay ∧ v.found = .nothing ∧ 32 * (w : Int) ≤ b ∧
          b ≤ 32 * ((w : Int) + 19)) ∨
       (∃ w len delay : Nat, v.entry = .discovery w len delay ∧ 32 * (w : Int) ≤ b ∧
          b ≤ 32 * ((w : Int) + len - 47)))) ∧
    (∀ (sl : Slot) (b : Int) (i : WindowId), sl.takingWindow b = some i ↔
      ∃ (before after : List Window) (v : Window), sl.windows = before ++ v :: after ∧
        (∀ u ∈ before, u.takes b = false) ∧ v.takes b = true ∧ v.entry.windowId = some i) ∧
    (∀ (f : FeederId) (ticks : Int) (dark lit : Nat) (s : State), s.resetHeld = false → dark < 24 ∨ lit < 6 ∨ 8 < lit →
      exec (.syncFirstTransition f ⟨ticks, dark, lit⟩) s = .next s) ∧
    (∀ (f : FeederId) (ticks : Int) (dark lit : Nat) (sl : Slot) (s : State), s.resetHeld = false → 24 ≤ dark → 6 ≤ lit →
      lit ≤ 8 → (s.feeder f).reader = .idle → (s.feeder f).receiving = some sl →
      (∀ w, sl.takingWindow (arrivalPosition ticks) = some w →
        ∃ t, exec (.syncFirstTransition f ⟨ticks, dark, lit⟩) s = .next t ∧
          (t.feeder f).reader = .measuring sl.cycle w (arrivalPosition ticks) false ∧
          (w ≠ .discovery → (t.feeder f).foundFor sl.cycle w = .taken) ∧
          (t.feeder f).slotOf sl.cycle =
            some (if w = .discovery then sl else sl.onWindow w fun v => { v with found := .taken }) ∧
          (∀ m, m ≠ sl.cycle → (t.feeder f).slotOf m = (s.feeder f).slotOf m) ∧
          t = s.setFeeder f { s.feeder f with
            reader := (t.feeder f).reader, ring := (t.feeder f).ring, staging := [] }) ∧
      (∀ (nx : Slot) (w : WindowId), sl.takingWindow (arrivalPosition ticks) = none →
        (s.feeder f).slotOf (sl.cycle + 1) = some nx → nx.takingWindow (arrivalPosition ticks - 800000) = some w →
        ∃ t, exec (.syncFirstTransition f ⟨ticks, dark, lit⟩) s = .next t ∧
          (t.feeder f).reader = .measuring nx.cycle w (arrivalPosition ticks - 800000) false ∧
          (t.feeder f).slotOf nx.cycle =
            some (if w = .discovery then nx else nx.onWindow w fun v => { v with found := .taken }) ∧
          (∀ m, m ≠ nx.cycle → (t.feeder f).slotOf m = (s.feeder f).slotOf m) ∧
          t = s.setFeeder f { s.feeder f with
            reader := (t.feeder f).reader, ring := (t.feeder f).ring, staging := [] }) ∧
      (sl.takingWindow (arrivalPosition ticks) = none →
        (∀ nx : Slot, (s.feeder f).slotOf (sl.cycle + 1) = some nx →
          nx.takingWindow (arrivalPosition ticks - 800000) = none) →
        exec (.syncFirstTransition f ⟨ticks, dark, lit⟩) s = .next s))) ∧
  ((∀ (f : FeederId) (n : CycleNo) (w : WindowId) (b : Int) (o : Bool) (s : State), s.resetHeld = false →
      (s.feeder f).reader = .measuring n w b o →
      exec (.syncOverlong f) s = .next (s.setFeeder f { s.feeder f with reader := .measuring n w b true }) ∧
      (∀ span, o = false → 440 ≤ span → span ≤ 456 →
        exec (.syncMarkMeasured f span) s = .next (s.setFeeder f { s.feeder f with reader := .label n w b })) ∧
      (∀ c : Instr, c = .cutOffMark f ∨ (∃ span, c = .syncMarkMeasured f span ∧ (o = true ∨ span < 440 ∨ 456 < span)) →
        ∃ t, exec c s = .next t ∧
          t = s.setFeeder f { s.feeder f with
            reader := .idle, ring := (t.feeder f).ring, receptionCount := (t.feeder f).receptionCount } ∧
          (w = .discovery → (t.feeder f).ring = (s.feeder f).ring ∧ (t.feeder f).receptionCount =
            { (s.feeder f).receptionCount with repliesGarbled := (s.feeder f).receptionCount.repliesGarbled + 1 }) ∧
          (w ≠ .discovery → (t.feeder f).receptionCount = (s.feeder f).receptionCount ∧
            ∀ (sl : Slot) (v : Window), (s.feeder f).slotOf n = some sl → sl.window w = some v →
              (t.feeder f).foundFor n w = .garbledSpan))) ∧
    (∀ (f : FeederId) (c : Instr) (s : State), s.resetHeld = false →
      (∀ n w b o, (s.feeder f).reader ≠ .measuring n w b o) →
      c = .syncOverlong f ∨ c = .cutOffMark f ∨ (∃ span, c = .syncMarkMeasured f span) → exec c s = .next s))

/-- LABEL_READ in a BURST window for index d with r allocations decides in the order of R57: GARBLED for a failed
check or an index above 64, MISLABELLED for another index, GARBLED for the kind or the count, and otherwise the body
follows (R57). The label check is the CRC of R186 with generator x^16 + x^12 + x^5 + 1 over bits 31 to 16 of the label,
from all ones; the end check the one with generator 0x04C11DB7 over every word, from all ones and complemented at the
end; each takes the most significant bit first, and neither is reflected. -/
def Obligations.LabelDecidesInOrder : Prop :=
  (∀ label : Word, (labelCheck label).toNat = ((List.range 16).map fun k => label.toNat.testBit (31 - k)).foldl
    (fun r bit => if r.testBit 15 = bit then 2 * r % 2 ^ 16 else (2 * r % 2 ^ 16) ^^^ 0x1021) (2 ^ 16 - 1)) ∧
  (∀ words : List Word, (endCheck words).toNat = 2 ^ 32 - 1 -
    (words.flatMap fun w => (List.range 32).map fun k => w.toNat.testBit (31 - k)).foldl
      (fun r bit => if r.testBit 31 = bit then 2 * r % 2 ^ 32 else (2 * r % 2 ^ 32) ^^^ 0x04C11DB7) (2 ^ 32 - 1)) ∧
  (∀ (f : FeederId) (n : CycleNo) (d w len : Nat) (allocs : List (Nat × Nat)) (flag : Option BurstFlag) (b : Int)
    (g0 : Found) (res : Resolution) (label : Word) (sl : Slot) (s : State),
    s.resetHeld = false → (s.feeder f).reader = .label n (.burst d) b → (s.feeder f).slotOf n = some sl →
    sl.window (.burst d) = some ⟨.burst d w len allocs flag, g0, res⟩ →
    (∀ g : Found,
      ((g = .garbledLabel ∧ (label.toNat % 65536 ≠ (labelCheck label).toNat ∨ 64 < label.toNat / 2 ^ 24)) ∨
       (g = .mislabelled (label.toNat / 2 ^ 24) ∧ label.toNat % 65536 = (labelCheck label).toNat ∧
          label.toNat / 2 ^ 24 ≤ 64 ∧ label.toNat / 2 ^ 24 ≠ d) ∨
       (g = .garbledLabel ∧ label.toNat % 65536 = (labelCheck label).toNat ∧ label.toNat / 2 ^ 24 = d ∧ d ≤ 64 ∧
          (label.toNat / 2 ^ 20 % 16 ≠ 1 ∨ label.toNat / 2 ^ 16 % 16 ≠ allocs.length))) →
      ∃ t, exec (.labelRead f label) s = .next t ∧ (t.feeder f).foundFor n (.burst d) = g ∧
        t = s.setFeeder f { s.feeder f with reader := .idle, ring := (t.feeder f).ring }) ∧
    (label.toNat % 65536 = (labelCheck label).toNat → label.toNat / 2 ^ 24 = d → d ≤ 64 →
      label.toNat / 2 ^ 20 % 16 = 1 → label.toNat / 2 ^ 16 % 16 = allocs.length →
      exec (.labelRead f label) s = .next (s.setFeeder f { s.feeder f with
        reader := .body n (.burst d) b ⟨[label], [], allocs.length, allocs.filter (fun a => decide (a.2 ≠ 0)), .header,
          false⟩ })))

/-- SEGMENT_SPLIT over a report word takes its backlog as the next lane's report (R58). Over one whole segment at the
front of a lane's remaining words stages it with its flow, flags and exactly its byte length of payload, and reading
goes on at the word after it; a header whose segment runs past the lane's words, or longer than 2,000 bytes, stages an
overrun mark, in the lane's last word too; after it, or after a header of length 0, the rest of the lane's words are
passed over (R58, R65, R66). END_MARK_READ on a whole body makes the burst RECEIVED when the end check over every word
from the label passes, and GARBLED otherwise (R58, R186); that words may be given in parts, and that those given with
END_MARK_READ are read first, is the model's choice (log 30). -/
def Obligations.BodyIsSplitAndChecked : Prop :=
  (∀ (f : FeederId) (n : CycleNo) (d l left len : Nat) (b : Int) (body : Body) (rest : List (Nat × Nat)) (hd : Word)
    (ws : List Word) (s : State), s.resetHeld = false → (s.feeder f).reader = .body n (.burst d) b body →
    body.reportsLeft = 0 → body.lanes = (l, left) :: rest → body.place = .header →
    len = hd.toNat / 2 ^ 8 % 2 ^ 11 →
    (1 ≤ len → len ≤ 2000 → ws.length = (len + 3) / 4 → 1 + ws.length ≤ left →
      ∃ t body', exec (.segmentSplit f (hd :: ws)) s = .next t ∧
        t = s.setFeeder f { s.feeder f with
          reader := .body n (.burst d) b body'
          staging := (s.feeder f).staging ++ [⟨n, d, l, some ⟨hd.toNat / 2 ^ 21, decide (hd.toNat / 2 ^ 20 % 2 = 1),
            decide (hd.toNat / 2 ^ 19 % 2 = 1), (ws.flatMap wordBytes).take len⟩⟩] } ∧
        body' = { body with
          words := body.words ++ hd :: ws, place := .header, carriedData := true
          lanes := if left = 1 + ws.length then rest else (l, left - (1 + ws.length)) :: rest }) ∧
    ((2000 < len ∨ left < 1 + (len + 3) / 4) → 1 ≤ len →
      exec (.segmentSplit f [hd]) s = .next (s.setFeeder f { s.feeder f with
        reader := .body n (.burst d) b { body with
          words := body.words ++ [hd], lanes := if left ≤ 1 then rest else (l, left - 1) :: rest
          place := if left ≤ 1 then .header else .passing }
        staging := (s.feeder f).staging ++ [⟨n, d, l, none⟩] }))) ∧
  (∀ (f : FeederId) (n : CycleNo) (d l left : Nat) (b : Int) (body : Body) (rest : List (Nat × Nat)) (w : Word)
    (s : State), s.resetHeld = false → (s.feeder f).reader = .body n (.burst d) b body →
    (body.reportsLeft ≠ 0 → exec (.segmentSplit f [w]) s = .next (s.setFeeder f { s.feeder f with
      reader := .body n (.burst d) b { body with
        words := body.words ++ [w], reports := body.reports ++ [w.toNat % 65536]
        reportsLeft := body.reportsLeft - 1 } })) ∧
    (body.reportsLeft = 0 → body.lanes = (l, left) :: rest →
      (body.place = .header ∧ w.toNat / 2 ^ 8 % 2 ^ 11 = 0) ∨ body.place = .passing →
      exec (.segmentSplit f [w]) s = .next (s.setFeeder f { s.feeder f with
        reader := .body n (.burst d) b { body with
          words := body.words ++ [w], lanes := if left ≤ 1 then rest else (l, left - 1) :: rest
          place := if left ≤ 1 then .header else .passing } }))) ∧
  (∀ (f : FeederId) (n : CycleNo) (d : Nat) (b : Int) (body : Body) (m : Word) (sl : Slot) (v : Window) (s : State),
    s.resetHeld = false → (s.feeder f).reader = .body n (.burst d) b body → body.reportsLeft = 0 → body.lanes = [] →
    (s.feeder f).slotOf n = some sl → sl.window (.burst d) = some v →
    ∃ t, exec (.endMarkRead f [] m) s = .next t ∧
      t = s.setFeeder f { s.feeder f with reader := .idle, ring := (t.feeder f).ring } ∧
      (m = endCheck body.words → ∃ zero, (t.feeder f).foundFor n (.burst d) =
          .received ⟨b, body.reports, body.carriedData, zero⟩ ∧ (zero = true ↔ ∀ r ∈ body.reports, r = 0)) ∧
      (m ≠ endCheck body.words → (t.feeder f).foundFor n (.burst d) = .garbledEnd)) ∧
  (∀ (f : FeederId) (ws : List Word) (m : Word) (s t : State), s.resetHeld = false →
    exec (.segmentSplit f ws) s = .next t → exec (.endMarkRead f ws m) s = exec (.endMarkRead f [] m) t)

/-- RANGE_REPLY_READ in a RANGING window for index d decides in the order of R60: GARBLED for the label, MISLABELLED,
GARBLED for kind or count, GARBLED for the end check, or RECEIVED with B (R60). DISCOVERY_REPLY_READ decides each
reply on its own in the order of R61: a garbled reply is only counted, a MISLABEL goes at once to the Light Monitor,
and a reply taken goes at once to the Enrolment Controller with its tag, lane count, k and B; the reader returns to
IDLE (R61, R63, R64). -/
def Obligations.RepliesDecideInOrder : Prop :=
  (∀ (f : FeederId) (n : CycleNo) (d : Nat) (b : Int) (label echo m : Word) (sl : Slot) (v : Window) (g : Found)
      (s : State), s.resetHeld = false → (s.feeder f).reader = .label n (.ranging d) b →
      (s.feeder f).slotOf n = some sl → sl.window (.ranging d) = some v →
      ((g = .garbledLabel ∧ (label.toNat % 65536 ≠ (labelCheck label).toNat ∨ 64 < label.toNat / 2 ^ 24 ∨
          echo.toNat / 2 ^ 24 ≠ label.toNat / 2 ^ 24)) ∨
       (label.toNat % 65536 = (labelCheck label).toNat ∧ label.toNat / 2 ^ 24 ≤ 64 ∧
          echo.toNat / 2 ^ 24 = label.toNat / 2 ^ 24 ∧
          ((g = .mislabelled (label.toNat / 2 ^ 24) ∧ label.toNat / 2 ^ 24 ≠ d) ∨
           (label.toNat / 2 ^ 24 = d ∧
             ((g = .garbledLabel ∧ (label.toNat / 2 ^ 20 % 16 ≠ 3 ∨ label.toNat / 2 ^ 16 % 16 ≠ 0)) ∨
              (label.toNat / 2 ^ 20 % 16 = 3 ∧ label.toNat / 2 ^ 16 % 16 = 0 ∧
                ((g = .garbledEnd ∧ m ≠ endCheck [label, echo]) ∨
                 (g = .received ⟨b, [], false, true⟩ ∧ m = endCheck [label, echo])))))))) →
      ∃ t, exec (.rangeReplyRead f label echo m) s = .next t ∧ (t.feeder f).foundFor n (.ranging d) = g ∧
        t = s.setFeeder f { s.feeder f with reader := .idle, ring := (t.feeder f).ring }) ∧
  (∀ (f : FeederId) (n : CycleNo) (b : Int) (label hi lo info m : Word) (s x : State),
      s.resetHeld = false → (s.feeder f).reader = .label n .discovery b →
      x = s.setFeeder f { s.feeder f with reader := .idle } →
      ((label.toNat % 65536 ≠ (labelCheck label).toNat ∨ 64 < label.toNat / 2 ^ 24 ∨
          (label.toNat / 2 ^ 24 = 0 ∧ (label.toNat / 2 ^ 20 % 16 ≠ 2 ∨ label.toNat / 2 ^ 16 % 16 ≠ 0 ∨
            m ≠ endCheck [label, hi, lo, info] ∨ info.toNat / 2 ^ 16 % 8 = 0 ∨ 4 < info.toNat / 2 ^ 16 % 8))) →
        exec (.discoveryReplyRead f label hi lo info m) s = .next (x.setFeeder f { x.feeder f with
          receptionCount := { (x.feeder f).receptionCount with
            repliesGarbled := (x.feeder f).receptionCount.repliesGarbled + 1 } })) ∧
      (label.toNat % 65536 = (labelCheck label).toNat → 1 ≤ label.toNat / 2 ^ 24 → label.toNat / 2 ^ 24 ≤ 64 →
        exec (.discoveryReplyRead f label hi lo info m) s = .next (takeMislabel f (label.toNat / 2 ^ 24)
          (x.setFeeder f { x.feeder f with receptionCount := { (x.feeder f).receptionCount with
            mislabelled := (x.feeder f).receptionCount.mislabelled + 1 } }))) ∧
      (label.toNat % 65536 = (labelCheck label).toNat → label.toNat / 2 ^ 24 = 0 → label.toNat / 2 ^ 20 % 16 = 2 →
        label.toNat / 2 ^ 16 % 16 = 0 → m = endCheck [label, hi, lo, info] → 1 ≤ info.toNat / 2 ^ 16 % 8 →
        info.toNat / 2 ^ 16 % 8 ≤ 4 →
        exec (.discoveryReplyRead f label hi lo info m) s = .next (takeReply f n (hi ++ lo) (info.toNat / 2 ^ 16 % 8)
          (info.toNat / 2 ^ 20 % 16) b (x.setFeeder f { x.feeder f with
            receptionCount := { (x.feeder f).receptionCount with
              repliesTaken := (x.feeder f).receptionCount.repliesTaken + 1 } }))))

/-- A reply taken goes through the steps of R83 in order: cancelled window, duplicate, tag clash, held tag, queue full
(REPLY_OVERRUN, with one notice while the flag is clear), and otherwise an entry in LOOKUP at the tail, with the RTD
of R97 held within 0 and TD, after a shining record with the tag is freed as REAPPEARED (R82, R83, R84, R97). A tag
clashes when a record of another feeder that is not EMPTY, or an entry of its reply queue, holds it, and is held when
such a record of this feeder does (R83). A tag is held at most once (R83), so that which of several holders is named, the
first here, is of no moment in a run. -/
def Obligations.ReplyStepsDecideInOrder : Prop :=
  (∀ (f : FeederId) (tag : FactoryTag) (s : State) (recorded holds : FeederId → Prop) (held : FeederId → Nat → Prop),
    (∀ g d, held g d ↔ 1 ≤ d ∧ d ≤ 64 ∧ (s.drop g d).state ≠ .empty ∧ (s.drop g d).tag = tag) →
    (∀ g, recorded g ↔ ∃ d, held g d) → (∀ g, holds g ↔ recorded g ∨ ∃ e ∈ (s.feeder g).replies, e.tag = tag) →
    (s.clashFeeder f tag = none ↔ ∀ g, g ≠ f → ¬ holds g) ∧
    (∀ g, s.clashFeeder f tag = some g ↔ g ≠ f ∧ holds g ∧ ∀ k : FeederId, k.toNat < g.toNat → k ≠ f → ¬ holds k) ∧
    ((s.feeder f).tagIndex tag = none ↔ ¬ recorded f) ∧
    (∀ d, (s.feeder f).tagIndex tag = some d ↔ held f d ∧ ∀ k, k < d → ¬ held f k)) ∧
  (∀ (f : FeederId) (n : CycleNo) (tag : FactoryTag) (lanes k : Nat) (b : Int) (s : State),
    ((∃ e ∈ (s.feeder f).discoveries, e.cycle = n ∧ e.live = false) →
      takeReply f n tag lanes k b s = s.setFeeder f { s.feeder f with enrolCount :=
        { (s.feeder f).enrolCount with cancelled := (s.feeder f).enrolCount.cancelled + 1 } }) ∧
    ((∀ e ∈ (s.feeder f).discoveries, e.cycle = n → e.live = true) →
      ((∃ e ∈ (s.feeder f).replies, e.tag = tag) →
        takeReply f n tag lanes k b s = s.setFeeder f { s.feeder f with enrolCount :=
          { (s.feeder f).enrolCount with duplicate := (s.feeder f).enrolCount.duplicate + 1 } }) ∧
      ((∀ e ∈ (s.feeder f).replies, e.tag ≠ tag) →
        (∀ g, s.clashFeeder f tag = some g →
          takeReply f n tag lanes k b s = notify (.tagClash f tag g) (s.setFeeder f { s.feeder f with enrolCount :=
            { (s.feeder f).enrolCount with clash := (s.feeder f).enrolCount.clash + 1 } })) ∧
        (s.clashFeeder f tag = none →
          (∀ d, (s.feeder f).tagIndex tag = some d → (s.drop f d).state.shining = false →
            takeReply f n tag lanes k b s = s.setFeeder f { s.feeder f with enrolCount :=
              { (s.feeder f).enrolCount with heldTag := (s.feeder f).enrolCount.heldTag + 1 } }) ∧
          ((∀ d, (s.feeder f).tagIndex tag = some d → (s.drop f d).state.shining = true) →
            (4 ≤ (s.feeder f).replies.length → ∀ y : State,
              y = s.setFeeder f { s.feeder f with replyOverrun := true, enrolCount :=
                { (s.feeder f).enrolCount with overrun := (s.feeder f).enrolCount.overrun + 1 } } →
              takeReply f n tag lanes k b s =
                if (s.feeder f).replyOverrun then y else notify (.replyOverrun f) y) ∧
            ((s.feeder f).replies.length < 4 → ∀ (u : Settings) (rtd : Int), u = (s.feeder f).settings →
              rtd = b + u.td - 32 * u.s - 2048 * k →
              ∃ r : Nat, (r : Int) = max 0 (min rtd u.td) ∧
                ∀ y : State, (y = match (s.feeder f).tagIndex tag with
                  | none => s
                  | some d => freeRecord f d .reappeared s) →
                (y.feeder f).settings = u ∧
                takeReply f n tag lanes k b s = { y.setFeeder f { y.feeder f with replies := (y.feeder f).replies ++
                  [⟨tag, lanes, k, r, n, .lookup, 0, none, y.serial, false⟩] } with serial := y.serial + 1 }))))))

/-- ADMISSION_LOOKUP takes the oldest LOOKUP entry without a pending DECLINE: a PERMIT place decides it as R89 gives,
a DENY place declines it DENIED, and with no place its query begins, WAITING_HOST with age 0 and one ADMISSION_QUERY
notice (R86, R87, R89); with no such entry nothing happens (log 6). -/
def Obligations.LookupDecidesTheOldestEntry : Prop :=
  ∀ (f : FeederId) (s : State), s.resetHeld = false →
    ((∀ e ∈ (s.feeder f).replies, e.status = .lookup → e.decline ≠ none) →
      exec (.admissionLookup f) s = .next s) ∧
    (∀ (before after : List ReplyEntry) (e : ReplyEntry), (s.feeder f).replies = before ++ e :: after →
      (∀ y ∈ before, y.status = .lookup → y.decline ≠ none) → e.status = .lookup → e.decline = none →
      (∀ a : AdmissionEntry, s.admissionFor e.tag = some a →
        (a.verdict = .permit → exec (.admissionLookup f) s = .next (permit f e a s).1) ∧
        (a.verdict = .deny → exec (.admissionLookup f) s = .next (declineEntry f e .denied s))) ∧
      (s.admissionFor e.tag = none → (∀ y ∈ before ++ after, y.serial ≠ e.serial) →
        exec (.admissionLookup f) s = .next (notify (.admissionQuery f e.tag e.laneCount e.rtd)
          (s.setFeeder f { s.feeder f with
            replies := before ++ { e with status := .waitingHost, age := 0 } :: after }))))

/-- BURST_WINDOW_RESOLVED for an unresolved window of the cycle under way: a burst of it that is still being read is
garbled as a bad sync mark or cut-off burst is, and the reader returns to IDLE (R54, R64); the window takes the one
outcome that R59 gives for what was found and whether R47 excuses it, no other window and no other slot changing, and
the one counter that R64 names for it grows by 1; the lanes of the window lose their granted words from outstanding and
take the reports only when RECEIVED and the record is not EMPTY (R20); the staging list empties, and a window not
RECEIVED empties the slots of its granted lanes, each partial frame so discarded counted as lost in flight, and the
Flow Engine moves no other slot and no other counter for it (R62, R65, R72). The outcome goes to the Flow Engine, the
Grant Scheduler, the Enrolment Controller and the Light Monitor, in this order (R62, R63). -/
def Obligations.BurstResolutionIsHandedOn : Prop :=
  ∀ (f : FeederId) (n : CycleNo) (d w len : Nat) (allocs : List (Nat × Nat)) (flag : Option BurstFlag) (g0 g : Found)
    (res : Resolution) (sl : Slot) (s : State) (counted : ReceptionCounters),
    s.resetHeld = false → (s.feeder f).slotOf n = some sl → sl.state = .receiving →
    sl.window (.burst d) = some ⟨.burst d w len allocs flag, g0, .unresolved⟩ →
    counted = { (s.feeder f).receptionCount with
      received := (s.feeder f).receptionCount.received + (if res = .received then 1 else 0)
      missing := (s.feeder f).receptionCount.missing + (if res = .missing then 1 else 0)
      garbledSpan := (s.feeder f).receptionCount.garbledSpan +
        (if res = .garbled ∧ g ≠ .garbledLabel ∧ g ≠ .garbledEnd then 1 else 0)
      garbledLabel := (s.feeder f).receptionCount.garbledLabel + (if res = .garbled ∧ g = .garbledLabel then 1 else 0)
      garbledEnd := (s.feeder f).receptionCount.garbledEnd + (if res = .garbled ∧ g = .garbledEnd then 1 else 0)
      mislabelled := (s.feeder f).receptionCount.mislabelled + (if res = .mislabelled then 1 else 0)
      excused := (s.feeder f).receptionCount.excused + (if res = .excused then 1 else 0) } →
    g = (if (s.feeder f).reader.serving = some (n, .burst d) then .garbledSpan else g0) →
    1 ≤ d → d ≤ 64 → (allocs.map Prod.fst).Nodup → (∀ a ∈ allocs, a.1 < 4) →
    (res = if (s.drop f d).state = .empty ∨ (s.drop f d).state = .darkened ∨ (s.drop f d).state = .quarantined ∨
          (s.drop f d).state = .leaving ∨ (s.feeder f).mark d = some .waiting ∨
          (∃ m, (s.feeder f).mark d = some (.cycle m) ∧ (m - n).toNat < 2 ^ 31)
        then .excused
        else match g with
          | .nothing => .missing
          | .mislabelled _ => .mislabelled
          | .received _ => .received
          | _ => .garbled) →
    ∃ t, exec (.burstWindowResolved f n d) s = .next t ∧
      (∃ sl', (t.feeder f).slotOf n = some sl' ∧ sl'.state = .receiving ∧
        sl'.window (.burst d) = some ⟨.burst d w len allocs flag, g, res⟩) ∧
      (t.feeder f).receptionCount = counted ∧
      (t.feeder f).staging = [] ∧
      (t.feeder f).reader = (if (s.feeder f).reader.serving = some (n, .burst d) then .idle else (s.feeder f).reader) ∧
      (∀ k l, 1 ≤ k → l < 4 → (k ≠ d ∨ l ∉ allocs.map Prod.fst) →
        (t.feeder f).lane k l = (s.feeder f).lane k l) ∧
      (∀ (i l granted : Nat), allocs[i]? = some (l, granted) →
        ((t.feeder f).lane d l).outstanding = ((s.feeder f).lane d l).outstanding - granted ∧
        ((t.feeder f).lane d l).credit = ((s.feeder f).lane d l).credit ∧
        (res ≠ .received ∨ (s.drop f d).state = .empty →
          ((t.feeder f).lane d l).backlog = ((s.feeder f).lane d l).backlog ∧
          ((t.feeder f).lane d l).lastReport = ((s.feeder f).lane d l).lastReport) ∧
        (∀ (r : Reading) (report : Nat), res = .received → g = .received r → r.reports[i]? = some report →
          ((t.feeder f).lane d l).backlog = report ∧ ((t.feeder f).lane d l).lastReport = n)) ∧
      (res ≠ .received → ∀ a ∈ allocs, a.2 ≠ 0 → (t.feeder f).partialFrame d a.1 = none) ∧
      ∃ x y z v : State,
        x = s.setFeeder f { s.feeder f with
          reader := if (s.feeder f).reader.serving = some (n, .burst d) then .idle else (s.feeder f).reader
          ring := (x.feeder f).ring, receptionCount := counted } ∧
        (x.feeder f).slotOf n = some (sl.onWindow (.burst d) fun v => { v with
          found := if (s.feeder f).reader.serving = some (n, .burst d) then .garbledSpan else v.found
          resolution := res }) ∧
        (∀ m, m ≠ n → (x.feeder f).slotOf m = (s.feeder f).slotOf m) ∧
        y = (if res = .received then commitWindow f n d x
          else dropWindow f d ((allocs.filter fun a => decide (a.2 ≠ 0)).map Prod.fst) x) ∧
        (res ≠ .received →
          (∀ k l, 1 ≤ k → l < 4 → (y.feeder f).partialFrame k l =
            if k = d ∧ (∃ a ∈ allocs, a.1 = l ∧ a.2 ≠ 0) then none else (s.feeder f).partialFrame k l) ∧
          y = x.setFeeder f { x.feeder f with
            staging := [], reassembly := (y.feeder f).reassembly
            upCount := { (s.feeder f).upCount with
              lostInFlight := (s.feeder f).upCount.lostInFlight + BitVec.ofNat 32 (allocs.filter fun a =>
                decide (a.2 ≠ 0) && ((s.feeder f).partialFrame d a.1).isSome).length } }) ∧
        z = y.setFeeder f { y.feeder f with lanes := (z.feeder f).lanes } ∧
        v = (if res = .excused then burstExcused f n d flag z
          else burstTaken f n d w res (match g with | .received r => some r | _ => none) z) ∧
        (res = .garbled → t = arbitrate (takeGarble f d v)) ∧
        (∀ named, g = .mislabelled named → res = .mislabelled → t = arbitrate (takeMislabel f named v)) ∧
        (res = .missing ∨ res = .received ∨ (res = .excused ∧ g = .nothing) → t = arbitrate v) ∧
        (res = .excused → g ≠ .nothing → ∃ l, (v.feeder f).slotOf n = some l ∧
          t = arbitrate (v.setFeeder f ((v.feeder f).setSlot n
            (some { l with light := { l.light with strays := l.light.strays ++ [.burst d] } }))))

/-- What the Enrolment Controller does with the resolution of a BURST window of an ACTIVE, DOZING or SILENT drop. It
is stale while a correction is pending whose EQUALISE is not out, or went out in the window's own plan or a later one;
the first that is not stale clears the correction (R105). RECEIVED: an offset beyond 32 bit times that is not stale is
taken off the EQD first, with RTD kept at TD − EQD, an EQUALISE created and the correction pending, or the record
LEAVING OUT_OF_REACH below 0 (R104; of such a record nothing further moves); then the counts move and a SILENT drop,
or a DOZING one with data or a backlog, becomes ACTIVE (R108, R110, R111). MISSING: a miss unless stale, ISOLATING or
STUCK, at MISS_LIMIT SILENT (R108, R109, R111). GARBLED or MISLABELLED moves no count of an ACTIVE or DOZING drop. A
SILENT drop's latest ROUSE window that failed lowers the rouse count where it is stale or frozen, and otherwise gives
the drop up LOST from ROUSE_LIMIT on; any other window changes nothing (R111, R112; a count above the limit is log
51). An EXCUSED ROUSE window of a DARKENED or SILENT drop lowers the rouse count (R112). That an EXCUSED resolution, and
one of a drop in another state, leaves a pending correction is the model's reading (log 46). -/
def Obligations.BurstEffectsFollowTheOutcome : Prop :=
  (∀ (f : FeederId) (n : CycleNo) (d w : Nat) (res : Resolution) (s : State) (r q : DropRecord) (stale still : Bool),
    r = s.drop f d → (r.state = .active ∨ r.state = .dozing ∨ r.state = .silent) →
    (stale = true ↔ r.correctionPending = true ∧
      (r.equaliseCycle = none ∨ ∃ m, r.equaliseCycle = some m ∧ (m - n).toNat < 2 ^ 31)) →
    (still = true ↔ stale = true ∨ (s.feeder f).rogue = .isolating ∨ (s.feeder f).stuck ≠ none) →
    q = (if r.correctionPending = true ∧ stale = false
      then { r with correctionPending := false, equaliseCycle := none } else r) →
    (∀ (g : Reading) (off : Int) (td : Nat) (heard : DropRecord → DropRecord), res = .received →
      off = g.arrival - 32 * w → td = (s.feeder f).settings.td →
      (∀ y, heard y = if y.state = .active ∨ y.state = .dozing then
            if g.carriedData = true ∨ g.allZero = false then { y with state := .active, miss := 0, idle := 0 }
            else { y with miss := 0 }
          else if y.state = .silent then { y with state := .active, miss := 0, rouse := 0, idle := 0 } else y) →
      ∃ t, burstTaken f n d w res (some g) s = t ∧
        ((stale = true ∨ (-32 ≤ off ∧ off ≤ 32)) → t.drop f d = heard q ∧ (∀ k, k ≠ d → t.drop f k = s.drop f k) ∧
          t = s.setFeeder f { s.feeder f with drops := (t.feeder f).drops }) ∧
        (stale = false → (off < -32 ∨ 32 < off) →
          (∀ (eqd : Nat), (eqd : Int) = min ((q.eqd : Int) - off) td →
            t.drop f d = heard { q with
              eqd := eqd, rtd := td - eqd, correctionPending := true, equaliseCycle := none
              pending := (t.drop f d).pending, following := if q.pending = none then q.following else some .equalise } ∧
            (t.drop f d).pending.map PendingOrder.kind = some (((q.pending.map PendingOrder.kind).getD .equalise)) ∧
            (∀ k, k ≠ d → t.drop f k = { s.drop f k with pending := (t.drop f k).pending })) ∧
          ((q.eqd : Int) - off < 0 → (t.drop f d).state = .leaving ∧ (t.drop f d).leave = some .outOfReach ∧
            (t.drop f d).eqd = r.eqd ∧ (t.drop f d).rtd = r.rtd ∧ (t.drop f d).miss = r.miss))) ∧
    (res = .missing ∨ res = .garbled ∨ res = .mislabelled → r.state = .active ∨ r.state = .dozing →
      ∃ t, burstTaken f n d w res none s = t ∧ (∀ k, k ≠ d → t.drop f k = s.drop f k) ∧
        t = s.setFeeder f { s.feeder f with drops := (t.feeder f).drops } ∧
        t.drop f d = if res = .missing ∧ still = false then
            { q with
              miss := r.miss + 1
              state := if (s.feeder f).settings.missLimit ≤ r.miss + 1 then .silent else r.state
              rouse := if (s.feeder f).settings.missLimit ≤ r.miss + 1 then 0 else r.rouse }
          else q) ∧
    (res = .missing ∨ res = .garbled ∨ res = .mislabelled → r.state = .silent →
      ∃ t, burstTaken f n d w res none s = t ∧
        ((r.rouse = 0 ∨ n ≠ r.lastPlanned ∨ (still = false ∧ r.rouse < (s.feeder f).settings.rouseLimit)) →
          t.drop f d = q) ∧
        (1 ≤ r.rouse → n = r.lastPlanned → still = true → t.drop f d = { q with rouse := r.rouse - 1 }) ∧
        (1 ≤ r.rouse → n = r.lastPlanned → still = false → (s.feeder f).settings.rouseLimit ≤ r.rouse →
          (t.drop f d).state = .leaving ∧ (t.drop f d).leave = some .lost))) ∧
  (∀ (f : FeederId) (n : CycleNo) (d w : Nat) (res : Resolution) (reading : Option Reading) (s : State),
    (s.drop f d).state.shining = false → burstTaken f n d w res reading s = s) ∧
  (∀ (f : FeederId) (n : CycleNo) (d : Nat) (flag : Option BurstFlag) (s : State),
    ∃ t, burstExcused f n d flag s = t ∧ t = s.setFeeder f { s.feeder f with drops := (t.feeder f).drops } ∧
      (∀ k, k ≠ d → t.drop f k = s.drop f k) ∧
      t.drop f d = { s.drop f d with
        rouse := if flag = some .rouse ∧ ((s.drop f d).state = .darkened ∨ (s.drop f d).state = .silent) ∧
            n = (s.drop f d).lastPlanned
          then (s.drop f d).rouse - 1 else (s.drop f d).rouse })

/-- The commit of a RECEIVED window takes its staged segments and overrun marks in staging order and empties the list
(R65); each segment does to its lane's reassembly slot what its row of R68 gives, an overrun mark empties the slot as
a displacement and is counted (R66); a complete frame is a runt below 64 bytes, MISROUTED when its flow record is of
another feeder, drop or lane, and otherwise joins the upstream traffic class with its service tag and is metered
upstream, or is counted as uplink full with 1,000 places taken and not metered (R70, R71, R72, R156). -/
def Obligations.CommitsReassembleAndOffer : Prop :=
  (∀ (f : FeederId) (n : CycleNo) (d : Nat) (s : State), commitWindow f n d s =
    ((s.feeder f).staging.filter fun g => decide (g.cycle = n) && decide (g.d = d)).foldl (fun y g => match g.item with
      | some seg => commitSegment f g.cycle g.d g.lane seg y
      | none => commitOverrun f g.d g.lane y) (s.setFeeder f { s.feeder f with staging := [] })) ∧
  (∀ (f : FeederId) (n : CycleNo) (d lane : Nat) (g : Segment) (s : State) (x : Feeder) (c : UpstreamCounters)
    (o : Option Partial), 1 ≤ d → lane < 4 → x = s.feeder f → c = x.upCount → o = x.partialFrame d lane →
    ∃ (y : State) (slot : Option Partial) (count : UpstreamCounters), (y.feeder f).partialFrame d lane = slot ∧
      (∀ k l, 1 ≤ k → l < 4 → (k ≠ d ∨ l ≠ lane) → (y.feeder f).partialFrame k l = x.partialFrame k l) ∧
      y = s.setFeeder f { x with reassembly := (y.feeder f).reassembly, upCount := count } ∧
      (g.first = true → count = { c with displaced := c.displaced + (if o.isSome then 1 else 0) } ∧
        (g.last = true → slot = none ∧ commitSegment f n d lane g s = frameComplete f d lane g.flow g.payload y) ∧
        (g.last = false → slot = some ⟨g.flow, n, g.payload⟩ ∧ commitSegment f n d lane g s = y)) ∧
      (g.first = false → o = none → count = { c with orphan := c.orphan + 1 } ∧ slot = none ∧
        commitSegment f n d lane g s = y) ∧
      (∀ p : Partial, g.first = false → o = some p →
        (p.flow ≠ g.flow → count = { c with flowBreak := c.flowBreak + 1 } ∧ slot = none ∧
          commitSegment f n d lane g s = y) ∧
        (p.flow = g.flow → 2000 < p.payload.length + g.payload.length →
          count = { c with oversize := c.oversize + 1 } ∧ slot = none ∧ commitSegment f n d lane g s = y) ∧
        (p.flow = g.flow → p.payload.length + g.payload.length ≤ 2000 → count = c ∧
          (g.last = false → slot = some ⟨p.flow, p.arrival, p.payload ++ g.payload⟩ ∧
            commitSegment f n d lane g s = y) ∧
          (g.last = true → slot = none ∧
            commitSegment f n d lane g s = frameComplete f d lane p.flow (p.payload ++ g.payload) y)))) ∧
  (∀ (f : FeederId) (d lane : Nat) (s : State) (x : Feeder), 1 ≤ d → lane < 4 → x = s.feeder f →
    ∃ t, commitOverrun f d lane s = t ∧ (t.feeder f).partialFrame d lane = none ∧
      (∀ k l, 1 ≤ k → l < 4 → (k ≠ d ∨ l ≠ lane) → (t.feeder f).partialFrame k l = x.partialFrame k l) ∧
      t = s.setFeeder f { x with reassembly := (t.feeder f).reassembly, upCount := { x.upCount with
        laneOverrun := x.upCount.laneOverrun + 1
        displaced := x.upCount.displaced + (if (x.partialFrame d lane).isSome then 1 else 0) } }) ∧
  (∀ (f : FeederId) (d lane flow : Nat) (bytes : List Byte) (s : State) (x : Feeder) (r : FlowRecord), x = s.feeder f →
    r = s.flow flow →
    (bytes.length < 64 → frameComplete f d lane flow bytes s =
      s.setFeeder f { x with upCount := { x.upCount with runt := x.upCount.runt + 1 } }) ∧
    (64 ≤ bytes.length → (r.feeder ≠ f ∨ r.drop ≠ d ∨ r.lane ≠ lane) → frameComplete f d lane flow bytes s =
      s.setFeeder f { x with upCount := { x.upCount with misrouted := x.upCount.misrouted + 1 } }) ∧
    (64 ≤ bytes.length → r.feeder = f → r.drop = d → r.lane = lane →
      (s.uplink.traffic.length < 1000 → frameComplete f d lane flow bytes s = meterFrame true f d bytes.length
        { s with uplink := { s.uplink with traffic := s.uplink.traffic ++ [⟨r.tag, bytes⟩] } }) ∧
      (1000 ≤ s.uplink.traffic.length → frameComplete f d lane flow bytes s =
        s.setFeeder f { x with upCount := { x.upCount with uplinkFull := x.upCount.uplinkFull + 1 } })))

/-- RANGING_WINDOW_RESOLVED for a RANGING drop: a range reply gives RTD = B + TD − 32 × S_r, with RTD above TD the
drop leaves OUT_OF_REACH with a REMOVE order, and otherwise RTD, held at 0 from below, and EQD = TD − RTD are ordered
by an EQUALISE and the phase is EQUALISING; a failed try counts unless the feeder is ISOLATING or STUCK, and the third
makes the drop leave RANGE_FAIL with a REMOVE order (R98, R100, R101); the window takes its one outcome, counted under
R64, and the symptom goes to the Light Monitor last (R60, R62, R63). An order waits behind a pending one as the
following order (R76). The window of a drop no longer RANGING is EXCUSED: its record does not move, and light found in
it is kept for the judgement (R49, R63, R64). A window whose burst is still being read resolves as with that burst
garbled and the reader IDLE (R54). DISCOVERY_WINDOW_RESOLVED sets the window resolved and hands nothing on (R61); a
reply still being read is abandoned, the reader IDLE and the reply counted as garbled (R54; that count is log 27); in
a DRAINING slot whose other windows are resolved it completes the slot, and else the slot drains on (R44, R45). -/
def Obligations.RangingResolutionFixesTheDelay : Prop :=
  (∀ (f : FeederId) (n : CycleNo) (d w delay : Nat) (g : Found) (sl : Slot) (s : State) (ordered : OrderKind → State → Prop),
    (∀ k t, ordered k t ↔
      (t.drop f d).pending.map PendingOrder.kind = some (((s.drop f d).pending.map PendingOrder.kind).getD k) ∧
      (t.drop f d).following = if (s.drop f d).pending = none then (s.drop f d).following else some k) →
    s.resetHeld = false → (s.feeder f).slotOf n = some sl → sl.state = .receiving →
    sl.window (.ranging d) = some ⟨.ranging d w delay, g, .unresolved⟩ →
    (s.feeder f).reader.serving ≠ some (n, .ranging d) → 1 ≤ d → d ≤ 64 → (s.drop f d).state = .ranging →
    (s.drop f d).rangeTries < 3 →
    ∃ t, exec (.rangingWindowResolved f n d) s = .next t ∧ (t.drop f d).inFlight = none ∧
      (∀ (r : Reading) (iw : RangingWindow) (rtd : Int) (td : Nat), g = .received r → (s.drop f d).inFlight = some iw →
        td = (s.feeder f).settings.td → rtd = r.arrival + td - 32 * iw.delay →
        (td < rtd → (t.drop f d).state = .leaving ∧ (t.drop f d).leave = some .outOfReach ∧
          (t.drop f d).rtd = (s.drop f d).rtd ∧ ordered .remove t) ∧
        (rtd ≤ td → (t.drop f d).state = .ranging ∧ (t.drop f d).phase = some .equalising ∧
          ((t.drop f d).rtd : Int) = max 0 rtd ∧ (t.drop f d).rtd + (t.drop f d).eqd = td ∧
          (t.drop f d).correctionPending = true ∧ (t.drop f d).equaliseCycle = none ∧ ordered .equalise t)) ∧
      ((∀ r : Reading, g ≠ .received r) →
        ((s.feeder f).frozen = true → (t.drop f d).state = .ranging ∧
          (t.drop f d).rangeTries = (s.drop f d).rangeTries ∧ (t.drop f d).phase = (s.drop f d).phase) ∧
        ((s.feeder f).frozen = false → (s.drop f d).rangeTries < 2 → (t.drop f d).state = .ranging ∧
          (t.drop f d).rangeTries = (s.drop f d).rangeTries + 1 ∧ (t.drop f d).phase = (s.drop f d).phase) ∧
        ((s.feeder f).frozen = false → (s.drop f d).rangeTries = 2 → (t.drop f d).state = .leaving ∧
          (t.drop f d).leave = some .rangeFail ∧ ordered .remove t)) ∧
      (∀ res : Resolution, (res = match g with
          | .nothing => .missing
          | .mislabelled _ => .mislabelled
          | .received _ => .received
          | _ => .garbled) →
        ∃ v : State, (v.feeder f).slotOf n = some (sl.onWindow (.ranging d) fun y => { y with resolution := res }) ∧
          (∀ m, m ≠ n → (v.feeder f).slotOf m = (s.feeder f).slotOf m) ∧
          (v.feeder f).receptionCount = { (s.feeder f).receptionCount with
            received := (s.feeder f).receptionCount.received + (if res = .received then 1 else 0)
            missing := (s.feeder f).receptionCount.missing + (if res = .missing then 1 else 0)
            garbledSpan := (s.feeder f).receptionCount.garbledSpan +
              (if res = .garbled ∧ g ≠ .garbledLabel ∧ g ≠ .garbledEnd then 1 else 0)
            garbledLabel := (s.feeder f).receptionCount.garbledLabel +
              (if res = .garbled ∧ g = .garbledLabel then 1 else 0)
            garbledEnd := (s.feeder f).receptionCount.garbledEnd + (if res = .garbled ∧ g = .garbledEnd then 1 else 0)
            mislabelled := (s.feeder f).receptionCount.mislabelled + (if res = .mislabelled then 1 else 0) } ∧
          ((s.feeder f).isolation.kind = none →
            v = s.setFeeder f { s.feeder f with
              drops := (v.feeder f).drops, replies := (v.feeder f).replies, orderQueue := (v.feeder f).orderQueue
              ring := (v.feeder f).ring, receptionCount := (v.feeder f).receptionCount } ∧
            ∀ k, k ≠ d → v.drop f k = { s.drop f k with pending := (v.drop f k).pending } ∧
              (v.drop f k).pending.map PendingOrder.kind = (s.drop f k).pending.map PendingOrder.kind) ∧
          (res = .missing ∨ res = .received → t = arbitrate v) ∧ (res = .garbled → t = arbitrate (takeGarble f d v)) ∧
          (∀ named, g = .mislabelled named → t = arbitrate (takeMislabel f named v)))) ∧
  (∀ (f : FeederId) (n : CycleNo) (d w delay : Nat) (g : Found) (sl : Slot) (s : State),
    s.resetHeld = false → (s.feeder f).slotOf n = some sl → sl.state ≠ .waiting →
    sl.window (.ranging d) = some ⟨.ranging d w delay, g, .unresolved⟩ →
    (s.feeder f).reader.serving = some (n, .ranging d) →
    exec (.rangingWindowResolved f n d) s = exec (.rangingWindowResolved f n d)
      (s.setFeeder f (({ s.feeder f with reader := .idle }).setSlot n
        (some (sl.onWindow (.ranging d) fun v => { v with found := .garbledSpan }))))) ∧
  (∀ (f : FeederId) (n : CycleNo) (w len delay : Nat) (g : Found) (sl : Slot) (s : State),
    s.resetHeld = false → (s.feeder f).slotOf n = some sl → sl.state ≠ .waiting →
    sl.window .discovery = some ⟨.discovery w len delay, g, .unresolved⟩ →
    (s.feeder f).reader.serving = some (n, .discovery) →
    exec (.discoveryWindowResolved f n) s = exec (.discoveryWindowResolved f n) (s.setFeeder f { s.feeder f with
      reader := .idle
      receptionCount := { (s.feeder f).receptionCount with
        repliesGarbled := (s.feeder f).receptionCount.repliesGarbled + 1 } })) ∧
  (∀ (f : FeederId) (n : CycleNo) (d w delay : Nat) (g : Found) (sl : Slot) (s : State),
    s.resetHeld = false → (s.feeder f).slotOf n = some sl → sl.state = .receiving →
    sl.window (.ranging d) = some ⟨.ranging d w delay, g, .unresolved⟩ →
    (s.feeder f).reader.serving ≠ some (n, .ranging d) → (s.drop f d).state ≠ .ranging →
    ∃ t sl', exec (.rangingWindowResolved f n d) s = .next (arbitrate t) ∧ (t.feeder f).slotOf n = some sl' ∧
      sl'.window (.ranging d) = some ⟨.ranging d w delay, g, .excused⟩ ∧
      sl'.light = { sl.light with strays := sl.light.strays ++ (if g = .nothing then [] else [.ranging d]) } ∧
      t = s.setFeeder f { s.feeder f with ring := (t.feeder f).ring, receptionCount :=
        { (s.feeder f).receptionCount with excused := (s.feeder f).receptionCount.excused + 1 } }) ∧
  (∀ (f : FeederId) (n : CycleNo) (w len delay : Nat) (g : Found) (sl : Slot) (s : State),
    s.resetHeld = false → (s.feeder f).slotOf n = some sl → sl.state = .receiving →
    sl.window .discovery = some ⟨.discovery w len delay, g, .unresolved⟩ →
    (s.feeder f).reader.serving ≠ some (n, .discovery) →
    ∃ t, exec (.discoveryWindowResolved f n) s = .next (arbitrate t) ∧
      t = s.setFeeder f { s.feeder f with ring := (t.feeder f).ring } ∧
      ∃ sl', (t.feeder f).slotOf n = some sl' ∧
        sl'.window .discovery = some ⟨.discovery w len delay, g, .resolved⟩) ∧
  (∀ (f : FeederId) (n : CycleNo) (w len delay : Nat) (g : Found) (sl sl' : Slot) (s : State),
    s.resetHeld = false → (s.feeder f).slotOf n = some sl → sl.state = .draining →
    sl.window .discovery = some ⟨.discovery w len delay, g, .unresolved⟩ →
    (s.feeder f).reader.serving ≠ some (n, .discovery) →
    sl' = sl.onWindow .discovery (fun v => { v with resolution := .resolved }) →
    (sl'.allResolved = true → exec (.discoveryWindowResolved f n) s =
      .next (arbitrate (complete f sl' (s.setFeeder f ((s.feeder f).setSlot n (some sl')))))) ∧
    (sl'.allResolved = false → exec (.discoveryWindowResolved f n) s =
      .next (arbitrate (s.setFeeder f ((s.feeder f).setSlot n (some sl'))))))

/-! ## Light -/

/-- STUCK_ONSET on filtered light of a measured run: its words join the light record of the cycle under way, and the
run grows by them; where it comes to STUCK_LIMIT × 25,000 words with the flag clear, the flag becomes active with the
cycle under way as its onset, that cycle bears STUCK and no other does, the onset is counted, and CLEAR or WATCH
becomes ALERT with one ROGUE_ALERT notice while any other rogue state stays. Light that FILTER has not passed yet only
waits while it is shorter than FILTER; once it is not, its words count from its first on, in the cycle before too:
they join the light record, and they go on with the measured run over a dark gap below 8 words or begin one (R121,
R123). STUCK_CLEAR: a dark run of 8 words, light too short for FILTER counted as dark, ends the measured run, one of
16 clears the flag, a shorter one does neither (R121, R123, R130). Words beyond the end of the cycle are cut, and a
run goes on from a cycle into the next (R123). That the light comes as one run of words with each of the two commands
is the model's choice (log 17), and so are that a first run needs no dark run of 8 words before it (log 18) and that a
run not yet passed is judged whole by the FILTER that stands now (log 53) and that light too short for FILTER joins
the dark run at the dark word after it (log 70); the onset of a run that passes FILTER late is counted back (log 19).
-/
def Obligations.StuckNeedsALongRun : Prop :=
  (∀ (f : FeederId) (words : Nat) (onset : Bool) (s : State) (x : Feeder), s.resetHeld = false → x = s.feeder f →
    x.detector.looking = true → x.detector.inCycle = true → x.detector.passed = true → 1 ≤ words →
    x.detector.pos + words ≤ 25000 → (x.stuck = none → x.detector.measured < 25000 * x.settings.stuckLimit) →
    (onset = true ↔ x.stuck = none ∧ 25000 * x.settings.stuckLimit ≤ x.detector.measured + words) →
    ∃ t, exec (.stuckOnset f words) s = .next t ∧
      t = { s.setFeeder f { x with
        detector := { x.detector with
          raw := x.detector.raw + words, pos := x.detector.pos + words, measured := x.detector.measured + words }
        ring := (t.feeder f).ring
        stuck := if onset then some x.detector.cycle else x.stuck
        rogue := if onset = true ∧ (x.rogue = .clear ∨ x.rogue = .watch) then .alert else x.rogue
        lightCount := { x.lightCount with
          stuckOnsets := x.lightCount.stuckOnsets + if onset then 1 else 0 } } with agent := t.agent } ∧
      (∀ m, m ≠ x.detector.cycle → (t.feeder f).slotOf m = x.slotOf m) ∧
      (t.feeder f).slotOf x.detector.cycle = (x.slotOf x.detector.cycle).map (fun sl => { sl with light := { sl.light with
        lit := sl.light.lit ++ [(x.detector.pos, words)]
        stuck := sl.light.stuck || (onset && decide (sl.state ≠ .waiting)) } }) ∧
      t.agent = if onset = true ∧ (x.rogue = .clear ∨ x.rogue = .watch)
        then (notify (.rogueAlert f .stuck) s).agent else s.agent) ∧
  (∀ (f : FeederId) (words : Nat) (s : State), s.resetHeld = false →
    (s.feeder f).detector.inCycle = true → (s.feeder f).detector.passed = true → 1 ≤ words →
    (s.feeder f).detector.pos + words ≤ 25000 →
    ∃ t, exec (.stuckClear f words) s = .next t ∧
      (t.feeder f).detector.measured = (if 8 ≤ words then 0 else (s.feeder f).detector.measured) ∧
      t = s.setFeeder f { s.feeder f with
        detector := (t.feeder f).detector
        stuck := if 16 ≤ words then none else (s.feeder f).stuck }) ∧
  (∀ (f : FeederId) (words run pos : Nat) (s : State) (x : Feeder), s.resetHeld = false → x = s.feeder f →
    x.detector.inCycle = true → x.detector.passed = false → 1 ≤ words → pos = x.detector.pos + words → pos ≤ 25000 →
    (run = x.detector.dark + x.detector.raw + words → exec (.stuckClear f words) s = .next (s.setFeeder f { x with
      detector := { x.detector with raw := 0, pos := pos, dark := min run 16
                                    measured := if 8 ≤ run then 0 else x.detector.measured }
      stuck := if 16 ≤ run then none else x.stuck })) ∧
    (run = x.detector.raw + words → x.detector.looking = true →
      (x.stuck = none → x.detector.measured < 25000 * x.settings.stuckLimit) →
      (run < x.settings.filter → exec (.stuckOnset f words) s = .next (s.setFeeder f { x with
        detector := { x.detector with raw := run, pos := pos } })) ∧
      (x.settings.filter ≤ run → ∃ t, exec (.stuckOnset f words) s = .next t ∧
        (∀ (measured back : Nat) (onset : Bool) (c : CycleNo),
          measured = (if x.detector.measured = 0 ∨ 8 ≤ x.detector.dark then run
            else x.detector.measured + x.detector.dark + run) →
          (onset = true ↔ x.stuck = none ∧ 25000 * x.settings.stuckLimit ≤ measured) →
          back = measured - 25000 * x.settings.stuckLimit →
          c = (if back < pos then x.detector.cycle
            else x.detector.cycle - BitVec.ofNat 32 ((back - pos) / 25000 + 1)) →
          t = { s.setFeeder f { x with
            detector := { x.detector with raw := run, passed := true, pos := pos, dark := 0, measured := measured }
            ring := (t.feeder f).ring
            stuck := if onset then some c else x.stuck
            rogue := if onset = true ∧ (x.rogue = .clear ∨ x.rogue = .watch) then .alert else x.rogue
            lightCount := { x.lightCount with
              stuckOnsets := x.lightCount.stuckOnsets + if onset then 1 else 0 } } with agent := t.agent } ∧
          t.agent = (if onset = true ∧ (x.rogue = .clear ∨ x.rogue = .watch)
            then (notify (.rogueAlert f .stuck) s).agent else s.agent) ∧
          ∀ m, (t.feeder f).slotOf m = (x.slotOf m).map (fun sl => { sl with light := { sl.light with
            lit := sl.light.lit ++
              (if m = x.detector.cycle then
                [(x.detector.pos - x.detector.raw, words + min x.detector.raw x.detector.pos)] else []) ++
              (if m = x.detector.cycle - 1 ∧ x.detector.pos < x.detector.raw then
                [(25000 - (x.detector.raw - x.detector.pos), x.detector.raw - x.detector.pos)] else [])
            stuck := sl.light.stuck || (onset && decide (sl.state ≠ .waiting ∧ (m - c).toNat < 2 ^ 31 ∧
              (x.detector.cycle - m).toNat < 2 ^ 31)) } }))))) ∧
  (∀ (f : FeederId) (words : Nat) (s : State), 25000 < (s.feeder f).detector.pos + words →
    exec (.stuckOnset f words) s = exec (.stuckOnset f (25000 - (s.feeder f).detector.pos)) s ∧
    exec (.stuckClear f words) s = exec (.stuckClear f (25000 - (s.feeder f).detector.pos)) s) ∧
  (∀ (f : FeederId) (n : CycleNo) (light : List LightRun) (s : State), s.resetHeld = false →
    (s.feeder f).detector.pos = 25000 → ∃ t, exec (.upstreamCycleEnd f n light) s = .next t ∧
      (t.feeder f).detector.raw = (s.feeder f).detector.raw ∧
      (t.feeder f).detector.passed = (s.feeder f).detector.passed ∧
      (t.feeder f).detector.dark = (s.feeder f).detector.dark ∧
      (t.feeder f).detector.measured = (s.feeder f).detector.measured) ∧
  (∀ (f : FeederId) (n : CycleNo) (sl : Slot) (s : State), s.resetHeld = false →
    (s.feeder f).slotOf n = some sl → sl.state = .waiting → (s.feeder f).detector.inCycle = false →
    ∃ t, exec (.upstreamCycleBegin f n) s = .next t ∧ (t.feeder f).detector = { (s.feeder f).detector with
      looking := true, inCycle := true, cycle := n, pos := 0 })

/-- The judgement of a cycle's whole light record: one DARK_LIGHT for light in the dark slot, one STRAY for light that
is neither in the dark slot nor in or within 8 words of a window, and one STRAY for each EXCUSED window that held
light or whose resolution carried one; a cycle bears a symptom by any of these or by STUCK active in part of it (R122,
R123, R124). During an isolation it serves the observation (R135). Otherwise the symptom record and the rogue state
move: a cycle that bore one ends the quiet, joins the recent list without the entries 64 or more cycles old, takes
CLEAR to WATCH and WATCH to ALERT, with one ROGUE_ALERT, at ALERT_LIMIT entries; a quiet one takes WATCH to CLEAR at
64 and ALERT or UNATTRIBUTED to CLEAR at 4,000 with one ROGUE_CLEARED, the quiet count stopping there, and the recent
list emptied on entry to CLEAR (R128, R129). That a quiet count which stands at 4,000 already reaches 4,000, so that
an ALERT or UNATTRIBUTED feeder that holds it goes CLEAR at its next quiet cycle, is the model's choice (log 57). -/
def Obligations.LightIsJudgedOnce : Prop :=
  (∀ (f : FeederId) (sl : Slot) (s y : State) (dk : Nat) (lit : Nat → Bool) (dark open1 bore : Bool) (excused : Window → Bool)
    (strays : Nat), dk = (s.feeder f).settings.dk → (∀ r ∈ sl.light.lit, r.1 + r.2 ≤ 25000) →
    (∀ p, lit p = true ↔ ∃ r ∈ sl.light.lit, r.1 ≤ p ∧ p < r.1 + r.2) →
    (dark = true ↔ ∃ p, lit p = true ∧ 25000 - dk ≤ p) →
    (open1 = true ↔ ∃ p, lit p = true ∧ p < 25000 - dk ∧ ∀ v ∈ sl.windows, v.entry.windowId ≠ none →
      p + 8 < v.entry.start ∨ v.entry.start + v.entry.len + 8 ≤ p) →
    (∀ v, excused v = true ↔ v.resolution = .excused ∧
      ((∃ p, lit p = true ∧ v.entry.start ≤ p ∧ p < v.entry.start + v.entry.len) ∨
        ∃ i ∈ sl.light.strays, v.entry.windowId = some i)) →
    strays = (if open1 then 1 else 0) + (sl.windows.filter excused).length →
    (bore = true ↔ dark = true ∨ 0 < strays ∨ sl.light.stuck = true ∨
      ∃ c, (s.feeder f).stuck = some c ∧ (sl.cycle - c).toNat < 2 ^ 31) →
    y = s.setFeeder f { s.feeder f with lightCount := { (s.feeder f).lightCount with
      darkLight := (s.feeder f).lightCount.darkLight + (if dark then 1 else 0)
      stray := (s.feeder f).lightCount.stray + BitVec.ofNat 32 strays } } →
    ((s.feeder f).rogue = .isolating → judgeLight f sl s = observeCycle f sl.cycle bore y) ∧
    ((s.feeder f).rogue ≠ .isolating → judgeLight f sl s = updateRogue f sl.cycle bore y)) ∧
  (∀ (f : FeederId) (n : CycleNo) (s : State) (x : Feeder) (kept : List CycleNo), x = s.feeder f →
    kept = x.recent.filter (fun m => decide ((n - m).toNat < 64)) →
    (∀ alert : Bool, (alert = true ↔ (x.rogue = .clear ∨ x.rogue = .watch) ∧ x.settings.alertLimit ≤ kept.length + 1) →
      ∃ t, updateRogue f n true s = t ∧ t = { s.setFeeder f { x with
          quiet := 0, recent := kept ++ [n]
          rogue := if alert then .alert else if x.rogue = .clear then .watch else x.rogue } with agent := t.agent } ∧
        t.agent = if alert then (notify (.rogueAlert f .symptoms) s).agent else s.agent) ∧
    (∀ (quiet : Nat) (clears : Bool), quiet = min (x.quiet + 1) 4000 →
      (clears = true ↔ (x.rogue = .watch ∧ 64 ≤ quiet) ∨
        ((x.rogue = .alert ∨ x.rogue = .unattributed) ∧ 4000 ≤ quiet)) →
      ∃ t, updateRogue f n false s = t ∧ t = { s.setFeeder f { x with
          quiet := quiet, recent := if clears then [] else kept
          rogue := if clears then .clear else x.rogue } with agent := t.agent } ∧
        t.agent = if clears = true ∧ x.rogue ≠ .watch then (notify (.rogueCleared f) s).agent else s.agent))

/-- Strikes: a GARBLE scores 1 to its window's owner and a MISLABEL 4 to the index it names, if that is 1 to 64 and
the record not EMPTY, the count stopping at 15; a strike that takes a count from below STRIKE_LIMIT to it or above is
counted, and begins a targeted isolation at once where the rogue state is CLEAR or WATCH, AUTO_ISOLATE ON and the drop
shining, and otherwise asks for one ROGUE_ALERT; nothing else changes (R124, R125, R127, R131). A LEAVING
record keeps its count as it stood (R113, R125, read as the exception to R125's any non-EMPTY state: log 52). At a
cycle start an ALERT feeder with AUTO_ISOLATE ON begins a full isolation of its shining drops in ascending index
(R131). -/
def Obligations.StrikesAndAlertsBeginIsolations : Prop :=
  (∀ (f : FeederId) (d k : Nat) (s t : State) (c : LightCounters) (x : Feeder), x = s.feeder f →
    (k = 1 ∧ t = takeGarble f d s ∧ c = { x.lightCount with garble := x.lightCount.garble + 1 }) ∨
      (k = 4 ∧ 1 ≤ d ∧ d ≤ 64 ∧ t = takeMislabel f d s ∧ c = { x.lightCount with mislabel := x.lightCount.mislabel + 1 }) →
    (x.running = false ∨ (x.drop d).state = .empty ∨ (x.drop d).state = .leaving →
      t = s.setFeeder f { x with lightCount := c }) ∧
    (∀ (count : Nat) (limit : Bool), x.running = true → (x.drop d).state ≠ .empty →
      (x.drop d).state ≠ .leaving → count = min ((x.drop d).strikes + k) 15 →
      (limit = true ↔ (x.drop d).strikes < x.settings.strikeLimit ∧ x.settings.strikeLimit ≤ count) →
      ∃ z, z.drop f d = { x.drop d with strikes := count } ∧ (∀ j, j ≠ d → z.drop f j = x.drop j) ∧
        z = s.setFeeder f { x with drops := (z.feeder f).drops, lightCount := { c with
          strikeLimits := c.strikeLimits + (if limit then 1 else 0) } } ∧
        (limit = false → t = z) ∧
        (limit = true →
          ((x.rogue = .clear ∨ x.rogue = .watch) → x.settings.autoIsolate = true →
            (x.drop d).state = .active ∨ (x.drop d).state = .dozing ∨ (x.drop d).state = .silent →
            t = beginIsolation f .targeted [d] z) ∧
          ((x.rogue ≠ .clear ∧ x.rogue ≠ .watch) ∨ x.settings.autoIsolate = false ∨
            ((x.drop d).state ≠ .active ∧ (x.drop d).state ≠ .dozing ∧ (x.drop d).state ≠ .silent) →
            t = notify (.rogueAlert f (.strikes d count)) z)))) ∧
  (∀ (f : FeederId) (named : Nat) (s : State), named = 0 ∨ 64 < named →
    takeMislabel f named s = s.setFeeder f { s.feeder f with lightCount :=
      { (s.feeder f).lightCount with mislabel := (s.feeder f).lightCount.mislabel + 1 } }) ∧
  (∀ (f : FeederId) (n : CycleNo) (s : State), runWork n s (.autoIsolate f) =
    if (s.feeder f).running = true ∧ (s.feeder f).rogue = .alert ∧ (s.feeder f).settings.autoIsolate = true
      then beginIsolation f .full (dropIndices.filter fun d => (s.drop f d).state.shining) s else s)

/-- The steps of an isolation. A step with suspects darkens the first half of two or more, or the one for the confirm
step: each such drop that is shining becomes DARKENED with cause ISOLATION and has a DARKEN order, pending or
following, and is awaited (R118, R134, R137). A report moves the step only for an awaited drop in its phase: the last
awaited DARKEN begins the observation of OBSERVE cycles from the cycle after it, the last RELIGHT the next step, a
DISABLE the end with QUARANTINE (R134 to R137); under a held ending an awaited RELIGHT's drop leaves the awaited and
no step begins (log 63). Only cycles from observe start to observe end, without a held ending,
count; a symptom sets fault seen (R135, R139). At the end of a halving step's observation the suspects become the
other half or the tested one, and the tested drops still darkened are relit with RELIGHT orders and WAITING marks and
awaited; with none to relight the next step begins at once (R118, R136). A step that begins without a suspect ends the
isolation UNATTRIBUTED (R131; log 22); the mark of the confirm step is log 38. That a next step keeps the last darken
cycle and the observe start and end of the step before until it sets them is the model's choice (log 66). -/
def Obligations.IsolationStepsGoOn : Prop :=
  (∀ (f : FeederId) (s : State), (s.feeder f).isolation.suspects = [] → beginStep f s = reachEnd f .unattributed s) ∧
  (∀ (f : FeederId) (s : State) (i : Isolation) (half : List Nat), i = (s.feeder f).isolation → i.suspects ≠ [] →
    half = i.suspects.take ((i.suspects.length + 1) / 2) →
    ∃ t, beginStep f s = t ∧ t = s.setFeeder f (t.feeder f) ∧
      (t.feeder f).isolation = { i with
        test := half, awaited := half, phase := some .darkening, confirmStep := decide (i.suspects.length = 1) } ∧
      (∀ d, d ∈ half → (s.drop f d).state.shining = true →
        t.drop f d = { s.drop f d with
          state := .darkened, resume := some (s.drop f d).state, cause := some .isolation, pending := (t.drop f d).pending
          following := if (s.drop f d).pending = none then (s.drop f d).following else some .darken } ∧
        (t.drop f d).pending.map PendingOrder.kind =
          some (((s.drop f d).pending.map PendingOrder.kind).getD .darken)) ∧
      (∀ d, d ∉ half ∨ (s.drop f d).state.shining = false →
        t.drop f d = { s.drop f d with pending := (t.drop f d).pending })) ∧
  (∀ (f : FeederId) (d : Nat) (m : CycleNo) (s : State) (x : Feeder) (i : Isolation) (rest : List Nat), x = s.feeder f →
    i = x.isolation → rest = i.awaited.filter (fun k => decide (k ≠ d)) →
    (∀ k, d ∉ i.awaited ∨ (i.ending ≠ none ∧ (k ≠ .relight ∨ i.phase ≠ some .relighting)) →
      isolationReport f d k m s = s) ∧
    (i.ending ≠ none → d ∈ i.awaited → i.phase = some .relighting →
      isolationReport f d .relight m s = s.setFeeder f { x with isolation := { i with awaited := rest } }) ∧
    (i.ending = none → d ∈ i.awaited →
      (i.phase = some .darkening → isolationReport f d .darken m s = s.setFeeder f { x with isolation :=
        if rest = [] then { i with
          awaited := [], lastDarken := m, observeStart := m + 1
          observeEnd := m + 1 + BitVec.ofNat 32 x.settings.observe - 1, faultSeen := false
          phase := some (if i.confirmStep then .confirming else .observing) }
        else { i with awaited := rest, lastDarken := m } }) ∧
      (i.phase = some .relighting →
        (rest ≠ [] → isolationReport f d .relight m s =
          s.setFeeder f { x with isolation := { i with awaited := rest } }) ∧
        (rest = [] → isolationReport f d .relight m s = beginStep f (s.setFeeder f { x with isolation :=
          { i with awaited := [], test := [], step := i.step + 1 } }))) ∧
      (i.phase = some .confirming → isolationReport f d .disable m s =
        reachEnd f .quarantine (s.setFeeder f { x with isolation := { i with awaited := rest } })))) ∧
  (∀ (f : FeederId) (n : CycleNo) (bore fault inside : Bool) (s : State) (x : Feeder) (i : Isolation), x = s.feeder f →
    i = x.isolation → fault = (i.faultSeen || bore) →
    (inside = true ↔ (i.phase = some .observing ∨ i.phase = some .confirming) ∧ i.ending = none ∧
      (n - i.observeStart).toNat < 2 ^ 31 ∧ (i.observeEnd - n).toNat < 2 ^ 31) →
    (inside = false → observeCycle f n bore s = s) ∧
    (inside = true → n ≠ i.observeEnd → observeCycle f n bore s =
      s.setFeeder f { x with isolation := { i with faultSeen := fault } }) ∧
    (∀ relit : List Nat, inside = true → n = i.observeEnd → i.phase = some .observing →
      relit = i.test.filter (fun d => decide ((s.drop f d).state = .darkened ∧ (s.drop f d).cause = some .isolation)) →
      ∃ y, y = s.setFeeder f (y.feeder f) ∧
        (y.feeder f).isolation = { i with
          faultSeen := fault, awaited := relit, phase := some .relighting
          suspects := if fault then i.suspects.filter (fun d => decide (d ∉ i.test)) else i.test } ∧
        (∀ d, d ∈ relit → ∃ back, back = (s.drop f d).resume.getD .active ∧
          y.drop f d = { s.drop f d with
            state := back, resume := none, cause := none, idle := if back = .active then 0 else (s.drop f d).idle
            pending := (y.drop f d).pending
            following := if (s.drop f d).pending = none then (s.drop f d).following else some .relight } ∧
          (y.drop f d).pending.map PendingOrder.kind =
            some (((s.drop f d).pending.map PendingOrder.kind).getD .relight) ∧
          (y.feeder f).mark d = some .waiting) ∧
        (∀ d, d ∉ relit → y.drop f d = { s.drop f d with pending := (y.drop f d).pending } ∧
          (y.feeder f).mark d = x.mark d) ∧
        (relit ≠ [] → observeCycle f n bore s = y) ∧
        (relit = [] → observeCycle f n bore s = beginStep f (y.setFeeder f { y.feeder f with isolation :=
          { (y.feeder f).isolation with awaited := [], test := [], step := i.step + 1 } }))))

/-- The end of an isolation. The confirm step's observation ends with the drop relit and the outcome UNATTRIBUTED
where a fault was seen, and otherwise with the drop QUARANTINED and no longer a suspect, its DISABLE ordered and
awaited, the quarantine counted and one ROGUE_FOUND (R118, R137, R138; that it stays the test half is log 23). An end
is held while a departed record is not EMPTY; ending sets the rogue state, clears the isolation record, the recent
list and the quiet count, and UNATTRIBUTED is counted and told by one ROGUE_UNATTRIBUTED (R139; the numbers of the
cleared record are log 24). A drop that enters LEAVING, or whose record becomes EMPTY, leaves the suspects, the test
half and the awaited; one darkened by the isolation joins the departed until EMPTY; then the step goes on as its phase
requires, without suspects to the end UNATTRIBUTED (R138); the DROP_REMOVED of a freed record is asked for after what
its departure asks for (log 69); a next step keeps the last darken cycle and the observe start and end of the step
before until it sets them (log 66). -/
def Obligations.IsolationConfirmsAndEnds : Prop :=
  (∀ (f : FeederId) (n : CycleNo) (bore : Bool) (s : State) (x : Feeder) (i : Isolation) (d : Nat) (others : List Nat),
    x = s.feeder f → i = x.isolation → i.phase = some .confirming → i.ending = none →
    (n - i.observeStart).toNat < 2 ^ 31 → n = i.observeEnd → i.suspects = d :: others →
    (s.drop f d).state = .darkened → (s.drop f d).cause = some .isolation →
    ((i.faultSeen || bore) = true → ∃ y back, observeCycle f n bore s = reachEnd f .unattributed y ∧
      back = (s.drop f d).resume.getD .active ∧ y = s.setFeeder f (y.feeder f) ∧
      (y.feeder f).isolation = { i with faultSeen := true } ∧ (y.feeder f).mark d = some .waiting ∧
      y.drop f d = { s.drop f d with
        state := back, resume := none, cause := none, idle := if back = .active then 0 else (s.drop f d).idle
        pending := (y.drop f d).pending
        following := if (s.drop f d).pending = none then (s.drop f d).following else some .relight } ∧
      (y.drop f d).pending.map PendingOrder.kind = some (((s.drop f d).pending.map PendingOrder.kind).getD .relight)) ∧
    ((i.faultSeen || bore) = false → ∃ y,
      observeCycle f n bore s = notify (.rogueFound f d (s.drop f d).tag (s.drop f d).account i.step) y ∧
      y = s.setFeeder f (y.feeder f) ∧ (y.feeder f).isolation = { i with
        suspects := i.suspects.filter (fun k => decide (k ≠ d)), awaited := insertAsc d i.awaited } ∧
      (y.feeder f).rogue = x.rogue ∧
      (y.feeder f).lightCount = { x.lightCount with quarantines := x.lightCount.quarantines + 1 } ∧
      y.drop f d = { s.drop f d with
        state := .quarantined, resume := none, cause := none, pending := (y.drop f d).pending
        following := if (s.drop f d).pending = none then (s.drop f d).following else some .disable } ∧
      (y.drop f d).pending.map PendingOrder.kind =
        some (((s.drop f d).pending.map PendingOrder.kind).getD .disable))) ∧
  (∀ (f : FeederId) (s : State) (x : Feeder) (e : IsolationEnding), x = s.feeder f →
    (x.isolation.departed ≠ [] → reachEnd f e s =
      s.setFeeder f { x with isolation := { x.isolation with ending := some e } }) ∧
    (x.isolation.departed = [] →
      reachEnd f .quarantine s = s.setFeeder f { x with
        rogue := .clear, isolation := Isolation.none, recent := [], quiet := 0 } ∧
      reachEnd f .unattributed s = notify (.rogueUnattributed f x.isolation.step) (s.setFeeder f { x with
        rogue := .unattributed, isolation := Isolation.none, recent := [], quiet := 0
        lightCount := { x.lightCount with unattributed := x.lightCount.unattributed + 1 } }))) ∧
  (∀ (f : FeederId) (d : Nat) (why : RemoveReason) (s : State), ∃ y z : State,
    (y.feeder f).isolation = (s.feeder f).isolation ∧ (z.feeder f).isolation = (s.feeder f).isolation ∧
    enterLeaving f d why s =
      departure f d (decide ((s.drop f d).state = .darkened ∧ (s.drop f d).cause = some .isolation)) false y ∧
    freeRecord f d why s =
      notify (.dropRemoved f d (s.drop f d).tag (s.drop f d).account why) (departure f d false true z)) ∧
  (∀ (f : FeederId) (d : Nat) (dark gone : Bool) (s y : State) (x : Feeder) (i j : Isolation) (gone' : List Nat)
    (without : List Nat → List Nat), x = s.feeder f → i = x.isolation →
    (∀ l, without l = l.filter fun k => decide (k ≠ d)) →
    gone' = (if gone then without i.departed else if dark then insertAsc d i.departed else i.departed) →
    j = (if d ∈ i.suspects then { i with
      departed := gone', suspects := without i.suspects, test := without i.test, awaited := without i.awaited }
      else { i with departed := gone' }) →
    y = s.setFeeder f { x with isolation := j } →
    (i.kind = none → departure f d dark gone s = s) ∧
    (i.kind ≠ none →
      (∀ e, i.ending = some e → departure f d dark gone s = if gone' = [] then reachEnd f e y else y) ∧
      (i.ending = none → d ∉ i.suspects → departure f d dark gone s = y) ∧
      (i.ending = none → d ∈ i.suspects →
        (j.suspects = [] → departure f d dark gone s = reachEnd f .unattributed y) ∧
        (j.suspects ≠ [] →
          ((i.phase = some .darkening ∧ j.test = []) ∨ (i.phase = some .observing ∧ j.test = []) ∨
              (i.phase = some .relighting ∧ j.awaited = []) →
            departure f d dark gone s = beginStep f (s.setFeeder f { x with isolation :=
              { j with step := j.step + 1, test := [], awaited := [] } })) ∧
          (i.phase = some .darkening → j.test ≠ [] → j.awaited = [] →
            departure f d dark gone s = s.setFeeder f { x with isolation := { j with
              observeStart := j.lastDarken + 1
              observeEnd := j.lastDarken + 1 + BitVec.ofNat 32 x.settings.observe - 1, faultSeen := false
              phase := some (if j.confirmStep then .confirming else .observing) } }) ∧
          ((i.phase = some .darkening ∧ j.test ≠ [] ∧ j.awaited ≠ []) ∨ (i.phase = some .observing ∧ j.test ≠ []) ∨
              (i.phase = some .relighting ∧ j.awaited ≠ []) ∨ i.phase = some .confirming ∨ i.phase = none →
            departure f d dark gone s = y)))))

/-! ## Grants and line orders -/

/-- A plan build's grants: a burst due under R26 is opened with its flag (where the capacity holds 64 mandatory
bursts; that the sum of a DOZING drop's test does not wrap is log 41); credit is bounded by the profile in force and,
for an ACTIVE drop, accrued, and falls by 256 for each word granted while outstanding rises by it; only enabled lanes
of ACTIVE drops with a profile in force are granted, within demand and at the minimum grant or the whole demand unless
FIXED; the words used stay within the capacity; and with no cut every FIXED lane has the whole words of its credit and
every ASSURED lane its candidate or nothing (R22, R25 to R31). Every lane considered, in the order FIXED, ASSURED,
SHARED, has exactly the grant that the room left by the lanes before it gives it, the candidate within that room where
it is issued; so a SHARED lane with room, demand and credit is granted; only once a SHARED lane in the visit has found
no room are it and those after it given nothing (R27, R29 to R32). A grant was cut exactly when the candidate of some
FIXED or ASSURED lane exceeded the room it found (R27, R34). A burst is open exactly for the drops due one and those
granted, once, with a flag exactly where it was due (R23, R26, R27), and the words used are their overheads and the
grants (R23). SHARED lanes are visited from the pointer on, around to it: where one is granted, each visited before it
had its whole candidate or nothing; and the pointer goes to the lane key after the last SHARED lane granted, or stays
(R32, R33). The profiles in force are any, with minimum grants of 1 at least (R16). -/
def Obligations.GrantsKeepToCreditDemandAndCapacity : Prop :=
  ∀ (capacity : Nat) (n : CycleNo) (force : Nat → Nat → Option Profile) (x : Feeder) (b : Build),
    (∀ d l p, force d l = some p → 1 ≤ p.minGrant) → b = buildGrants capacity n force x →
    b.used ≤ capacity ∧
    (3072 ≤ capacity → ∀ (d : Nat) (flag : BurstFlag), 1 ≤ d → d ≤ 64 →
      ((((x.drop d).state = .active ∧ flag = .poll ∧ x.settings.poll ≤ (n - (x.drop d).lastPlanned).toNat) ∨
        ((x.drop d).state = .dozing ∧ flag = .poll ∧ ((n.toNat + d) % x.settings.keepalive = 0 ∨
          x.settings.keepalive ≤ (n - (x.drop d).lastPlanned).toNat)) ∨
        ((x.drop d).state = .silent ∧ flag = .rouse ∧
          x.settings.rouseInterval ≤ (n - (x.drop d).lastPlanned).toNat)) ↔
       (d, some flag) ∈ b.opened)) ∧
    (b.opened.map Prod.fst).Nodup ∧
    (∀ d, b.isOpen d = b.openAfter (x.considered force) d) ∧
    b.used = b.usedAfter x (x.considered force) ∧
    (∀ (before after : List (Nat × Nat)) (k : Nat × Nat) (p : Profile) (ended : Prop),
      x.considered force = before ++ k :: after → force k.1 k.2 = some p →
      (ended ↔ p.cls = .shared ∧ ∃ (done rest : List (Nat × Nat)) (j : Nat × Nat), before ++ [k] = done ++ j :: rest ∧
        x.inClass force .shared j = true ∧ b.roomAfter capacity x done j = 0) →
      (ended → b.grantOf k.1 k.2 = 0) ∧
      (¬ ended → b.grantOf k.1 k.2 = x.grantIn p k (b.roomAfter capacity x before k))) ∧
    (b.cut = true ↔ ∃ (before after : List (Nat × Nat)) (k : Nat × Nat) (p : Profile),
      x.considered force = before ++ k :: after ∧ force k.1 k.2 = some p ∧ p.cls ≠ .shared ∧
      b.roomAfter capacity x before k < x.candidate p k) ∧
    (∀ (d l c q : Nat), 1 ≤ d → d ≤ 64 → l < 4 →
      c = (if l ∈ (x.drop d).enabledLanes then
          match force d l with
          | none => 0
          | some p => if (x.drop d).state = .active then min (256 * p.cap) (min (x.lane d l).credit (256 * p.cap) + p.rate)
              else min (x.lane d l).credit (256 * p.cap)
        else (x.lane d l).credit) →
      q = (x.lane d l).backlog - (x.lane d l).outstanding →
      (b.feeder.lane d l).credit + 256 * b.grantOf d l = c ∧
      (b.feeder.lane d l).outstanding = (x.lane d l).outstanding + b.grantOf d l ∧
      (b.feeder.lane d l).backlog = (x.lane d l).backlog ∧
      (b.feeder.lane d l).lastReport = (x.lane d l).lastReport ∧
      (b.grantOf d l ≠ 0 → (x.drop d).state = .active ∧ l ∈ (x.drop d).enabledLanes ∧
        ∃ p, force d l = some p ∧
          (p.cls = .fixed ∨ (b.grantOf d l ≤ q ∧ (p.minGrant ≤ b.grantOf d l ∨ b.grantOf d l = q)))) ∧
      (∀ p, b.cut = false → (x.drop d).state = .active → l ∈ (x.drop d).enabledLanes → force d l = some p →
        (p.cls = .fixed → b.grantOf d l = c / 256) ∧
        (p.cls = .assured → b.grantOf d l =
          if p.minGrant ≤ min q (c / 256) ∨ min q (c / 256) = q then min q (c / 256) else 0))) ∧
    (∀ (pos : Nat → Nat → Nat) (shared : Nat → Nat → Prop), 1 ≤ x.pointer.1 → x.pointer.1 ≤ 64 → x.pointer.2 < 4 →
      (∀ d l, pos d l = (4 * (d - 1) + l + 256 - (4 * (x.pointer.1 - 1) + x.pointer.2)) % 256) →
      (∀ d l, shared d l ↔ 1 ≤ d ∧ d ≤ 64 ∧ l < 4 ∧ b.grantOf d l ≠ 0 ∧ ∃ p, force d l = some p ∧ p.cls = .shared) →
      (∀ d l k j p c q, 1 ≤ d → d ≤ 64 → l < 4 → force d l = some p → p.cls = .shared → (x.drop d).state = .active →
        l ∈ (x.drop d).enabledLanes → shared k j → pos d l < pos k j →
        c = min (256 * p.cap) (min (x.lane d l).credit (256 * p.cap) + p.rate) →
        q = (x.lane d l).backlog - (x.lane d l).outstanding →
        b.grantOf d l = min q (c / 256) ∨ b.grantOf d l = 0) ∧
      ((∀ d l, ¬ shared d l) → b.feeder.pointer = x.pointer) ∧
      (∀ d l, shared d l → (∀ k j, shared k j → pos k j ≤ pos d l) →
        b.feeder.pointer = if l < 3 then (d, l + 1) else if d < 64 then (d + 1, 0) else (1, 0)))

/-- A filling of the line order queue places the HELD orders of the drop records in ascending index and then the HELD
DECLINEs in arrival order at the tail, as many as there is room for among 32 places, each with its field values; an
order or a DECLINE is QUEUED exactly when those before it leave it a place, and HELD otherwise, and nothing else
changes (R15, R77). -/
def Obligations.FillingPlacesOrdersInTheirOrder : Prop :=
  ∀ x : Feeder,
    x.fillOrders = { x with drops := x.fillOrders.drops, replies := x.fillOrders.replies,
                            orderQueue := x.fillOrders.orderQueue } ∧
    x.fillOrders.orderQueue = x.orderQueue ++ (
      (dropIndices.filterMap fun d => (match (x.drop d).pending with
        | some ⟨.assign, .held⟩ => some ⟨.assign, 0, (x.drop d).tag, d, .drop d (x.drop d).serial⟩
        | some ⟨.equalise, .held⟩ => some ⟨.equalise, d, 0, (x.drop d).eqd, .drop d (x.drop d).serial⟩
        | some ⟨k, .held⟩ => some ⟨k, d, 0, 0, .drop d (x.drop d).serial⟩
        | _ => none : Option LineOrder)) ++
      (x.replies.filterMap fun e => (match e.decline with
        | some (_, .held) => some ⟨.decline, 0, e.tag, x.settings.declineHold, .reply e.serial⟩
        | _ => none : Option LineOrder))).take (32 - x.orderQueue.length) ∧
    (∀ (d : Nat) (k : OrderKind), 1 ≤ d → d ≤ 64 → (x.drop d).pending = some ⟨k, .held⟩ →
      x.fillOrders.drop d = { x.drop d with pending := some ⟨k,
        if (dropIndices.filter fun e => decide (e < d) &&
            (x.drop e).pending.any fun p => decide (p.status = .held)).length < 32 - x.orderQueue.length
          then .queued else .held⟩ }) ∧
    (∀ d : Nat, ((x.drop d).pending = none ∨ ∃ k, (x.drop d).pending = some ⟨k, .queued⟩) →
      x.fillOrders.drop d = x.drop d) ∧
    x.fillOrders.replies.length = x.replies.length ∧
    ∀ (i : Nat) (e e' : ReplyEntry), x.replies[i]? = some e → x.fillOrders.replies[i]? = some e' →
      e' = { e with decline := e'.decline } ∧ e'.decline.map Prod.fst = e.decline.map Prod.fst ∧
      (∀ why, e.decline = some (why, .held) → e'.decline = some (why,
        if (dropIndices.filter fun d => (x.drop d).pending.any fun p => decide (p.status = .held)).length +
            ((x.replies.take i).filter fun y => y.decline.any fun o => decide (o.2 = .held)).length <
              32 - x.orderQueue.length then .queued else .held)) ∧
      ((∀ why, e.decline ≠ some (why, .held)) → e' = e)

/-! ## The traffic path and the Usage Meter -/

/-- UPLINK_FRAME_RECEIVED sends every frame one way: a failed check or fewer than 64 bytes is a receive error; the
management type goes to the agent whatever its bind state; any other frame outside BOUND is traffic not bound; another
untagged frame is untagged; a tagged one goes to the Flow Engine with its tag number and L. A management frame of the
bound controller that forms a request joins those that wait, and one that forms none is refused BAD_REQUEST, or
BAD_TABLE where it is a WRITE of table 0 or above 7 with its index (R141, R177, R178, R180, R187; that a request waits
for the command of its row is log 12, which of the two answers a WRITE gets log 15), each answer in its turn; with the
response hold full the frame is dropped and counted (R179; log 13, and log 67 for one that forms no request). A
management frame of another source in BOUND is counted as foreign. Outside BOUND a BIND joins those that wait, another
request is counted as not bound and a frame that forms none as malformed, each without a response (R177, R185). -/
def Obligations.ClassifierSendsEachFrameOneWay : Prop :=
  ∀ (bytes : List Byte) (ok : Bool) (s : State), s.resetHeld = false →
    (ok = false ∨ bytes.length < 64 → exec (.uplinkFrameReceived bytes ok) s = .next (arbitrate
      { s with uplink := { s.uplink with classifier := { s.uplink.classifier with
          receiveError := s.uplink.classifier.receiveError + 1 } } })) ∧
    (ok = true → 64 ≤ bytes.length →
      (natOf ((bytes.drop 12).take 2) = 0x9B11 →
        exec (.uplinkFrameReceived bytes ok) s =
          .next (arbitrate (takeManagement (bytes.take (bytes.length - 4)) s)) ∧
        (∀ (h : MgmtHead) (cls kind : Nat) (body : BodyReading),
          readFrame (bytes.take (bytes.length - 4)) = some ⟨h, cls, kind, body⟩ →
          s.agent.bind = .bound → s.agent.controller = some h.src → s.agent.hold.length < 8 →
          (∀ c : Instr, body = .request c → NoneOwed s →
            exec (.uplinkFrameReceived bytes ok) s = .next (arbitrate { s with agent := { s.agent with
              inbox := s.agent.inbox ++ [.request c] } })) ∧
          (body = .badRequest → s.agent.inbox = [] → ∃ t, exec (.uplinkFrameReceived bytes ok) s = .next t ∧
            Answered h kind (some .badRequest) .empty s t ∧ OnlyAnswered s t) ∧
          (body = .badTable → s.agent.inbox = [] → ∃ t, exec (.uplinkFrameReceived bytes ok) s = .next t ∧
            Answered h kind (some .badTable) .empty s t ∧ OnlyAnswered s t) ∧
          (∀ (why : Reject) (c : Instr) (rest : List Inbound), s.agent.inbox = .request c :: rest →
            (body = .badRequest ∧ why = .badRequest) ∨ (body = .badTable ∧ why = .badTable) →
            exec (.uplinkFrameReceived bytes ok) s = .next (arbitrate { s with agent := { s.agent with
              inbox := s.agent.inbox ++ [.answer h.tag kind why] } }))) ∧
        (∀ (h : MgmtHead) (cls kind : Nat) (body : BodyReading) (count : AgentCounters → State),
          readFrame (bytes.take (bytes.length - 4)) = some ⟨h, cls, kind, body⟩ →
          (∀ k, count k = { s with agent := { s.agent with count := k } }) →
          (s.agent.bind = .bound → s.agent.controller = some h.src → 8 ≤ s.agent.hold.length →
            exec (.uplinkFrameReceived bytes ok) s = .next (arbitrate (count
              { s.agent.count with dropped := s.agent.count.dropped + 1 }))) ∧
          (s.agent.bind = .bound → s.agent.controller ≠ some h.src →
            exec (.uplinkFrameReceived bytes ok) s = .next (arbitrate (count
              { s.agent.count with foreign := s.agent.count.foreign + 1 }))) ∧
          (s.agent.bind ≠ .bound →
            (∀ (h' : MgmtHead) (n : Nat), body = .request (.bind h' n) → NoneOwed s →
              exec (.uplinkFrameReceived bytes ok) s = .next (arbitrate { s with agent := { s.agent with
                inbox := s.agent.inbox ++ [.request (.bind h' n)] } })) ∧
            (body = .badRequest → exec (.uplinkFrameReceived bytes ok) s = .next (arbitrate (count
              { s.agent.count with malformed := s.agent.count.malformed + 1 }))) ∧
            ((∀ (h' : MgmtHead) (n : Nat), body ≠ .request (.bind h' n)) → body ≠ .badRequest →
              exec (.uplinkFrameReceived bytes ok) s = .next (arbitrate (count
                { s.agent.count with notBound := s.agent.count.notBound + 1 }))))) ∧
        (∀ (h : MgmtHead) (body : List Byte), 8 ≤ body.length →
          natOf (body.take 4) = 0 ∨ 7 < natOf (body.take 4) → readBody h 3 body = .badTable)) ∧
      (natOf ((bytes.drop 12).take 2) ≠ 0x9B11 → s.agent.bind ≠ .bound →
        exec (.uplinkFrameReceived bytes ok) s = .next (arbitrate
          { s with uplink := { s.uplink with classifier := { s.uplink.classifier with
              notBound := s.uplink.classifier.notBound + 1 } } })) ∧
      (natOf ((bytes.drop 12).take 2) ≠ 0x9B11 → s.agent.bind = .bound →
        (natOf ((bytes.drop 12).take 2) ≠ 0x9B10 →
          exec (.uplinkFrameReceived bytes ok) s = .next (arbitrate
            { s with uplink := { s.uplink with classifier := { s.uplink.classifier with
                untagged := s.uplink.classifier.untagged + 1 } } })) ∧
        (natOf ((bytes.drop 12).take 2) = 0x9B10 → ∃ data : List Byte,
          bytes.take 12 ++ bytes.drop 16 = data ++ bytes.drop (bytes.length - 4) ∧
          exec (.uplinkFrameReceived bytes ok) s = .next (arbitrate (admitDownstream
            (natOf ((bytes.drop 14).take 2) % 4096) data (bytes.length - 4) s)))))

/-- A tagged frame goes through the steps of R144 in order: length, tag map, downstream enable, drop index and state,
the account gate of R145, and the queue of 512 places of R147, where a frame that joins takes L from a THROTTLED
account's bucket; a discarded frame moves its one counter and nothing else (R144, R145, R147, R148). A THROTTLED
account whose floor rate is below 64 passes no frame (R146), whatever its bucket holds; that this sentence of R146
rules where R146's table lets the bucket come to 64 bytes is the model's choice (log 71). -/
def Obligations.DownstreamAdmissionStepsInOrder : Prop :=
  ∀ (tag len : Nat) (data : List Byte) (s : State),
    (len < 64 ∨ 2000 < len → admitDownstream tag data len s = { s with uplink := { s.uplink with classifier :=
      { s.uplink.classifier with lengthError := s.uplink.classifier.lengthError + 1 } } }) ∧
    (64 ≤ len → len ≤ 2000 →
      (s.tagEntry tag = none → admitDownstream tag data len s = { s with uplink := { s.uplink with classifier :=
        { s.uplink.classifier with unmapped := s.uplink.classifier.unmapped + 1 } } }) ∧
      (∀ (n : Nat) (r : FlowRecord) (c : DownstreamCounters), s.tagEntry tag = some n → r = s.flow n →
        c = (s.feeder r.feeder).downCount →
        (r.enable = false → admitDownstream tag data len s = s.setFeeder r.feeder { s.feeder r.feeder with
          downCount := { c with flowDisabled := c.flowDisabled + 1 } }) ∧
        (r.enable = true → (r.drop = 0 ∨ (s.drop r.feeder r.drop).state = .empty ∨
            (s.drop r.feeder r.drop).state = .quarantined ∨ (s.drop r.feeder r.drop).state = .leaving) →
          admitDownstream tag data len s = s.setFeeder r.feeder { s.feeder r.feeder with
            downCount := { c with notDelivering := c.notDelivering + 1 } }) ∧
        (r.enable = true → r.drop ≠ 0 → (s.drop r.feeder r.drop).state ≠ .empty →
          (s.drop r.feeder r.drop).state ≠ .quarantined → (s.drop r.feeder r.drop).state ≠ .leaving →
          ∀ slot, s.boundAccount r.feeder r.drop = some slot →
          ((s.account slot).state = .suspended → admitDownstream tag data len s = s.setFeeder r.feeder
            { s.feeder r.feeder with downCount := { c with suspended := c.suspended + 1 } }) ∧
          ((s.account slot).state = .throttled → (s.account slot).bucket < len ∨ (s.account slot).floorRate < 64 →
            admitDownstream tag data len s = s.setFeeder r.feeder
              { s.feeder r.feeder with downCount := { c with floorExceeded := c.floorExceeded + 1 } }) ∧
          ((s.account slot).state = .normal ∨ ((s.account slot).state = .throttled ∧ 64 ≤ (s.account slot).floorRate ∧
              len ≤ (s.account slot).bucket) →
            (512 ≤ (s.feeder r.feeder).downQueue.length → admitDownstream tag data len s = s.setFeeder r.feeder
              { s.feeder r.feeder with downCount := { c with queueFull := c.queueFull + 1 } }) ∧
            ((s.feeder r.feeder).downQueue.length < 512 → ∃ x : State, admitDownstream tag data len s = x ∧
              x = { s.setFeeder r.feeder { s.feeder r.feeder with
                  downQueue := (s.feeder r.feeder).downQueue ++ [⟨data, n, r.drop⟩]
                  downCount := { c with queued := c.queued + 1 } } with
                meter := { s.meter with accounts := x.meter.accounts } } ∧
              x.account slot = { s.account slot with bucket :=
                if (s.account slot).state = .throttled then (s.account slot).bucket - len else (s.account slot).bucket } ∧
              ∀ k, k ≠ slot → x.account k = s.account k)))))

/-- One metering step: a frame of no account is only counted as unbilled; otherwise its units and bytes move the
period counter of its band and direction and the lifetime counter, a COUNTED account is charged its points with what
the allowance lacks going to the overrun, and a NORMAL one whose allowance is then 0 is THROTTLED with an empty bucket
and an ACCOUNT_THROTTLED notice (R156 to R160). -/
def Obligations.MeteringCountsAndCharges : Prop :=
  ∀ (up : Bool) (f : FeederId) (d len : Nat) (s : State),
    (s.boundAccount f d = none → meterFrame up f d len s =
      { s with meter := { s.meter with unbilled := s.meter.unbilled + 1 } }) ∧
    (∀ (slot band units points count life : Nat) (a : Account) (throttle : Bool), s.boundAccount f d = some slot →
      a = s.account slot → band = (s.tariffPlan a.plan).active.bands.getD s.meter.clock.quarter 0 → band ≤ 3 →
      units = (len + 2 ^ a.scale - 1) / 2 ^ a.scale →
      points = units * (s.tariffPlan a.plan).active.weights.getD band 0 →
      count = min ((if up then a.up.get band else a.down.get band) + units) (2 ^ 40 - 1) →
      life = (if up then a.lifeUp else a.lifeDown) + len →
      throttle = (decide (a.mode = .counted) && decide (a.state = .normal) && decide (a.allowance ≤ points) &&
        (decide (0 < a.allowance) || decide (0 < points))) →
      ∃ x : State, meterFrame up f d len s = x ∧
        x.account slot = { a with
          up := if up then a.up.set band count else a.up
          down := if up then a.down else a.down.set band count
          lifeUp := if up then life % 2 ^ 48 else a.lifeUp
          lifeDown := if up then a.lifeDown else life % 2 ^ 48
          saturated := a.saturated || decide (count = 2 ^ 40 - 1)
          wrapped := a.wrapped || decide (2 ^ 48 ≤ life)
          allowance := if a.mode = .counted then a.allowance - points else a.allowance
          overrun := if a.mode = .counted ∧ a.allowance < points
            then min (a.overrun + (points - a.allowance)) (2 ^ 40 - 1) else a.overrun
          state := if throttle then .throttled else a.state
          bucket := if throttle then 0 else a.bucket } ∧
        (∀ k, k ≠ slot → x.account k = s.account k) ∧
        x = { s with meter := { s.meter with accounts := x.meter.accounts }, agent := x.agent } ∧
        x.agent = if throttle
          then (notify (.accountThrottled slot a.code a.bound (x.account slot).overrun) s).agent else s.agent)

/-- The transmitter and the classes: the arbiter takes the first class that is not empty in the order response,
notice, statement, upstream traffic whenever the transmitter is free and the link up; TRANSMISSION_END takes the sent
frame off the head of its class and counts it, and the place that a STATEMENT frame frees lets as many records follow
as wait, as the cycle's count of 4 has left and as the class has places, unless export is held (R173); with nothing
being sent it only runs the arbiter (log 6). UPLINK_LINK_CHANGE lets transmissions start or not, and one that has
started goes on (R150, R151; log 9). RESPONSE_HOLD_RELEASE, NOTICE_OFFER and STATEMENT_EXPORT each move one head to
the tail of their class while it has one of its 8 places free, and for an export while it is not held and the cycle's
count is below 4 (that each is a command of its own is log 36) (R150, R151, R152, R173, R179, R183). A notice asked for
in BOUND is built with the current cycle number and joins the tail of the notice queue while that holds fewer than 64;
with 64 or more it is dropped, NOTICE_LOST is set and the notices lost counter grows by 1; outside BOUND it is dropped
and nothing changes (R183, R185). -/
def Obligations.TransmitClassesKeepTheirOrder : Prop :=
  (∀ (n : Notice) (s : State),
    (s.agent.bind = .bound → s.agent.notices.length < 64 → notify n s =
      { s with agent := { s.agent with notices := s.agent.notices ++ [⟨s.cycle, n⟩] } }) ∧
    (s.agent.bind = .bound → 64 ≤ s.agent.notices.length → notify n s =
      { s with agent := { s.agent with
        noticeLost := true, count := { s.agent.count with noticesLost := s.agent.count.noticesLost + 1 } } }) ∧
    (s.agent.bind ≠ .bound → notify n s = s)) ∧
  (∀ s : State, arbitrate s = { s with uplink := { s.uplink with
    sending := if s.uplink.linkUp = false ∨ s.uplink.sending ≠ none then s.uplink.sending
      else if s.uplink.responses ≠ [] then some .response
      else if s.uplink.notices ≠ [] then some .notice
      else if s.uplink.statements ≠ [] then some .statement
      else if s.uplink.traffic ≠ [] then some .traffic
      else none } }) ∧
  (∀ (s : State) (u : Uplink) (c : TransmitCounters), s.resetHeld = false → u = s.uplink → c = s.uplink.transmit →
    (u.sending = some .response → exec .transmissionEnd s = .next (arbitrate { s with uplink := { u with
      sending := none, responses := u.responses.drop 1, transmit := { c with responses := c.responses + 1 } } })) ∧
    (u.sending = some .notice → exec .transmissionEnd s = .next (arbitrate { s with uplink := { u with
      sending := none, notices := u.notices.drop 1, transmit := { c with notices := c.notices + 1 } } })) ∧
    (∀ k : Nat, u.sending = some .statement → k = (if s.meter.held = true then 0 else
        min (4 - s.meter.exportCount) (min s.meter.queue.length (8 - (u.statements.drop 1).length))) →
      exec .transmissionEnd s = .next (arbitrate { s with
        uplink := { u with
          sending := none, statements := u.statements.drop 1 ++ s.meter.queue.take k
          transmit := { c with statements := c.statements + 1 } }
        meter := { s.meter with
          queue := s.meter.queue.drop k, exportCount := s.meter.exportCount + k
          exported := s.meter.exported + BitVec.ofNat 32 k } })) ∧
    (u.sending = some .traffic → exec .transmissionEnd s = .next (arbitrate { s with uplink := { u with
      sending := none, traffic := u.traffic.drop 1, transmit := { c with traffic := c.traffic + 1 } } })) ∧
    (u.sending = none → exec .transmissionEnd s = .next (arbitrate s)) ∧
    (∀ up, exec (.uplinkLinkChange up) s = .next (arbitrate { s with uplink := { u with linkUp := up } })) ∧
    (∀ r rest, s.agent.hold = r :: rest → u.responses.length < 8 → exec .responseHoldRelease s =
      .next (arbitrate { s with agent := { s.agent with hold := rest },
                                uplink := { u with responses := u.responses ++ [r] } })) ∧
    (s.agent.hold = [] ∨ 8 ≤ u.responses.length → exec .responseHoldRelease s = .next s) ∧
    (∀ n rest, s.agent.notices = n :: rest → u.notices.length < 8 → exec .noticeOffer s =
      .next (arbitrate { s with agent := { s.agent with notices := rest },
                                uplink := { u with notices := u.notices ++ [n] } })) ∧
    (s.agent.notices = [] ∨ 8 ≤ u.notices.length → exec .noticeOffer s = .next s) ∧
    (∀ r rest, s.meter.queue = r :: rest → s.meter.held = false → s.meter.exportCount < 4 → u.statements.length < 8 →
      exec .statementExport s = .next (arbitrate { s with
        meter := { s.meter with queue := rest, exportCount := s.meter.exportCount + 1, exported := s.meter.exported + 1 }
        uplink := { u with statements := u.statements ++ [r] } })) ∧
    (s.meter.queue = [] ∨ s.meter.held = true ∨ 4 ≤ s.meter.exportCount ∨ 8 ≤ u.statements.length →
      exec .statementExport s = .next s))

/-! ## Headlines -/

/-- Every well-formed request written as a frame reads back as the same request, with every field at every value its
encoding admits (R178, R187). -/
def Obligations.RequestFramesReadBack : Prop :=
  ∀ (c : Instr) (h : MgmtHead) (kind : Nat) (body : List Byte), c.wellFormed = true →
    requestParts c = some (h, kind, body) →
    ∃ bytes, requestBytes c = some bytes ∧ 60 ≤ bytes.length ∧ natOf ((bytes.drop 12).take 2) = 0x9B11 ∧
      readFrame bytes = some ⟨h, 1, kind, .request c⟩

/-- Every step keeps every table in its canonical form and every queue within its places (R15, R82, R147, R150, R171,
R173, R179, R183). -/
def Obligations.StorageFormIsKept : Prop :=
  (∀ s t : State, s.canonical = true → step s = .next t → t.canonical = true) ∧
  (∀ s t : State, s.bounded = true → step s = .next t → t.bounded = true)

/-- Every step keeps RTD + EQD = TD on every ACTIVE, DOZING, SILENT, DARKENED or QUARANTINED record of every feeder, with
what that needs of a ranging in its last phase and of a STOPPED feeder (R103; the rest DEDUCED from R92, R98, R100). -/
def Obligations.EqualisationIsKept : Prop :=
  ∀ s t : State, s.equalised → step s = .next t → t.equalised

/-- Every step keeps the windows of every plan in every ring inside the cycle and outside the dark slot, with 16 words or
more between any two, as long as the settings keep R95's limits and a STOPPED feeder's ring is empty (R41). -/
def Obligations.WindowSeparationIsKept : Prop :=
  ∀ s t : State, s.separated → step s = .next t → t.separated

/-- While the agent is BOUND no command but POWER_ON_RESET moves its bind state, controller address, part address or bind
number: not a second BIND, not a frame from another source, not PART_RESET (R176). -/
def Obligations.OnlyPowerOnResetEndsABinding : Prop :=
  ∀ s t : State, s.agent.bind = .bound → (∀ rest, s.pending ≠ .powerOnReset :: rest) → step s = .next t →
    t.binding = s.binding
end

