-- ==== Sys2Proof/Laws/Tables.lean ====
section
/-! SUPPORT. What a key of a table reads as after a write, and that every table operation keeps the canonical form. -/

namespace Sys2Proof.Tbl

variable {α : Type}

theorem get_nil (d : α) (k : Nat) : get d [] k = d := rfl

theorem get_cons (d : α) (e : Nat × α) (t : Tbl α) (k : Nat) :
    get d (e :: t) k = if e.1 = k then e.2 else get d t k := rfl

/-- A key that no entry has reads as the default. -/
theorem get_of_not_listed (d : α) (t : Tbl α) (k : Nat) (h : ∀ e ∈ t, e.1 ≠ k) : get d t k = d := by
  induction t with
  | nil => rfl
  | cons e t ih =>
    rw [get_cons, if_neg (h e (by simp))]
    exact ih fun x hx => h x (by simp [hx])

theorem get_erase_self (d : α) (t : Tbl α) (k : Nat) : get d (t.erase k) k = d :=
  get_of_not_listed d _ k fun e he => by simpa [erase] using (List.mem_filter.1 he).2

theorem get_erase_ne (d : α) (t : Tbl α) {k j : Nat} (h : j ≠ k) : get d (t.erase k) j = get d t j := by
  induction t with
  | nil => rfl
  | cons e t ih =>
    by_cases hk : e.1 = k
    · have : Tbl.erase (e :: t) k = Tbl.erase t k := by simp [erase, hk]
      rw [this, ih, get_cons, if_neg (by omega)]
    · have : Tbl.erase (e :: t) k = e :: Tbl.erase t k := by simp [erase, hk]
      rw [this, get_cons, get_cons, ih]

theorem get_insert_self (d v : α) (t : Tbl α) (k : Nat) (h : ∀ e ∈ t, e.1 ≠ k) : get d (insert k v t) k = v := by
  induction t with
  | nil => simp [insert, get_cons]
  | cons e t ih =>
    unfold insert
    split
    · simp [get_cons]
    · rw [get_cons, if_neg (h e (by simp))]
      exact ih fun x hx => h x (by simp [hx])

theorem get_insert_ne (d v : α) (t : Tbl α) {k j : Nat} (h : j ≠ k) : get d (insert k v t) j = get d t j := by
  induction t with
  | nil => simp [insert, get_cons, get_nil, h.symm]
  | cons e t ih =>
    unfold insert
    split
    · rw [get_cons, if_neg h.symm]
    · rw [get_cons, get_cons, ih]

theorem erase_not_listed (t : Tbl α) (k : Nat) : ∀ e ∈ t.erase k, e.1 ≠ k := fun e he => by
  simpa [erase] using (List.mem_filter.1 he).2

variable [DecidableEq α]

/-- A written key reads as what was written. -/
@[simp] theorem get_set_self (d v : α) (t : Tbl α) (k : Nat) : get d (set d t k v) k = v := by
  unfold set
  split
  · rw [get_erase_self]; simp [*]
  · exact get_insert_self d v _ k (erase_not_listed t k)

/-- Every other key reads as before. -/
theorem get_set_ne (d v : α) (t : Tbl α) {k j : Nat} (h : j ≠ k) : get d (set d t k v) j = get d t j := by
  unfold set
  split
  · exact get_erase_ne d t h
  · rw [get_insert_ne d v _ h, get_erase_ne d t h]

/-- What every key reads as after a write. -/
theorem get_set (d v : α) (t : Tbl α) (k j : Nat) : get d (set d t k v) j = if j = k then v else get d t j := by
  split
  · subst_vars; exact get_set_self d v t _
  · exact get_set_ne d v t (by assumption)

/-! ## Updates -/

theorem get_foldl_set (d : α) (g : Nat → α) (l t : Tbl α) (k : Nat) :
    get d (l.foldl (fun acc e => set d acc e.1 (g e.1)) t) k = if ∃ e ∈ l, e.1 = k then g k else get d t k := by
  induction l generalizing t with
  | nil => simp
  | cons e l ih =>
    rw [List.foldl_cons, ih]
    by_cases h1 : ∃ x ∈ l, x.1 = k
    · rw [if_pos h1, if_pos (by obtain ⟨x, hx, hk⟩ := h1; exact ⟨x, by simp [hx], hk⟩)]
    · rw [if_neg h1, get_set]
      by_cases h2 : k = e.1
      · rw [if_pos h2, if_pos ⟨e, by simp, h2.symm⟩, h2]
      · rw [if_neg h2, if_neg]
        rintro ⟨x, hx, hk⟩
        rcases List.mem_cons.1 hx with rfl | hx
        · exact h2 hk.symm
        · exact h1 ⟨x, hx, hk⟩

/-- What every key reads as after an update that leaves the default alone. -/
theorem get_update (d : α) (g : Nat → α → α) (hg : ∀ k, g k d = d) (t : Tbl α) (k : Nat) :
    get d (update d g t) k = g k (get d t k) := by
  unfold update
  rw [get_foldl_set d (fun k => g k (get d t k)) t t k]
  split
  · rfl
  · rename_i h
    rw [get_of_not_listed d t k (fun e he hk => h ⟨e, he, hk⟩), hg]

/-! ## The canonical form -/

theorem wf_tail (d : α) {e : Nat × α} {t : Tbl α} (h : wf d (e :: t) = true) : wf d t = true := by
  cases t with
  | nil => rfl
  | cons x t => simp [wf] at h; exact h.2

theorem wf_head (d : α) {e : Nat × α} {t : Tbl α} (h : wf d (e :: t) = true) : e.2 ≠ d := by
  cases t with
  | nil => simpa [wf] using h
  | cons x t => simp [wf] at h; exact h.1.1

theorem wf_lt (d : α) {e : Nat × α} {t : Tbl α} (h : wf d (e :: t) = true) : ∀ x ∈ t, e.1 < x.1 := by
  induction t generalizing e with
  | nil => simp
  | cons y t ih =>
    have h1 : e.1 < y.1 := by simp [wf] at h; exact h.1.2
    intro x hx
    rcases List.mem_cons.1 hx with rfl | hx
    · exact h1
    · exact Nat.lt_trans h1 (ih (wf_tail d h) x hx)

theorem wf_cons (d : α) {e : Nat × α} {t : Tbl α} (h1 : e.2 ≠ d) (h2 : ∀ x ∈ t, e.1 < x.1) (h3 : wf d t = true) :
    wf d (e :: t) = true := by
  cases t with
  | nil => simpa [wf] using h1
  | cons y t => simp [wf, h1, h2 y (by simp), h3]

/-- Erasing a key keeps the canonical form. -/
theorem wf_erase (d : α) {t : Tbl α} (h : wf d t = true) (k : Nat) : wf d (t.erase k) = true := by
  induction t with
  | nil => rfl
  | cons e t ih =>
    by_cases hk : e.1 = k
    · have : Tbl.erase (e :: t) k = Tbl.erase t k := by simp [erase, hk]
      rw [this]; exact ih (wf_tail d h)
    · have : Tbl.erase (e :: t) k = e :: Tbl.erase t k := by simp [erase, hk]
      rw [this]
      exact wf_cons d (wf_head d h) (fun x hx => wf_lt d h x (List.mem_filter.1 hx).1) (ih (wf_tail d h))

/-- Putting in a key that is not listed, with a value other than the default, keeps the canonical form. -/
theorem wf_insert (d : α) {t : Tbl α} (h : wf d t = true) {k : Nat} {v : α} (hv : v ≠ d) (hk : ∀ e ∈ t, e.1 ≠ k) :
    wf d (insert k v t) = true := by
  induction t with
  | nil => simpa [insert, wf] using hv
  | cons e t ih =>
    unfold insert
    split
    · rename_i hlt
      refine wf_cons d hv (fun x hx => ?_) h
      rcases List.mem_cons.1 hx with rfl | hx
      · exact hlt
      · exact Nat.lt_trans hlt (wf_lt d h x hx)
    · rename_i hge
      have hne := hk e (by simp)
      refine wf_cons d (wf_head d h) (fun x hx => ?_) (ih (wf_tail d h) fun x hx => hk x (by simp [hx]))
      have hmem : ∀ (l : Tbl α), x ∈ insert k v l → x = (k, v) ∨ x ∈ l := by
        intro l
        induction l with
        | nil => intro hx; exact .inl (by simpa [insert] using hx)
        | cons y l ihl =>
          intro hx
          unfold insert at hx
          split at hx
          · rcases List.mem_cons.1 hx with hx | hx
            · exact .inl hx
            · exact .inr hx
          · rcases List.mem_cons.1 hx with hx | hx
            · exact .inr (by simp [hx])
            · rcases ihl hx with hx | hx
              · exact .inl hx
              · exact .inr (by simp [hx])
      rcases hmem t hx with rfl | hx
      · simp only; omega
      · exact wf_lt d h x hx

/-- A write keeps the canonical form. -/
theorem wf_set (d : α) {t : Tbl α} (h : wf d t = true) (k : Nat) (v : α) : wf d (set d t k v) = true := by
  unfold set
  split
  · exact wf_erase d h k
  · exact wf_insert d (wf_erase d h k) (by assumption) (erase_not_listed t k)

/-- An update keeps the canonical form. -/
theorem wf_update (d : α) (g : Nat → α → α) {t : Tbl α} (h : wf d t = true) : wf d (update d g t) = true := by
  unfold update
  suffices H : ∀ (l acc : Tbl α) (c : Nat → α), wf d acc = true →
      wf d (l.foldl (fun acc e => set d acc e.1 (c e.1)) acc) = true from
    H t t (fun k => g k (get d t k)) h
  intro l
  induction l with
  | nil => intro acc c ha; exact ha
  | cons e l ih => intro acc c ha; exact ih _ c (wf_set d ha e.1 (c e.1))

end Sys2Proof.Tbl
end

