-- ==== Sys2Proof/Laws/State.lean ====
section
/-! SUPPORT. One lemma for each field and each update of the state, so that no proof unfolds a record update. -/

namespace Sys2Proof

@[simp] theorem PerFeeder.get_set_self {α : Type} (p : PerFeeder α) (f : FeederId) (v : α) : (p.set f v).get f = v := by
  cases f <;> rfl

theorem PerFeeder.get_set_ne {α : Type} (p : PerFeeder α) {f g : FeederId} (v : α) (h : g ≠ f) :
    (p.set f v).get g = p.get g := by
  cases f <;> cases g <;> first | rfl | exact absurd rfl h

theorem PerFeeder.get_set {α : Type} (p : PerFeeder α) (f g : FeederId) (v : α) :
    (p.set f v).get g = if g = f then v else p.get g := by
  split
  · subst_vars; simp
  · exact PerFeeder.get_set_ne p v (by assumption)

@[simp] theorem PerFeeder.get_map {α β : Type} (g : α → β) (p : PerFeeder α) (f : FeederId) :
    (p.map g).get f = g (p.get f) := by cases f <;> rfl

@[simp] theorem PerFeeder.set_set {α : Type} (p : PerFeeder α) (f : FeederId) (v w : α) :
    (p.set f v).set f w = p.set f w := by cases f <;> rfl

@[simp] theorem PerFeeder.set_get {α : Type} (p : PerFeeder α) (f : FeederId) : p.set f (p.get f) = p := by
  cases f <;> rfl

theorem PerFeeder.ext {α : Type} {p q : PerFeeder α} (h : ∀ f, p.get f = q.get f) : p = q := by
  have h0 := h .f0; have h1 := h .f1; have h2 := h .f2; have h3 := h .f3
  cases p; cases q; simp_all [PerFeeder.get]

namespace Machine

/-! ## One feeder's holding -/

section
variable (s : State) (f g : FeederId) (x : Feeder) (k : Feeder → Feeder)

@[simp] theorem State.feeder_setFeeder_self : (s.setFeeder f x).feeder f = x := by simp [State.feeder, State.setFeeder]

theorem State.feeder_setFeeder : (s.setFeeder f x).feeder g = if g = f then x else s.feeder g := by
  simp [State.feeder, State.setFeeder, PerFeeder.get_set]

theorem State.feeder_setFeeder_ne (h : g ≠ f) : (s.setFeeder f x).feeder g = s.feeder g := by
  simp [State.feeder_setFeeder, h]

@[simp] theorem State.feeder_onFeeder_self : (s.onFeeder f k).feeder f = k (s.feeder f) := by simp [State.onFeeder]

theorem State.feeder_onFeeder : (s.onFeeder f k).feeder g = if g = f then k (s.feeder f) else s.feeder g := by
  simp [State.onFeeder, State.feeder_setFeeder]

theorem State.feeder_onFeeder_ne (h : g ≠ f) : (s.onFeeder f k).feeder g = s.feeder g := by
  simp [State.feeder_onFeeder, h]

@[simp] theorem State.setFeeder_resetHeld : (s.setFeeder f x).resetHeld = s.resetHeld := rfl
@[simp] theorem State.setFeeder_cycle : (s.setFeeder f x).cycle = s.cycle := rfl
@[simp] theorem State.setFeeder_serial : (s.setFeeder f x).serial = s.serial := rfl
@[simp] theorem State.setFeeder_profiles : (s.setFeeder f x).profiles = s.profiles := rfl
@[simp] theorem State.setFeeder_admission : (s.setFeeder f x).admission = s.admission := rfl
@[simp] theorem State.setFeeder_tagMap : (s.setFeeder f x).tagMap = s.tagMap := rfl
@[simp] theorem State.setFeeder_flows : (s.setFeeder f x).flows = s.flows := rfl
@[simp] theorem State.setFeeder_meter : (s.setFeeder f x).meter = s.meter := rfl
@[simp] theorem State.setFeeder_agent : (s.setFeeder f x).agent = s.agent := rfl
@[simp] theorem State.setFeeder_uplink : (s.setFeeder f x).uplink = s.uplink := rfl
@[simp] theorem State.setFeeder_pending : (s.setFeeder f x).pending = s.pending := rfl
@[simp] theorem State.onFeeder_resetHeld : (s.onFeeder f k).resetHeld = s.resetHeld := rfl
@[simp] theorem State.onFeeder_cycle : (s.onFeeder f k).cycle = s.cycle := rfl
@[simp] theorem State.onFeeder_serial : (s.onFeeder f k).serial = s.serial := rfl
@[simp] theorem State.onFeeder_profiles : (s.onFeeder f k).profiles = s.profiles := rfl
@[simp] theorem State.onFeeder_admission : (s.onFeeder f k).admission = s.admission := rfl
@[simp] theorem State.onFeeder_tagMap : (s.onFeeder f k).tagMap = s.tagMap := rfl
@[simp] theorem State.onFeeder_flows : (s.onFeeder f k).flows = s.flows := rfl
@[simp] theorem State.onFeeder_meter : (s.onFeeder f k).meter = s.meter := rfl
@[simp] theorem State.onFeeder_agent : (s.onFeeder f k).agent = s.agent := rfl
@[simp] theorem State.onFeeder_uplink : (s.onFeeder f k).uplink = s.uplink := rfl
@[simp] theorem State.onFeeder_pending : (s.onFeeder f k).pending = s.pending := rfl

@[simp] theorem State.setFeeder_setFeeder (y : Feeder) : (s.setFeeder f x).setFeeder f y = s.setFeeder f y := by
  simp [State.setFeeder]

@[simp] theorem State.setFeeder_feeder : s.setFeeder f (s.feeder f) = s := by simp [State.setFeeder, State.feeder]

@[simp] theorem State.setFeeder_onFeeder : (s.setFeeder f x).onFeeder f k = s.setFeeder f (k x) := by
  simp [State.onFeeder]

@[simp] theorem State.onFeeder_onFeeder (j : Feeder → Feeder) :
    (s.onFeeder f k).onFeeder f j = s.onFeeder f fun x => j (k x) := by simp [State.onFeeder]

end

/-! ## The Usage Meter, the agent, the Uplink Port -/

section
variable (s : State) (m : Meter → Meter) (a : Agent → Agent) (u : Uplink → Uplink) (f : FeederId)

@[simp] theorem State.onMeter_meter : (s.onMeter m).meter = m s.meter := rfl
@[simp] theorem State.onMeter_feeder : (s.onMeter m).feeder f = s.feeder f := rfl
@[simp] theorem State.onMeter_feeders : (s.onMeter m).feeders = s.feeders := rfl
@[simp] theorem State.onMeter_agent : (s.onMeter m).agent = s.agent := rfl
@[simp] theorem State.onMeter_uplink : (s.onMeter m).uplink = s.uplink := rfl
@[simp] theorem State.onMeter_cycle : (s.onMeter m).cycle = s.cycle := rfl
@[simp] theorem State.onMeter_serial : (s.onMeter m).serial = s.serial := rfl
@[simp] theorem State.onMeter_resetHeld : (s.onMeter m).resetHeld = s.resetHeld := rfl
@[simp] theorem State.onMeter_profiles : (s.onMeter m).profiles = s.profiles := rfl
@[simp] theorem State.onMeter_admission : (s.onMeter m).admission = s.admission := rfl
@[simp] theorem State.onMeter_tagMap : (s.onMeter m).tagMap = s.tagMap := rfl
@[simp] theorem State.onMeter_flows : (s.onMeter m).flows = s.flows := rfl
@[simp] theorem State.onMeter_pending : (s.onMeter m).pending = s.pending := rfl

@[simp] theorem State.onAgent_agent : (s.onAgent a).agent = a s.agent := rfl
@[simp] theorem State.onAgent_feeder : (s.onAgent a).feeder f = s.feeder f := rfl
@[simp] theorem State.onAgent_feeders : (s.onAgent a).feeders = s.feeders := rfl
@[simp] theorem State.onAgent_meter : (s.onAgent a).meter = s.meter := rfl
@[simp] theorem State.onAgent_uplink : (s.onAgent a).uplink = s.uplink := rfl
@[simp] theorem State.onAgent_cycle : (s.onAgent a).cycle = s.cycle := rfl
@[simp] theorem State.onAgent_serial : (s.onAgent a).serial = s.serial := rfl
@[simp] theorem State.onAgent_resetHeld : (s.onAgent a).resetHeld = s.resetHeld := rfl
@[simp] theorem State.onAgent_profiles : (s.onAgent a).profiles = s.profiles := rfl
@[simp] theorem State.onAgent_admission : (s.onAgent a).admission = s.admission := rfl
@[simp] theorem State.onAgent_tagMap : (s.onAgent a).tagMap = s.tagMap := rfl
@[simp] theorem State.onAgent_flows : (s.onAgent a).flows = s.flows := rfl
@[simp] theorem State.onAgent_pending : (s.onAgent a).pending = s.pending := rfl

@[simp] theorem State.onUplink_uplink : (s.onUplink u).uplink = u s.uplink := rfl
@[simp] theorem State.onUplink_feeder : (s.onUplink u).feeder f = s.feeder f := rfl
@[simp] theorem State.onUplink_feeders : (s.onUplink u).feeders = s.feeders := rfl
@[simp] theorem State.onUplink_meter : (s.onUplink u).meter = s.meter := rfl
@[simp] theorem State.onUplink_agent : (s.onUplink u).agent = s.agent := rfl
@[simp] theorem State.onUplink_cycle : (s.onUplink u).cycle = s.cycle := rfl
@[simp] theorem State.onUplink_serial : (s.onUplink u).serial = s.serial := rfl
@[simp] theorem State.onUplink_resetHeld : (s.onUplink u).resetHeld = s.resetHeld := rfl
@[simp] theorem State.onUplink_profiles : (s.onUplink u).profiles = s.profiles := rfl
@[simp] theorem State.onUplink_admission : (s.onUplink u).admission = s.admission := rfl
@[simp] theorem State.onUplink_tagMap : (s.onUplink u).tagMap = s.tagMap := rfl
@[simp] theorem State.onUplink_flows : (s.onUplink u).flows = s.flows := rfl
@[simp] theorem State.onUplink_pending : (s.onUplink u).pending = s.pending := rfl

end

/-! ## Records of a feeder -/

section
variable (x : Feeder) (d e : Nat) (r : DropRecord)

@[simp] theorem Feeder.drop_setDrop_self : (x.setDrop d r).drop d = r := by simp [Feeder.drop, Feeder.setDrop]

theorem Feeder.drop_setDrop : (x.setDrop d r).drop e = if e = d then r else x.drop e := by
  simp [Feeder.drop, Feeder.setDrop, Tbl.get_set]

theorem Feeder.drop_setDrop_ne (h : e ≠ d) : (x.setDrop d r).drop e = x.drop e := by simp [Feeder.drop_setDrop, h]

variable (f : FeederId) (s : State) (g : DropRecord → DropRecord)

@[simp] theorem State.drop_onDrop_self : (s.onDrop f d g).drop f d = g (s.drop f d) := by
  simp [State.drop, State.onDrop]

theorem State.drop_onDrop_ne (h : e ≠ d) : (s.onDrop f d g).drop f e = s.drop f e := by
  simp [State.drop, State.onDrop, Feeder.drop_setDrop, h]

variable (slot j : Nat) (k : Account → Account)

@[simp] theorem State.account_onAccount_self : (s.onAccount slot k).account slot = k (s.account slot) := by
  simp [State.account, State.onAccount]

theorem State.account_onAccount : (s.onAccount slot k).account j = if j = slot then k (s.account slot) else s.account j := by
  simp [State.account, State.onAccount, Tbl.get_set]

end

end Machine

end Sys2Proof
end

