-- ==== Sys2Proof/Laws/Discards.lean ====
section
/-! SUPPORT. What discarding partial frames does (R65, R67): which reassembly slots are emptied, what is counted, and that
nothing else moves; and how a drop that stops shining or a window that is dropped uses it. -/

namespace Sys2Proof.Machine

theorem laneKey_eq_iff {d e l j : Nat} (hd : 1 ≤ d) (he : 1 ≤ e) (hl : l < 4) (hj : j < 4) :
    laneKey d l = laneKey e j ↔ d = e ∧ l = j := by unfold laneKey; omega

theorem Feeder.partialFrame_setPartial {x : Feeder} {d e l j : Nat} {p : Option Partial} (hd : 1 ≤ d) (he : 1 ≤ e)
    (hl : l < 4) (hj : j < 4) :
    (x.setPartial d l p).partialFrame e j = if e = d ∧ j = l then p else x.partialFrame e j := by
  simp [Feeder.partialFrame, Feeder.setPartial, Tbl.get_set, laneKey_eq_iff he hd hj hl]

/-- What discarding one lane's partial frame does. -/
theorem discardPartial_cases (count : UpstreamCounters → UpstreamCounters) (d l : Nat) (x : Feeder) :
    (x.partialFrame d l = none ∧ discardPartial count d l x = x) ∨
    ((x.partialFrame d l).isSome = true ∧ discardPartial count d l x =
      { x with reassembly := x.reassembly.set none (laneKey d l) none, upCount := count x.upCount }) := by
  unfold discardPartial
  split
  · rename_i h; exact .inr ⟨h, rfl⟩
  · rename_i h; exact .inl ⟨by simpa using h, rfl⟩

theorem repeat_comm {α : Type} (g : α → α) (n : Nat) (a : α) : Nat.repeat g n (g a) = Nat.repeat g (n + 1) a := by
  induction n with
  | zero => rfl
  | succ n ih => rw [Nat.repeat, ih]; rfl

/-- Discarding the partial frames of some lanes of a drop: those slots are empty, each frame that stood there is counted
once, and nothing else of the feeder moves. -/
theorem discardPartials_spec (count : UpstreamCounters → UpstreamCounters) {d : Nat} (hd : 1 ≤ d) (lanes : List Nat)
    (hn : lanes.Nodup) (hl : ∀ l ∈ lanes, l < 4) (x : Feeder) :
    ∃ y, lanes.foldl (fun x l => discardPartial count d l x) x = y ∧
      (∀ k l, 1 ≤ k → l < 4 → y.partialFrame k l = if k = d ∧ l ∈ lanes then none else x.partialFrame k l) ∧
      y = { x with reassembly := y.reassembly
                   upCount := Nat.repeat count (lanes.filter fun l => (x.partialFrame d l).isSome).length x.upCount } := by
  induction lanes generalizing x with
  | nil => exact ⟨x, rfl, by simp, rfl⟩
  | cons a rest ih =>
    have hna := List.nodup_cons.1 hn
    have ha : a < 4 := hl a (by simp)
    obtain ⟨y, hy, hp, hf⟩ := ih hna.2 (fun l h => hl l (by simp [h])) (discardPartial count d a x)
    have keep : ∀ k l, 1 ≤ k → l < 4 → (discardPartial count d a x).partialFrame k l =
        if k = d ∧ l = a then none else x.partialFrame k l := by
      intro k l hk hl4
      obtain ⟨h, e⟩ | ⟨-, e⟩ := discardPartial_cases count d a x <;> rw [e]
      · split
        · rename_i c; obtain ⟨rfl, rfl⟩ := c; exact h
        · rfl
      · exact Feeder.partialFrame_setPartial hd hk ha hl4
    refine ⟨y, by simpa using hy, fun k l hk hl4 => ?_, ?_⟩
    · rw [hp k l hk hl4, keep k l hk hl4]
      by_cases h1 : k = d <;> by_cases h2 : l = a <;> by_cases h3 : l ∈ rest <;> simp [h1, h2, h3]
    · have hr : (rest.filter fun l => ((discardPartial count d a x).partialFrame d l).isSome) =
          rest.filter fun l => (x.partialFrame d l).isSome := by
        refine List.filter_congr fun l h => ?_
        rw [keep d l hd (hl l (by simp [h])), if_neg]
        rintro ⟨-, rfl⟩; exact hna.1 h
      rw [hr] at hf
      rw [hf]
      obtain ⟨h, e⟩ | ⟨h, e⟩ := discardPartial_cases count d a x <;> rw [e]
      · simp [h]
      · simp [h, repeat_comm]

/-- Counting `n` frames lost to a state change, one by one. -/
theorem repeat_lostToState (n : Nat) (c : UpstreamCounters) :
    Nat.repeat (fun c => { c with lostToState := c.lostToState + 1 }) n c =
      { c with lostToState := c.lostToState + BitVec.ofNat 32 n } := by
  induction n with
  | zero => simp [Nat.repeat]
  | succ n ih => rw [Nat.repeat, ih]; simp [BitVec.ofNat_add, BitVec.add_assoc]

/-- Counting `n` frames lost in flight, one by one. -/
theorem repeat_lostInFlight (n : Nat) (c : UpstreamCounters) :
    Nat.repeat (fun c => { c with lostInFlight := c.lostInFlight + 1 }) n c =
      { c with lostInFlight := c.lostInFlight + BitVec.ofNat 32 n } := by
  induction n with
  | zero => simp [Nat.repeat]
  | succ n ih => rw [Nat.repeat, ih]; simp [BitVec.ofNat_add, BitVec.add_assoc]

/-- A drop that stops shining: its four slots are empty and what stood in them is counted as lost to a state change
(R67). -/
theorem leaveShining_eq (f : FeederId) {d : Nat} (hd : 1 ≤ d) (s : State) :
    ∃ t, leaveShining f d s = t ∧
      (∀ k l, 1 ≤ k → l < 4 → (t.feeder f).partialFrame k l = if k = d then none else (s.feeder f).partialFrame k l) ∧
      t = s.setFeeder f { s.feeder f with
        reassembly := (t.feeder f).reassembly
        upCount := { (s.feeder f).upCount with
          lostToState := (s.feeder f).upCount.lostToState +
            BitVec.ofNat 32 (laneNumbers.filter fun l => ((s.feeder f).partialFrame d l).isSome).length } } := by
  obtain ⟨y, hy, hp, hf⟩ := discardPartials_spec (fun c => { c with lostToState := c.lostToState + 1 }) hd laneNumbers
    (by decide) (by decide) (s.feeder f)
  refine ⟨_, rfl, ?_, ?_⟩
  · intro k l hk hl
    simp only [leaveShining, State.feeder_onFeeder_self, hy]
    rw [hp k l hk hl]
    have : l ∈ laneNumbers := by simp [laneNumbers]; omega
    simp [this]
  · simp only [leaveShining, State.onFeeder, hy, State.feeder_setFeeder_self]
    rw [hf, repeat_lostToState]

/-- A window that is dropped: the staging list and the slots of the named lanes are empty, and the partial frames that
stood there are counted as lost in flight (R65). -/
theorem dropWindow_eq (f : FeederId) {d : Nat} (hd : 1 ≤ d) (lanes : List Nat) (hn : lanes.Nodup)
    (hl : ∀ l ∈ lanes, l < 4) (s : State) :
    ∃ t, dropWindow f d lanes s = t ∧
      (∀ k l, 1 ≤ k → l < 4 →
        (t.feeder f).partialFrame k l = if k = d ∧ l ∈ lanes then none else (s.feeder f).partialFrame k l) ∧
      t = s.setFeeder f { s.feeder f with
        staging := [], reassembly := (t.feeder f).reassembly
        upCount := { (s.feeder f).upCount with
          lostInFlight := (s.feeder f).upCount.lostInFlight +
            BitVec.ofNat 32 (lanes.filter fun l => ((s.feeder f).partialFrame d l).isSome).length } } := by
  obtain ⟨y, hy, hp, hf⟩ := discardPartials_spec (fun c => { c with lostInFlight := c.lostInFlight + 1 }) hd lanes hn hl
    { s.feeder f with staging := [] }
  refine ⟨_, rfl, ?_, ?_⟩
  · intro k l hk hl4
    simp only [dropWindow, State.feeder_onFeeder_self, hy]
    exact hp k l hk hl4
  · simp only [dropWindow, State.onFeeder, hy, State.feeder_setFeeder_self]
    rw [hf, repeat_lostInFlight]; rfl

end Sys2Proof.Machine
end

