-- ==== Sys2Proof/Laws/Framing.lean ====
section
/-! SUPPORT. What a part of a framing takes (R6), what a decay and a stored ROUSE_LIMIT do to one record (R126, R107,
R113), and commands run one after another. -/

namespace Sys2Proof.Machine

/-- The front is a front: what lies behind it is the rest of the queue. -/
theorem frontHolding_append (goes : DownFrame → Bool) (n : Nat) (q : List DownFrame) :
    frontHolding goes n q ++ q.drop (frontHolding goes n q).length = q := by
  induction q generalizing n with
  | nil => cases n <;> rfl
  | cons fr rest ih => cases n with
    | zero => rfl
    | succ n => simpa [frontHolding] using ih _

/-- No more frames go out from the front than it was to hold. -/
theorem frontHolding_goes (goes : DownFrame → Bool) (n : Nat) (q : List DownFrame) :
    ((frontHolding goes n q).filter goes).length ≤ n := by
  induction q generalizing n with
  | nil => cases n <;> simp [frontHolding]
  | cons fr rest ih => cases n with
    | zero => simp [frontHolding]
    | succ n =>
      have h := ih (if goes fr then n else n + 1)
      by_cases hg : goes fr = true
      · simp [frontHolding, hg] at h ⊢; omega
      · simp [frontHolding, hg] at h ⊢; omega

/-- Where fewer go out than the front was to hold, it is the whole queue. -/
theorem frontHolding_whole {goes : DownFrame → Bool} {n : Nat} {q : List DownFrame}
    (h : ((frontHolding goes n q).filter goes).length < n) : frontHolding goes n q = q := by
  induction q generalizing n with
  | nil => cases n <;> rfl
  | cons fr rest ih => cases n with
    | zero => omega
    | succ n =>
      by_cases hg : goes fr = true
      · simp [frontHolding, hg] at h ⊢; exact ih (by omega)
      · simp [frontHolding, hg] at h ⊢; exact ih (by omega)

@[simp] theorem DropRecord.decayed_state (r : DropRecord) : r.decayed.state = r.state := by
  unfold DropRecord.decayed; split <;> rfl

theorem DropRecord.decayed_of_ne {r : DropRecord} (h : r.state ≠ .leaving) :
    r.decayed = { r with strikes := r.strikes - 1 } := by simp [DropRecord.decayed, h]

theorem DropRecord.decayed_of_leaving {r : DropRecord} (h : r.state = .leaving) : r.decayed = r := by
  simp [DropRecord.decayed, h]

/-- A stored ROUSE_LIMIT moves a record's rouse count alone. -/
theorem DropRecord.capRouse_eq (r : DropRecord) (limit : Nat) :
    r.capRouse limit = { r with rouse := if r.state = .leaving then r.rouse else min r.rouse limit } := by
  cases r; simp only [DropRecord.capRouse]; split <;> rfl

@[simp] theorem DropRecord.capRouse_empty (limit : Nat) : DropRecord.empty.capRouse limit = DropRecord.empty := by
  simp [DropRecord.capRouse, DropRecord.empty]

theorem Ran.append {a b : List Instr} {s t u : State} (h : Ran a s t) (k : Ran b t u) : Ran (a ++ b) s u := by
  induction a generalizing s with
  | nil => exact h ▸ k
  | cons c rest ih => obtain ⟨y, hy, hr⟩ := h; exact ⟨y, hy, ih hr⟩

/-- Commands that each do their operation with the reset pin free, and leave it free, run as the fold of it. -/
theorem Ran.foldl {α : Type} {c : α → Instr} {g : State → α → State}
    (hc : ∀ a s, exec (c a) s = live s fun s => g s a) (hg : ∀ a s, (g s a).resetHeld = s.resetHeld)
    (l : List α) {s : State} (h : s.resetHeld = false) : Ran (l.map c) s (l.foldl g s) := by
  induction l generalizing s with
  | nil => rfl
  | cons a l ih => exact ⟨g s a, by simp [hc, live, h], ih (by rw [hg, h])⟩

theorem closeThrough_none {slot : Nat} {s : State} (h : s.meter.pass = none) : closeThrough slot s = s := by
  simp only [closeThrough, h]

end Sys2Proof.Machine
end

