-- ==== Sys2Proof/Laws/Grants.lean ====
section
/-! SUPPORT. What issuing a grant and each grant stage can do to a build (R27 to R32), so that no proof about a build
unfolds a stage. -/

namespace Sys2Proof.Machine

section
variable (b : Build) (d l g k j : Nat)

@[simp] theorem Build.issue_used :
    (b.issue d l g).used = b.used + (if b.isOpen d then 0 else overhead (b.feeder.drop d)) + g := by
  cases h : b.isOpen d <;> simp [Build.issue, h]

@[simp] theorem Build.issue_cut : (b.issue d l g).cut = b.cut := rfl
@[simp] theorem Build.issue_served : (b.issue d l g).served = b.served := rfl
@[simp] theorem Build.issue_issued : (b.issue d l g).issued = b.issued ++ [((d, l), g)] := rfl
@[simp] theorem Build.issue_drop : (b.issue d l g).feeder.drop k = b.feeder.drop k := rfl
@[simp] theorem Build.issue_pointer : (b.issue d l g).feeder.pointer = b.feeder.pointer := rfl
@[simp] theorem Build.issue_settings : (b.issue d l g).feeder.settings = b.feeder.settings := rfl

theorem Build.issue_opened :
    (b.issue d l g).opened = if b.isOpen d then b.opened else b.opened ++ [(d, none)] := by
  cases h : b.isOpen d <;> simp [Build.issue, h]

/-- A grant takes 256 credits a word and is outstanding, at its own lane only. -/
theorem Build.issue_lane : (b.issue d l g).feeder.lane k j = if laneKey k j = laneKey d l then
    { b.feeder.lane d l with
      credit := (b.feeder.lane d l).credit - 256 * g, outstanding := (b.feeder.lane d l).outstanding + g }
    else b.feeder.lane k j := by
  simp [Build.issue, Feeder.lane, Feeder.setLane, Tbl.get_set]

/-- A grant opens its drop's burst and no other. -/
theorem Build.isOpen_issue : (b.issue d l g).isOpen k = (b.isOpen k || decide (k = d)) := by
  rw [Build.isOpen, Build.issue_opened]
  cases h : b.isOpen d
  · simp [Build.isOpen, eq_comm]
  · by_cases e : k = d
    · subst e; simpa [Build.isOpen] using h
    · simp [Build.isOpen, e]

/-- A first grant to a lane is the lane's grant, and moves no other lane's. -/
theorem Build.grantOf_issue (h : ∀ e ∈ b.issued, e.1 ≠ (d, l)) :
    (b.issue d l g).grantOf k j = if k = d ∧ j = l then g else b.grantOf k j := by
  unfold Build.grantOf
  rw [Build.issue_issued, List.find?_append]
  by_cases e : (k, j) = (d, l)
  · obtain ⟨rfl, rfl⟩ := Prod.mk.injEq .. ▸ e
    rw [List.find?_eq_none.2 fun x hx => by simpa using h x hx]
    simp
  · have n : ¬ (k = d ∧ j = l) := by simpa using e
    rw [if_neg n, List.find?_cons_of_neg (by simp only [decide_eq_true_eq, Prod.mk.injEq]; rintro ⟨rfl, rfl⟩; exact n ⟨rfl, rfl⟩), List.find?_nil, Option.or_none]

end

/-- Before any grant is issued every lane's grant is 0. -/
theorem Build.grantOf_of_not_issued {b : Build} {d l : Nat} (h : ∀ e ∈ b.issued, e.1 ≠ (d, l)) : b.grantOf d l = 0 := by
  unfold Build.grantOf
  rw [List.find?_eq_none.2 fun x hx => by simpa using h x hx]
  rfl

/-- What stage 4 does for a drop: nothing where none is due or none fits, or one mandatory burst (R26). -/
theorem mandatoryStage_cases (capacity : Nat) (n : CycleNo) (b : Build) (d : Nat) :
    (mandatoryFlag b.feeder.settings n d (b.feeder.drop d) = none ∧ mandatoryStage capacity n b d = b) ∨
    (∃ flag, mandatoryFlag b.feeder.settings n d (b.feeder.drop d) = some flag ∧
      ((capacity - b.used < overhead (b.feeder.drop d) ∧ mandatoryStage capacity n b d = b) ∨
       (overhead (b.feeder.drop d) ≤ capacity - b.used ∧ mandatoryStage capacity n b d =
        { b with used := b.used + overhead (b.feeder.drop d), opened := b.opened ++ [(d, some flag)] }))) := by
  unfold mandatoryStage; dsimp only
  split
  · exact .inl ⟨by assumption, rfl⟩
  · rename_i flag h
    refine .inr ⟨flag, h, ?_⟩
    split
    · exact .inr ⟨by assumption, rfl⟩
    · exact .inl ⟨by omega, rfl⟩

/-- What stage 6 or 7 does for a lane: nothing where its class is another, or a cut noted where the room is less than the
lane's candidate, and the candidate within the room granted where it is issued (R27, R29 to R31). -/
theorem guaranteedStage_cases (cls : LaneClass) (capacity : Nat) (force : Nat → Nat → Option Profile) (b : Build)
    (k : Nat × Nat) :
    ((∀ p, force k.1 k.2 = some p → p.cls ≠ cls) ∧ guaranteedStage cls capacity force b k = b) ∨
    (∃ (p : Profile) (whole g : Nat) (c : Build), force k.1 k.2 = some p ∧ p.cls = cls ∧
      whole = (b.feeder.lane k.1 k.2).credit / 256 ∧
      g = (if cls = .fixed then whole else min (b.feeder.lane k.1 k.2).demand whole) ∧
      c = { b with cut := b.cut || decide (b.room capacity k.1 < g) } ∧
      guaranteedStage cls capacity force b k =
        if issues p (b.feeder.lane k.1 k.2).demand (min g (b.room capacity k.1))
        then c.issue k.1 k.2 (min g (b.room capacity k.1)) else c) := by
  unfold guaranteedStage; dsimp only
  split
  · rename_i h; exact .inl ⟨fun p e => by simp [h] at e, rfl⟩
  · rename_i p h
    split
    · rename_i hc; exact .inl ⟨fun q e => by simp_all, rfl⟩
    · rename_i hc; exact .inr ⟨p, _, _, _, h, by simpa using hc, rfl, rfl, rfl, rfl⟩

/-- What stage 8 does at the first lane of a visit: it passes over a lane of another class, ends where a SHARED lane finds
no room, and otherwise grants it its candidate within the room where that is issued, and goes on (R32). -/
theorem sharedStage_cons (capacity : Nat) (force : Nat → Nat → Option Profile) (k : Nat × Nat) (rest : List (Nat × Nat))
    (b : Build) :
    ((∀ p, force k.1 k.2 = some p → p.cls ≠ .shared) ∧
      sharedStage capacity force (k :: rest) b = sharedStage capacity force rest b) ∨
    (∃ p, force k.1 k.2 = some p ∧ p.cls = .shared ∧
      ((b.room capacity k.1 = 0 ∧ sharedStage capacity force (k :: rest) b = b) ∨
       ∃ g, b.room capacity k.1 ≠ 0 ∧
        g = min (min (b.feeder.lane k.1 k.2).demand ((b.feeder.lane k.1 k.2).credit / 256)) (b.room capacity k.1) ∧
        sharedStage capacity force (k :: rest) b = sharedStage capacity force rest
          (if issues p (b.feeder.lane k.1 k.2).demand g then { b.issue k.1 k.2 g with served := some k } else b))) := by
  rw [sharedStage]; dsimp only
  split
  · rename_i h; exact .inl ⟨fun p e => by simp [h] at e, rfl⟩
  · rename_i p h
    split
    · rename_i hc; exact .inl ⟨fun q e => by simp_all, rfl⟩
    · rename_i hc
      refine .inr ⟨p, h, by simpa using hc, ?_⟩
      split
      · exact .inl ⟨by assumption, rfl⟩
      · exact .inr ⟨_, by assumption, rfl, by split <;> rfl⟩

end Sys2Proof.Machine
end

