-- ==== Sys2Proof/Laws/Requests.lean ====
section
/-! SUPPORT. What taking and answering a request does (R176 to R179): the one lemma that statements about requests
cite in place of unfolding the agent. -/

namespace Sys2Proof.Machine

/-! ## The arbiter -/

theorem arbitrate_eq (s : State) :
    arbitrate s = { s with uplink := { s.uplink with sending := (arbitrate s).uplink.sending } } := by
  unfold arbitrate
  split <;> simp [State.onUplink]

@[simp] theorem arbitrate_agent (s : State) : (arbitrate s).agent = s.agent := by rw [arbitrate_eq]
@[simp] theorem arbitrate_feeders (s : State) : (arbitrate s).feeders = s.feeders := by rw [arbitrate_eq]
@[simp] theorem arbitrate_feeder (s : State) (f : FeederId) : (arbitrate s).feeder f = s.feeder f := by
  rw [arbitrate_eq]; rfl
@[simp] theorem arbitrate_meter (s : State) : (arbitrate s).meter = s.meter := by rw [arbitrate_eq]
@[simp] theorem arbitrate_responses (s : State) : (arbitrate s).uplink.responses = s.uplink.responses := by
  rw [arbitrate_eq]

/-! ## Keeping all but the answer -/

theorem AgentKept.refl (s : State) : AgentKept s s := ⟨rfl, rfl⟩

theorem OnlyAnswered.refl (s : State) : OnlyAnswered s s := ⟨rfl, rfl, rfl⟩

theorem OnlyAnswered.trans {s t u : State} (h1 : OnlyAnswered s t) (h2 : OnlyAnswered t u) : OnlyAnswered s u := by
  obtain ⟨a1, b1, c1⟩ := h1
  obtain ⟨a2, b2, c2⟩ := h2
  refine ⟨?_, ?_, ?_⟩
  · rw [a2, a1]
  · rw [b2, b1]
  · rw [c2, c1]

theorem arbitrate_only (s : State) : OnlyAnswered s (arbitrate s) := by
  refine ⟨?_, ?_, ?_⟩ <;> rw [arbitrate_eq]

/-- What waits before the arbiter of R151 for the response class, in order. -/
def waitingResponses (s : State) : List Response := s.uplink.responses ++ s.agent.hold

theorem offerResponse_waiting (r : Response) (s : State) :
    waitingResponses (offerResponse r s) = waitingResponses s ++ [r] := by
  unfold offerResponse waitingResponses
  split
  · rename_i h
    have : s.agent.hold = [] := by simpa using h.1
    simp [this]
  · simp

theorem offerResponse_only (r : Response) (s : State) : OnlyAnswered s (offerResponse r s) := by
  unfold offerResponse
  split <;> exact ⟨rfl, rfl, rfl⟩

theorem respond_eq (tag : BitVec 16) (kind : Nat) (v : Verdict) (s : State) :
    respond tag kind v s = offerResponse (match v with
      | .done body => ⟨s.agent.partAddr, s.agent.controller, tag, kind, none, body⟩
      | .refused reason => ⟨s.agent.partAddr, s.agent.controller, tag, kind, some reason, .empty⟩) s := by
  cases v <;> rfl

theorem answer_only (tag : BitVec 16) (kind : Nat) (v : Verdict) (s : State) :
    OnlyAnswered s (answer tag kind v s) := by
  unfold answer
  rw [respond_eq]
  exact OnlyAnswered.trans ⟨rfl, rfl, rfl⟩ (offerResponse_only _ _)

theorem dropRequest_only (s : State) : OnlyAnswered s (dropRequest s) := ⟨rfl, rfl, rfl⟩

theorem answerWaiting_only (l : List Inbound) (s : State) : OnlyAnswered s (answerWaiting l s) := by
  induction l generalizing s with
  | nil => exact ⟨rfl, rfl, rfl⟩
  | cons i l ih =>
    cases i with
    | request c => exact ⟨rfl, rfl, rfl⟩
    | answer tag kind reason =>
      simp only [answerWaiting]
      refine OnlyAnswered.trans ?_ (ih _)
      split
      · exact dropRequest_only s
      · exact answer_only _ _ _ s

theorem answerWaiting_waiting (l : List Inbound) (s : State) :
    ∃ later, waitingResponses (answerWaiting l s) = waitingResponses s ++ later := by
  induction l generalizing s with
  | nil => exact ⟨[], by simp [answerWaiting, waitingResponses]⟩
  | cons i l ih =>
    cases i with
    | request c => exact ⟨[], by simp [answerWaiting, waitingResponses]⟩
    | answer tag kind reason =>
      simp only [answerWaiting]
      split
      · obtain ⟨later, h⟩ := ih (dropRequest s)
        exact ⟨later, h⟩
      · obtain ⟨later, h⟩ := ih (answer tag kind (.refused reason) s)
        rw [h]
        unfold answer
        rw [respond_eq, offerResponse_waiting]
        exact ⟨⟨s.agent.partAddr, s.agent.controller, tag, kind, some reason, .empty⟩ :: later, by simp [waitingResponses]⟩

/-! ## Taking a request -/

/-- The refusal a verdict carries. -/
def Verdict.reason : Verdict → Option Reject
  | .done _ => none
  | .refused r => some r

/-- The body a verdict's response carries. -/
def Verdict.body : Verdict → ResponseBody
  | .done b => b
  | .refused _ => .empty

theorem respond_waiting (tag : BitVec 16) (kind : Nat) (v : Verdict) (s : State) :
    waitingResponses (respond tag kind v s) =
      waitingResponses s ++ [⟨s.agent.partAddr, s.agent.controller, tag, kind, v.reason, v.body⟩] := by
  rw [respond_eq, offerResponse_waiting]; cases v <;> rfl

theorem requestDone_only (s : State) : OnlyAnswered s (requestDone s) :=
  OnlyAnswered.trans (answerWaiting_only _ _) (arbitrate_only _)

theorem requestDone_waiting (s : State) :
    ∃ later, waitingResponses (requestDone s) = waitingResponses s ++ later := by
  obtain ⟨later, h⟩ := answerWaiting_waiting (s.agent.inbox.drop 1) s
  refine ⟨later, ?_⟩
  rw [← h]
  unfold requestDone waitingResponses
  rw [arbitrate_responses, arbitrate_agent]

/-- What `inTurn` can do: the request's effect and the agent's next frames, or nothing. -/
theorem inTurn_eq (c : Instr) (take : State → State) (s : State) :
    inTurn c take s = if s.turn c then requestDone (take s) else s := rfl

/-- A request out of its turn changes nothing. -/
theorem inTurn_waits {c : Instr} {take : State → State} {s : State} (h : s.turn c = false) : inTurn c take s = s := by
  simp [inTurn, h]

/-- An answer stands behind the responses that waited. -/
theorem respond_answered (h : MgmtHead) (kind : Nat) (v : Verdict) (s : State) :
    Answered h kind v.reason v.body s (requestDone (respond h.tag kind v s)) ∧
      OnlyAnswered s (requestDone (respond h.tag kind v s)) := by
  constructor
  · obtain ⟨later, hl⟩ := requestDone_waiting (respond h.tag kind v s)
    refine ⟨later, ?_⟩
    change waitingResponses _ = _
    rw [hl, respond_waiting]
    simp [waitingResponses, responseTo]
  · refine OnlyAnswered.trans ?_ (requestDone_only _)
    rw [respond_eq]
    exact offerResponse_only _ _

theorem answer_answered (h : MgmtHead) (kind : Nat) (v : Verdict) (s : State) :
    Answered h kind v.reason v.body s (requestDone (answer h.tag kind v s)) ∧
      OnlyAnswered s (requestDone (answer h.tag kind v s)) := by
  obtain ⟨h1, h2⟩ := respond_answered h kind v
    (s.onAgent fun a => { a with count := { a.count with taken := a.count.taken + 1 } })
  exact ⟨h1, OnlyAnswered.trans ⟨rfl, rfl, rfl⟩ h2⟩

/-- The agent takes a request that finds it BOUND, from the controller, with a free place in the hold. -/
theorem whenBound_takes {h : MgmtHead} {take : State → State} {s : State} (hb : s.agent.bind = .bound)
    (hc : s.agent.controller = some h.src) (hh : s.agent.hold.length < Config.holdPlaces) :
    whenBound h take s = take s := by
  have hf : holdFull s = false := by simpa [holdFull] using hh
  simp [whenBound, hb, hc, hf]

/-- What `takeRequest` does when the agent takes the request (R178): the state the owner leaves, answered. -/
theorem takeRequest_accepts {c : Instr} {h : MgmtHead} {kind : Nat} {D : State → State × Verdict} {s : State}
    (ha : Accepts c h s) :
    Answered h kind (D s).2.reason (D s).2.body (D s).1 (takeRequest c h kind D s) ∧
      OnlyAnswered (D s).1 (takeRequest c h kind D s) := by
  obtain ⟨_, ht, hb, hc, hh⟩ := ha
  have key : takeRequest c h kind D s = requestDone (answer h.tag kind (D s).2 (D s).1) := by
    rw [takeRequest, inTurn_eq, ht, if_pos rfl, whenBound_takes hb hc hh]
  rw [key]
  exact answer_answered h kind _ _

/-- A request of the agent's table that is decided DONE (R178). -/
theorem done_of {c : Instr} {h : MgmtHead} {kind : Nat} {D : State → State × Verdict} {s X : State}
    {body : ResponseBody} (ha : Accepts c h s) (he : exec c s = live s (takeRequest c h kind D))
    (hD : D s = (X, .done body)) : Done c h kind body s X := by
  obtain ⟨h1, h2⟩ := takeRequest_accepts (kind := kind) (D := D) ha
  rw [hD] at h1 h2
  exact ⟨_, by rw [he, live, ha.1]; rfl, h1, h2⟩

/-- A request of the agent's table that is refused (R179). -/
theorem refuses_of {c : Instr} {h : MgmtHead} {kind : Nat} {D : State → State × Verdict} {s : State}
    {reason : Reject} (ha : Accepts c h s) (he : exec c s = live s (takeRequest c h kind D))
    (hD : D s = refuseWith reason s) : Refuses c h kind reason s := by
  obtain ⟨h1, h2⟩ := takeRequest_accepts (kind := kind) (D := D) ha
  rw [hD] at h1 h2
  exact ⟨_, by rw [he, live, ha.1]; rfl, h1, h2⟩

/-! ## Timeouts due, taken before the command that finds them (R87, R88, R176) -/

theorem bindTimeout_due {s : State} (hb : s.agent.bind = .binding) (ha : 4000 ≤ s.agent.bindAge) :
    bindTimeout s = { s with agent := { s.agent with
      bind := .unbound, controller := none, partAddr := none, bindNumber := 0 } } := by
  simp only [bindTimeout, State.onAgent]; rw [if_pos ⟨hb, ha⟩]

theorem bindTimeout_not_due {s : State} (h : s.agent.bind ≠ .binding ∨ s.agent.bindAge < 4000) : bindTimeout s = s := by
  have : ¬ (s.agent.bind = .binding ∧ Config.longCycles ≤ s.agent.bindAge) := by
    have : Config.longCycles = 4000 := rfl
    rintro ⟨hb, ha⟩; rcases h with h | h
    · exact h hb
    · omega
  simp only [bindTimeout, State.onAgent]; rw [if_neg this]

theorem takeBind_not_due {h : MgmtHead} {n : Nat} {s : State} (hd : s.agent.bind ≠ .binding ∨ s.agent.bindAge < 4000) :
    takeBind h n s = bindDecided h n s := by rw [takeBind, bindTimeout_not_due hd]

theorem timeoutFirst_none {f : FeederId} {tag : FactoryTag} {s : State} (h : (s.feeder f).entryOf tag = none) :
    timeoutFirst f tag s = s := by simp only [timeoutFirst, h]

theorem timeoutFirst_due {f : FeederId} {tag : FactoryTag} {e : ReplyEntry} {s : State}
    (h : (s.feeder f).entryOf tag = some e) (hd : e.timeoutDue = true) (hn : e.decline = none) :
    timeoutFirst f tag s = declineEntry f e .timeout s := by simp [timeoutFirst, timeoutEntry, h, hd, hn]

theorem timeoutFirst_not_due {f : FeederId} {tag : FactoryTag} {e : ReplyEntry} {s : State}
    (h : (s.feeder f).entryOf tag = some e) (hd : e.timeoutDue = false ∨ e.decline ≠ none) :
    timeoutFirst f tag s = s := by
  simp only [timeoutFirst, timeoutEntry, h]
  rcases hd with hd | hd
  · simp [hd]
  · simp [hd]

end Sys2Proof.Machine
end

