-- ==== Sys2Proof/Laws/Traffic.lean ====
section
/-! SUPPORT. What the account gate can do (R145, R146). -/

namespace Sys2Proof.Machine

/-- The account gate passes a frame exactly for a NORMAL account, or for a THROTTLED one whose floor rate is at least 64
and whose bucket holds the frame's bytes. -/
theorem gate_eq_none_iff (a : Account) (len : Nat) :
    gate a len = none ↔ a.state = .normal ∨ (a.state = .throttled ∧ 64 ≤ a.floorRate ∧ len ≤ a.bucket) := by
  unfold gate
  split
  · simp_all
  · simp_all
  · split <;> simp_all [Config.minFrame]

/-- A frame that the gate stops is counted once, by the account's state. -/
theorem gate_eq_some {a : Account} {len : Nat} {g : DownstreamCounters → DownstreamCounters} (h : gate a len = some g)
    (c : DownstreamCounters) :
    (a.state = .suspended ∧ g c = { c with suspended := c.suspended + 1 }) ∨
    (a.state = .throttled ∧ (a.floorRate < 64 ∨ a.bucket < len) ∧
      g c = { c with floorExceeded := c.floorExceeded + 1 }) := by
  unfold gate at h
  split at h
  · cases h
  · rename_i hs; cases h; exact .inl ⟨hs, rfl⟩
  · rename_i hs
    split at h
    · cases h
    · rename_i hn
      cases h
      refine .inr ⟨hs, ?_, rfl⟩
      simp only [Config.minFrame] at hn
      omega

end Sys2Proof.Machine
end

