-- ==== Sys2Proof/Laws/Uplink.lean ====
section
/-! SUPPORT. What joining a class can do (R173, R179, R183): one lemma for each of `releaseHeld`, `offerNotice`,
`exportRecords` and `exportStatement` that says every outcome, and the frame of `handOver` with the order of what waits. -/

namespace Sys2Proof.Machine

@[simp] theorem arbitrate_notices (s : State) : (arbitrate s).uplink.notices = s.uplink.notices := by rw [arbitrate_eq]
@[simp] theorem arbitrate_statements (s : State) : (arbitrate s).uplink.statements = s.uplink.statements := by
  rw [arbitrate_eq]

/-- A held response joins its class, or nothing moves and none could. -/
theorem releaseHeld_cases (s : State) :
    (releaseHeld s = s ∧ (s.agent.hold = [] ∨ Config.classPlaces ≤ s.uplink.responses.length)) ∨
    ∃ r rest, s.agent.hold = r :: rest ∧ s.uplink.responses.length < Config.classPlaces ∧
      releaseHeld s = arbitrate { s with agent := { s.agent with hold := rest }
                                         uplink := { s.uplink with responses := s.uplink.responses ++ [r] } } := by
  unfold releaseHeld
  split
  · rename_i h; exact .inl ⟨rfl, .inl h⟩
  · rename_i r rest h
    split
    · rename_i hp; exact .inr ⟨r, rest, h, hp, rfl⟩
    · rename_i hp; exact .inl ⟨rfl, .inr (Nat.le_of_not_lt hp)⟩

/-- A waiting notice joins its class, or nothing moves and none could. -/
theorem offerNotice_cases (s : State) :
    (offerNotice s = s ∧ (s.agent.notices = [] ∨ Config.classPlaces ≤ s.uplink.notices.length)) ∨
    ∃ n rest, s.agent.notices = n :: rest ∧ s.uplink.notices.length < Config.classPlaces ∧
      offerNotice s = arbitrate { s with agent := { s.agent with notices := rest }
                                         uplink := { s.uplink with notices := s.uplink.notices ++ [n] } } := by
  unfold offerNotice
  split
  · rename_i h; exact .inl ⟨rfl, .inl h⟩
  · rename_i n rest h
    split
    · rename_i hp; exact .inr ⟨n, rest, h, hp, rfl⟩
    · rename_i hp; exact .inl ⟨rfl, .inr (Nat.le_of_not_lt hp)⟩

/-- No record may go exactly when one of R173's conditions fails. -/
theorem exportNumber_eq_zero (s : State) : exportNumber s = 0 ↔ s.meter.queue = [] ∨ s.meter.held = true ∨
    Config.exportsPerCycle ≤ s.meter.exportCount ∨ Config.classPlaces ≤ s.uplink.statements.length := by
  unfold exportNumber
  split <;> simp_all [← List.length_eq_zero_iff]
  omega

/-- Handing over what may go leaves nothing that may. -/
theorem exportNumber_exportRecords (s : State) : exportNumber (exportRecords s) = 0 := by
  rw [exportNumber_eq_zero]
  simp only [exportRecords, exportFirst, State.onMeter, State.onUplink, ← List.length_eq_zero_iff, List.length_drop,
    List.length_append, List.length_take]
  unfold exportNumber
  split
  · rename_i h; exact .inr (.inl h)
  · omega

/-- Handing over no record changes nothing. -/
theorem exportFirst_zero (s : State) : exportFirst 0 s = s := by simp [exportFirst, State.onMeter, State.onUplink]

@[simp] theorem exportNumber_arbitrate (s : State) : exportNumber (arbitrate s) = exportNumber s := by
  simp [exportNumber]

/-- The test as an event of its own: the records that may go have gone and the arbiter has run, or none may and nothing
moves. -/
theorem exportAndSend_cases (s : State) :
    (exportAndSend s = s ∧ exportNumber s = 0) ∨
    (exportNumber s ≠ 0 ∧ exportAndSend s = arbitrate (exportRecords s)) := by
  unfold exportAndSend
  split
  · rename_i h; exact .inl ⟨rfl, h⟩
  · rename_i h; exact .inr ⟨h, rfl⟩

/-- After the test none may go. -/
theorem exportNumber_exportAndSend (s : State) : exportNumber (exportAndSend s) = 0 := by
  obtain ⟨h, hz⟩ | ⟨-, h⟩ := exportAndSend_cases s <;> rw [h]
  · exact hz
  · simp [exportNumber_exportRecords]

/-- The head record is handed over, or nothing moves and none could. -/
theorem exportStatement_cases (s : State) :
    (exportStatement s = s ∧ exportNumber s = 0) ∨
    ∃ r rest, s.meter.queue = r :: rest ∧ exportNumber s ≠ 0 ∧
      exportStatement s = arbitrate { s with
        meter := { s.meter with queue := rest, exportCount := s.meter.exportCount + 1, exported := s.meter.exported + 1 }
        uplink := { s.uplink with statements := s.uplink.statements ++ [r] } } := by
  unfold exportStatement
  split
  · rename_i h; exact .inl ⟨rfl, h⟩
  · rename_i h
    match hq : s.meter.queue with
    | [] => exact absurd ((exportNumber_eq_zero s).2 (.inl hq)) h
    | r :: rest => exact .inr ⟨r, rest, rfl, h, by simp [exportFirst, State.onMeter, State.onUplink, hq]⟩

/-- What joining a class leaves alone, and the order that it keeps: of the responses, the notices and the statements. -/
structure Joined (s t : State) : Prop where
  frame : t = { s with agent := { s.agent with hold := t.agent.hold, notices := t.agent.notices }
                       meter := { s.meter with queue := t.meter.queue, exportCount := t.meter.exportCount
                                               exported := t.meter.exported }
                       uplink := { s.uplink with responses := t.uplink.responses, notices := t.uplink.notices
                                                 statements := t.uplink.statements, sending := t.uplink.sending } }
  responses : waitingResponses t = waitingResponses s
  notices : t.uplink.notices ++ t.agent.notices = s.uplink.notices ++ s.agent.notices
  statements : t.uplink.statements ++ t.meter.queue = s.uplink.statements ++ s.meter.queue

theorem Joined.refl (s : State) : Joined s s := ⟨rfl, rfl, rfl, rfl⟩

theorem Joined.trans {s t u : State} (h1 : Joined s t) (h2 : Joined t u) : Joined s u :=
  ⟨by rw [h2.frame, h1.frame], h2.responses.trans h1.responses, h2.notices.trans h1.notices,
    h2.statements.trans h1.statements⟩

theorem Joined.arbitrate {s t : State} (h : Joined s t) : Joined s (arbitrate t) :=
  ⟨by rw [arbitrate_eq, h.frame], by simpa [waitingResponses] using h.responses, by simpa using h.notices,
    by simpa using h.statements⟩

theorem releaseHeld_joined (s : State) : Joined s (releaseHeld s) := by
  obtain ⟨h, -⟩ | ⟨r, rest, h, -, ht⟩ := releaseHeld_cases s
  · rw [h]; exact .refl s
  · rw [ht]; exact Joined.arbitrate ⟨rfl, by simp [waitingResponses, h], rfl, rfl⟩

theorem offerNotice_joined (s : State) : Joined s (offerNotice s) := by
  obtain ⟨h, -⟩ | ⟨n, rest, h, -, ht⟩ := offerNotice_cases s
  · rw [h]; exact .refl s
  · rw [ht]; exact Joined.arbitrate ⟨rfl, rfl, by simp [h], rfl⟩

theorem exportFirst_joined (k : Nat) (s : State) : Joined s (exportFirst k s) :=
  ⟨rfl, rfl, rfl, by simp [exportFirst, State.onMeter, State.onUplink]⟩

theorem exportAndSend_joined (s : State) : Joined s (exportAndSend s) := by
  obtain ⟨h, -⟩ | ⟨-, h⟩ := exportAndSend_cases s <;> rw [h]
  · exact .refl s
  · exact (exportFirst_joined _ s).arbitrate

theorem exportStatement_joined (s : State) : Joined s (exportStatement s) := by
  unfold exportStatement
  split
  · exact .refl s
  · exact (exportFirst_joined 1 s).arbitrate

theorem Joined.repeat {g : State → State} (hg : ∀ s, Joined s (g s)) (n : Nat) (s : State) :
    Joined s (Nat.repeat g n s) := by
  induction n with
  | zero => exact .refl s
  | succ n ih => exact ih.trans (hg _)

/-- Everything that joins a class before a cycle start keeps its order, and nothing else moves (R173, R179, R183). -/
theorem handOver_joined (s : State) : Joined s (handOver s) :=
  ((Joined.repeat releaseHeld_joined _ s).trans (Joined.repeat offerNotice_joined _ _)).trans
    (exportAndSend_joined _)

end Sys2Proof.Machine
end

