-- ==== Sys2Proof/Tests/Slice0.lean ====
section
/-! SUPPORT. Tests: ill-formed terms that WellFormed refuses, words and worked examples of spec/ run through the model,
and for every statement that has hypotheses a concrete state and operands that meet them. -/

namespace Sys2Proof.Tests

open Sys2Proof.Machine

set_option Elab.async false

/-! ## States -/

/-- A request's head: from address 1 to address 2, tag 7. -/
def hd : MgmtHead := ⟨1, 2, 7⟩

/-- A head from a foreign address. -/
def foreignHd : MgmtHead := ⟨9, 2, 7⟩

/-- The part bound to controller 1. -/
def bound : State := { State.reset with agent := { Agent.reset with bind := .bound, controller := some 1, partAddr := some 2 } }

/-- A binding begun by `hd` with number 5. -/
def binding : State := { State.reset with agent :=
  { Agent.reset with bind := .binding, controller := some 1, partAddr := some 2, bindNumber := 5, bindAge := 4000 } }

/-- That binding one cycle before its timeout. -/
def youngBinding : State := { binding with agent := { binding.agent with bindAge := 3999 } }

/-- The part bound, with one feeder F0 and the Usage Meter's accounts given. -/
def withF0 (x : Feeder) (accounts : Tbl Account) : State :=
  { bound with feeders := { bound.feeders with f0 := x }, meter := { Meter.reset with accounts := accounts } }

/-- An equalised record with lane 0 enabled under profile 1. -/
def record (st : DropState) : DropRecord :=
  { DropRecord.empty with state := st, tag := 77, laneCount := 1, profiles := ⟨1, 0, 0, 0⟩, rtd := 960000, eqd := 960000 }

/-- A reply entry with a tag. -/
def reply (tag : FactoryTag) (status : ReplyStatus) (decline : Option (DeclineReason × OrderStatus)) (serial : Nat) :
    ReplyEntry := ⟨tag, 1, 0, 300000, 0, status, 0, decline, serial, decide (status = .waitingHost)⟩

/-- A running feeder with a drop in each state of interest. -/
def lifeF : Feeder := { Feeder.reset with
  running := true
  drops := [(1, { record .active with idle := 16000, dozeDue := true }), (2, { record .darkened with resume := some .dozing, cause := some .host }),
    (3, record .quarantined), (4, { record .ranging with phase := some .measuring, inFlight := some ⟨0, 200, 48000⟩ }),
    (5, record .leaving), (6, { record .silent with pending := some ⟨.equalise, .queued⟩ }),
    (7, { record .darkened with resume := some .active, cause := some .isolation }), (64, record .dozing)]
  replies := [reply 10 .lookup none 1, reply 11 .waitingHost none 2, reply 12 .lookup (some (.denied, .held)) 3] }

/-- Accounts: bound NORMAL 0, THROTTLED 1, SUSPENDED 2, NORMAL 255. -/
def books : Tbl Account :=
  [(0, { Account.reset with loaded := true, bound := some (.f0, 1), allowance := 5 }),
   (1, { Account.reset with loaded := true, state := .throttled, floorRate := 3000, bound := some (.f0, 64), bucket := 100 }),
   (2, { Account.reset with loaded := true, state := .suspended, bound := some (.f0, 6) }),
   (255, { Account.reset with loaded := true, allowance := 5 })]

/-- The bound part with that feeder and those accounts. -/
def life : State := withF0 lifeF books

/-- A plan held for cycle 0: a burst, a ranging window, a discovery window, the dark slot. -/
def slot0 (st : SlotState) : Slot := ⟨st, 0,
  [⟨.burst 1 0 73 [(0, 44)] none, .nothing, .unresolved⟩, ⟨.ranging 4 200 48000, .nothing, .unresolved⟩,
   ⟨.discovery 7928 17008 63928, .nothing, .unresolved⟩, ⟨.dark 24936 64, .nothing, .unresolved⟩], LightRecord.dark⟩

/-- The line of F0 with plan 0 being received and a reader given. -/
def line (r : Reader) : State := withF0 { lifeF with
  ring := ⟨some (slot0 .receiving), some { slot0 .waiting with cycle := 1 }, none, none⟩
  detector := { Detector.off with looking := true, inCycle := true, passed := true, raw := 10, measured := 49999 }, reader := r } books

/-- A label word: index, kind, count, with its check. -/
def label (i kind count : Nat) : Word :=
  let w : Word := BitVec.ofNat 32 (i * 2 ^ 24 + kind * 2 ^ 20 + count * 2 ^ 16)
  w ||| (labelCheck w).setWidth 32

/-! ## WellFormed refuses ill-formed commands -/

theorem test_wf_cycleStart_repeat : (Instr.cycleStart [.refill, .refill]).wellFormed = false := by decide
theorem test_wf_cycleStart_piece : (Instr.cycleStart [.closeThrough 256]).wellFormed = false ∧
    (Instr.cycleStart [.framesTo .f0 0]).wellFormed = false ∧ (Instr.cycleStart [.framesTo .f0 513]).wellFormed = false ∧
    (Instr.cycleStart [.closeThrough 255, .framesTo .f0 512]).wellFormed = true := by decide
theorem test_wf_doze_index : (Instr.doze .f0 65).wellFormed = false ∧ (Instr.doze .f0 0).wellFormed = false := by decide
theorem test_wf_ageOut_lane : (Instr.reassemblyAgeOut .f0 1 4).wellFormed = false := by decide
theorem test_wf_ageOut_index : (Instr.reassemblyAgeOut .f0 0 0).wellFormed = false := by decide
theorem test_wf_cycleEnd_words : (Instr.upstreamCycleEnd .f0 0 [⟨true, 25001⟩]).wellFormed = false := by decide
theorem test_wf_span : (Instr.syncMarkMeasured .f0 1024).wellFormed = false := by decide
theorem test_wf_segment_empty : (Instr.segmentSplit .f0 []).wellFormed = false := by decide
theorem test_wf_resolved_index :
    (Instr.burstWindowResolved .f0 0 0).wellFormed = false ∧ (Instr.rangingWindowResolved .f0 0 65).wellFormed = false := by
  decide
theorem test_wf_light_words : (Instr.stuckOnset .f0 25001).wellFormed = false ∧ (Instr.stuckClear .f0 25001).wellFormed = false := by
  decide
theorem test_wf_field4 : (Instr.bind hd (2 ^ 32)).wellFormed = false ∧ (Instr.read hd 1 (2 ^ 32)).wellFormed = false ∧
    (Instr.feederStart hd (2 ^ 32)).wellFormed = false ∧ (Instr.remove hd 0 (2 ^ 32)).wellFormed = false ∧
    (Instr.suspend hd (2 ^ 32)).wellFormed = false ∧ (Instr.setTariffClock hd 0 0 (2 ^ 32)).wellFormed = false := by
  decide +kernel
theorem test_wf_field8 : (Instr.topUp hd 0 (2 ^ 64)).wellFormed = false := by decide +kernel
theorem test_wf_absent : (Instr.writeTagMap hd 1 (some (2 ^ 32 - 1))).wellFormed = false ∧
    (Instr.isolate hd 0 (some (2 ^ 32 - 1))).wellFormed = false := by decide +kernel
theorem test_wf_records : (Instr.writeProfile hd 1 ⟨2 ^ 32, 0, 1, 1⟩).wellFormed = false ∧
    (Instr.writeFlow hd 1 ⟨0, 2 ^ 32, 0, 1, 0⟩).wellFormed = false ∧
    (Instr.writeAdmission hd 0 ⟨0, 0, 0, none, 0, ⟨2 ^ 32, 0, 0, 0⟩⟩).wellFormed = false ∧
    (Instr.admitReply hd 0 ⟨0, 0, none, 2 ^ 32, ⟨0, 0, 0, 0⟩⟩).wellFormed = false ∧
    (Instr.writeFeeder hd 0 ⟨2 ^ 32, 0, 0, 0, 0, 0, 0, 0, 0, 0, 0, 0, 0, 0, 0, 0, 0, 0, 0⟩).wellFormed = false := by
  decide +kernel
theorem test_wf_unload : (Instr.writeAccount hd 0 ⟨0, 1, 0, 0, 0, 0, 0, 0⟩).wellFormed = false := by decide
theorem test_wf_plan : (Instr.writeTariffPlan hd 0 ⟨[0], [0, 0, 0, 0]⟩).wellFormed = false := by decide
theorem test_wf_flags : (Instr.clearFlags hd [2 ^ 32]).wellFormed = false := by decide +kernel

/-! ## The checks of R186 against the published check values of these two CRCs (the digits 1 to 9 in ASCII) -/

/-- The digits 1 to 9 in ASCII. -/
def digits : List Byte := [0x31, 0x32, 0x33, 0x34, 0x35, 0x36, 0x37, 0x38, 0x39]

theorem test_labelCrc : (digits.flatMap bitsOf).foldl (crcBit 0x1021#16) (BitVec.allOnes 16) = 0x29B1#16 := by decide +kernel
theorem test_endCrc : endCheckBytes digits = 0xFC891918#32 := by decide +kernel

/-! ## Worked examples of spec/ -/

/-- The feeder of the example of 02 section 2.5 before its build. -/
def ex25 : Feeder := { Feeder.reset with
  running := true
  drops := [(3, { record .active with profiles := ⟨1, 2, 0, 0⟩, lastPlanned := 99 }),
    (7, { record .active with profiles := ⟨3, 0, 0, 0⟩, lastPlanned := 99 }),
    (12, { record .active with profiles := ⟨4, 5, 6, 0⟩, lastPlanned := 99 })]
  pointer := (12, 1)
  lanes := [(8, ⟨192, 0, 500, 0⟩), (9, ⟨768000, 2500, 500, 0⟩), (24, ⟨0, 40, 0, 0⟩), (44, ⟨5120000, 30000, 4000, 0⟩),
    (45, ⟨0, 9000, 0, 0⟩), (46, ⟨128, 0, 0, 0⟩)] }

/-- Its profiles, in force for NORMAL accounts. -/
def force25 (d l : Nat) : Option Profile :=
  [none, some ⟨.fixed, 256128, 2000, 16⟩, some ⟨.assured, 1024000, 6000, 64⟩, some ⟨.assured, 128000, 1000, 64⟩,
   some ⟨.shared, 5120000, 20000, 256⟩, some ⟨.shared, 2560000, 12000, 256⟩, some ⟨.shared, 25600, 200, 256⟩].getD
   ((ex25.drop d).profiles.get l) none

theorem test_build_2_5 : let b := buildGrants 24936 100 force25 ex25
    b.used = 24936 ∧ b.cut = false ∧ b.feeder.pointer = (12, 1) ∧
    b.bursts = [(3, [(0, 1001), (1, 2000)], none), (7, [(0, 40)], none), (12, [(0, 12757), (1, 9000), (2, 0)], none)] ∧
    b.feeder.lane 3 0 = ⟨64, 0, 1501, 0⟩ ∧ b.feeder.lane 3 1 = ⟨1024000, 2500, 2500, 0⟩ ∧
    b.feeder.lane 7 0 = ⟨117760, 40, 40, 0⟩ ∧ b.feeder.lane 12 0 = ⟨1854208, 30000, 16757, 0⟩ ∧
    b.feeder.lane 12 1 = ⟨256000, 9000, 9000, 0⟩ ∧ b.feeder.lane 12 2 = ⟨25728, 0, 0, 0⟩ := by decide +kernel

/-- 03 section 3.2. -/
theorem test_layout_3_2 : layPlan Settings.reset (fun _ => 365000) [(2, [(0, 3000)], none), (6, [(0, 0), (1, 0)], some .poll)] [20] true =
    [.burst 2 0 3029 [(0, 3000)] none, .burst 6 3045 30 [(0, 0), (1, 0)] (some .poll), .ranging 20 3091 51693,
     .discovery 7928 17008 63928, .dark 24936 64] := by decide +kernel

/-- 06 section 6.6: the RTD of the reply and of the range reply. -/
theorem test_discoveryRtd_6_6 : Settings.reset.discoveryRtd 500936 5 = 365000 := by decide +kernel

/-- 06 section 6.6: the range reply fixes RTD and EQD. -/
theorem test_rangeReply_6_6 : let s := rangeReceived .f0 4 ⟨8, 2000, 50602⟩ 64264 life
    (s.drop .f0 4).rtd = 365000 ∧ (s.drop .f0 4).eqd = 1555000 ∧ (s.drop .f0 4).phase = some .equalising := by decide +kernel

/-- 06 section 6.7. -/
theorem test_drift_6_7 :
    let s := correctDrift .f0 1 40 (life.onDrop .f0 1 fun r => { r with rtd := 365000, eqd := 1555000 })
    (s.drop .f0 1).eqd = 1554960 ∧ (s.drop .f0 1).rtd = 365040 ∧ (s.drop .f0 1).correctionPending = true := by decide +kernel

/-- 04 section 4.8: the transition at bit 101,032 is taken, the one at 101,300 is not. -/
theorem test_arrival_4_8 : arrivalPosition (8 * 101032) = 100264 ∧
    (Entry.burst 12 3132 21788 [] none).accepts (arrivalPosition (8 * 101032)) = true ∧
    (Entry.burst 12 3132 21788 [] none).accepts (arrivalPosition (8 * 101300)) = false := by decide +kernel

/-- 09 section 9.7: four frames of a throttled drop. -/
theorem test_downstream_9_7 :
    let s0 := withF0 { lifeF with downQueue := List.replicate 510 ⟨[], 500, 64⟩ }
      (books.set Account.reset 1 { Account.reset with loaded := true, state := .throttled, floorRate := 3000, bound := some (.f0, 64), bucket := 3000 })
    let s0 := { s0 with tagMap := [(210, some 500)], flows := [(500, ⟨.f0, 64, 0, 900, true⟩)] }
    let s := [1500, 1200, 64, 1000].foldl (fun s len => admitDownstream 210 [] len s) s0
    (s.account 1).bucket = 300 ∧ (s.feeder .f0).downQueue.length = 512 ∧
    (s.feeder .f0).downCount = { DownstreamCounters.zero with queued := 2, queueFull := 1, floorExceeded := 1 } := by decide +kernel

/-- R146: a floor rate of 63 passes no frame, whatever the bucket holds; one of 64 passes a frame of 64 bytes. -/
theorem test_smallFloorRate :
    let a (rate : Nat) : Account := { Account.reset with loaded := true, state := .throttled, floorRate := rate, bucket := 64 }
    (gate (a 63) 64).isSome = true ∧ gate (a 64) 64 = none ∧ (gate (a 64) 65).isSome = true :=
  ⟨by decide, by rfl, by decide⟩

/-- 10 section 10.8: the five meterings. -/
theorem test_metering_10_8 :
    let a : Account := { Account.reset with
      loaded := true, scale := 6, plan := 3, allowance := 126, bound := some (.f3, 21), down := ⟨0, 1000, 0, 0⟩,
      up := ⟨0, 2000, 0, 0⟩, lifeDown := 5000000, lifeUp := 3000000 }
    let s0 := { bound with meter := { Meter.reset with
      accounts := [(77, a)], plans := [(3, ⟨⟨List.replicate 96 1, [0, 2, 0, 0]⟩, none⟩)] } }
    let s := [(false, 1000), (true, 2000), (false, 1500), (false, 600), (true, 1500)].foldl
      (fun s e => meterFrame e.1 .f3 21 e.2 s) s0
    s.account 77 = { a with state := .throttled, allowance := 0, overrun := 86, down := ⟨0, 1050, 0, 0⟩,
                            up := ⟨0, 2056, 0, 0⟩, lifeDown := 5003100, lifeUp := 3003500 } ∧
    s.agent.notices = [⟨s0.cycle, .accountThrottled 77 0 (some (.f3, 21)) 18⟩] := by decide +kernel

/-- 10 section 10.8: the build of an origin taken before and after the metering that throttles the account. -/
theorem test_framesFirst_10_8 :
    let x : Feeder := { Feeder.reset with
      running := true, drops := [(1, { record .active with lastPlanned := 99 })], lanes := [(0, ⟨0, 100, 0, 0⟩)]
      downQueue := [⟨List.replicate 96 0, 500, 1⟩] }
    let s0 := withF0 x [(0, { Account.reset with loaded := true, bound := some (.f0, 1), allowance := 5 })]
    let s0 := { s0 with cycle := 99, profiles := [(1, ⟨.assured, 25600, 200, 1⟩)],
                        meter := { s0.meter with plans := [(0, ⟨⟨List.replicate 96 0, [9, 0, 0, 0]⟩, none⟩)] } }
    let bursts := fun w : CycleWork => ((runWork 100 (s0.onFeeder .f0 fun x => x.newCycle 100) w).feeder .f0).sending.map fun c =>
      (c.plan.filter fun e => decide (e.windowId = some (.burst 1)), c.segments.length)
    bursts (.framesFirst .f0) = some ([], 1) ∧ bursts (.build .f0) = some ([.burst 1 0 129 [(0, 100)] none], 0) := by
  decide +kernel

/-- R160: a build between two meterings of one feeder's frames at an origin reads the NORMAL state that the second ends. -/
theorem test_buildBetweenMeterings :
    let x : Feeder := { Feeder.reset with
      running := true, drops := [(1, { record .active with lastPlanned := 99 })], lanes := [(0, ⟨0, 100, 0, 0⟩)]
      downQueue := List.replicate 2 ⟨List.replicate 96 0, 500, 1⟩ }
    let s0 := withF0 x [(0, { Account.reset with loaded := true, bound := some (.f0, 1), allowance := 901 })]
    let s0 := { s0 with cycle := 99, profiles := [(1, ⟨.assured, 25600, 200, 1⟩)],
                        meter := { s0.meter with plans := [(0, ⟨⟨List.replicate 96 0, [9, 0, 0, 0]⟩, none⟩)] } }
    let s := [CycleWork.framesTo .f0 1, .build .f0, .frames .f0].foldl (runWork 100) (s0.onFeeder .f0 fun x => x.newCycle 100)
    (schedule [.framesTo .f0 1, .build .f0]).take 4 = [.orders .f0, .framesTo .f0 1, .build .f0, .frames .f0] ∧
    (s.account 0).state = .throttled ∧
    (s.feeder .f0).sending.map (fun c => (c.plan.filter fun e => decide (e.windowId = some (.burst 1)), c.segments.length)) =
      some ([.burst 1 0 129 [(0, 100)] none], 2) := by decide +kernel

/-- 11 section 11.6: slot 5 takes the last but one place, slot 64 finds the queue full. -/
theorem test_close_11_6 :
    let r : Statement := ⟨0, 0, 0, ⟨0, 0, 0⟩, 1, ⟨0, 0, 0, 0⟩, ⟨0, 0, 0, 0⟩, 0, 0, false, false⟩
    let s0 := { bound with meter := { Meter.reset with
      accounts := [(5, { Account.reset with loaded := true, outage := 3 }), (64, { Account.reset with loaded := true, outage := 120 })]
      queue := List.replicate 511 r, nextNumber := 9001, pass := some ⟨5, ⟨12, 0, 9⟩⟩ } }
    let s := closeSteps 60 { s0 with meter := { s0.meter with held := true } }
    s.meter.queue.length = 512 ∧ s.meter.nextNumber = 9002 ∧ s.meter.lateCloses = 1 ∧ (s.account 5).outage = 0 ∧
    (s.account 64).outage = 120 ∧ (s.account 64).periods = 2 ∧ (s.account 64).lateClose = true := by decide +kernel

/-- 11 section 11.6 at origin(b): a downstream frame of 1,280 bytes metered to slot 64 between the steps of slots 18 and 64,
with the queue then full; and before the pass, with room, it goes into the record. -/
theorem test_between_steps_11_6 :
    let r : Statement := ⟨0, 0, 0, ⟨0, 0, 0⟩, 1, ⟨0, 0, 0, 0⟩, ⟨0, 0, 0, 0⟩, 0, 0, false, false⟩
    let x : Feeder := { Feeder.reset with
      running := true, drops := [(1, record .active)], downQueue := [⟨List.replicate 1276 0, 500, 1⟩]
      sending := some ⟨50, false, [], [], []⟩ }
    let a : Account := { Account.reset with
      loaded := true, scale := 6, allowance := 100, down := ⟨40000, 0, 2500, 0⟩, outage := 120, bound := some (.f0, 1) }
    let s0 := withF0 x [(18, { Account.reset with loaded := true }), (64, a)]
    let s0 := { s0 with meter := { s0.meter with
      plans := [(0, ⟨⟨List.replicate 96 0, [1, 0, 0, 0]⟩, none⟩)], held := true, queue := List.replicate 511 r
      pass := some ⟨6, ⟨12, 0, 50⟩⟩ } }
    let s := [CycleWork.closeThrough 18, .framesTo .f0 1, .closeThrough 64].foldl (runWork 50) s0
    (s.account 64).down = ⟨40020, 0, 2500, 0⟩ ∧ (s.account 64).allowance = 80 ∧ (s.account 64).lateClose = true ∧
    (s.account 64).periods = 2 ∧ s.meter.queue.length = 512 ∧ s.meter.lateCloses = 1 ∧ s.meter.pass = some ⟨65, ⟨12, 0, 50⟩⟩ ∧
    (let t := [CycleWork.framesTo .f0 1, .closeThrough 64].foldl (runWork 50)
      { s0 with meter := { s0.meter with queue := List.replicate 510 r } }
     (t.account 64).down = ⟨0, 0, 0, 0⟩ ∧ (t.meter.queue.getLast?.map fun q => q.down) = some ⟨40020, 0, 2500, 0⟩) := by
  decide +kernel

/-- 11 section 11.6: EXPORT_RESUME lets four records go at once and leaves 508; and with it between two close steps, the
second finds room. -/
theorem test_resume_11_6 :
    let r : Statement := ⟨0, 0, 0, ⟨0, 0, 0⟩, 1, ⟨0, 0, 0, 0⟩, ⟨0, 0, 0, 0⟩, 0, 0, false, false⟩
    let s0 := { bound with meter := { Meter.reset with
      accounts := [(130, { Account.reset with loaded := true })]
      held := true, queue := List.replicate 512 r, pass := some ⟨130, ⟨12, 0, 9⟩⟩ } }
    let s := closeStep (exportResume s0).1
    (exportResume s0).2 = .done (.exportState false 508) ∧ s.meter.queue.length = 509 ∧ s.meter.exportCount = 4 ∧
    s.uplink.statements.length = 4 ∧ (s.account 130).lateClose = false ∧ ((closeStep s0).account 130).lateClose = true := by
  decide +kernel

/-- R123: cycles 10 and 11 lit throughout, then five dark words; a limit brought down to two cycles was reached in 11. -/
theorem test_onset_before_dark :
    { Feeder.reset with detector := { Detector.off with cycle := 12, pos := 5, dark := 5, measured := 50000 } }.onsetCycle = 11 ∧
    { Feeder.reset with detector := { Detector.off with cycle := 12, pos := 5, passed := true, measured := 50005 } }.onsetCycle = 11 ∧
    { Feeder.reset with detector := { Detector.off with cycle := 12, pos := 5, passed := true, measured := 50004 } }.onsetCycle = 12 := by
  decide +kernel

/-- A READ of FLOW record 5 as a frame (R187) waits for its row. -/
theorem test_frame_read :
    let bytes : List Byte := [0, 0, 0, 0, 0, 2, 0, 0, 0, 0, 0, 1, 0x9B, 0x11, 1, 2, 0, 7, 0, 8, 0, 0, 0, 0, 0, 3, 0, 0, 0, 5] ++
      List.replicate 34 0
    ((classify bytes true bound).agent.inbox) = [.request (.read hd 3 5)] := by decide +kernel

/-- A first transition, its mark, a label and a body of one report and an idle header in a row (R54 to R58). -/
theorem test_burst_read :
    let w := label 1 1 1
    let x := ((((line .idle).feeder .f0).firstTransition (8 * 768)).markMeasured 449).readLabel w
    let x := { x with reader := match x.reader with
      | .body n i b body => .body n i b { body with lanes := [(0, 1)] }
      | r => r }
    ((x.readWord 44).readWord 0).readEnd (endCheck [w, 44, 0]) |>.foundFor 0 (.burst 1) = .received ⟨0, [44], false, false⟩ := by
  decide +kernel

/-! ## Witnesses: the hypotheses of each statement are met -/

/-- A sync mark's first transition follows 24 dark bit times or more and opens a run of 6 to 8 lit ones (R186). -/
theorem test_opensMark : opensMark ⟨0, 24, 6⟩ = true ∧ opensMark ⟨0, 24, 8⟩ = true ∧ opensMark ⟨0, 23, 8⟩ = false ∧
    opensMark ⟨0, 24, 5⟩ = false ∧ opensMark ⟨0, 24, 9⟩ = false := by decide

/-- Of two cycles 2^31 apart neither is after the other (R1). -/
theorem test_afterCycle : afterCycle 2147483648 0 = false ∧ afterCycle 0 2147483648 = false ∧ afterCycle 2147483647 0 = true ∧
    afterCycle 0 4294967295 = true ∧ afterCycle 5 5 = false := by decide

theorem test_noneOwed (s : State) (h : s.agent.inbox = []) : NoneOwed s := by
  intro i hi; rw [h] at hi; cases hi

theorem test_accepts_bound (c : Instr) : Accepts c hd bound := ⟨rfl, rfl, rfl, rfl, by decide +kernel⟩
theorem test_accepts_life (c : Instr) : Accepts c hd life := ⟨rfl, rfl, rfl, rfl, by decide +kernel⟩

/-- A running feeder with one ACTIVE drop. -/
def oneF : Feeder := { Feeder.reset with running := true, drops := [(1, record .active)] }

/-- The bound part with SUSPEND of slot 1 waiting first for the agent. -/
def waitsFor : State := { bound with agent := { bound.agent with inbox := [.request (.suspend hd 1)] } }

/-- A request out of its turn changes nothing (R178). -/
theorem test_outOfTurn : exec (.exportHold hd) waitsFor = .next waitsFor := by rfl

theorem test_witness_StepTakesFrontCommand :
    ({ bound with pending := [.closeStep] } : State).pending = [.closeStep] ∧ bound.pending = [] := by decide +kernel

theorem test_witness_HeldResetPinFreezesThePart :
    ({ bound with resetHeld := true } : State).resetHeld = true ∧ Instr.closeStep ≠ .powerOnReset ∧
    Instr.closeStep ≠ .resetPinHeld := by decide +kernel

/-- The bound part with the response hold full. -/
def holdFullState : State := { bound with agent := { bound.agent with hold := List.replicate 8 ⟨none, none, 0, 1, none, .empty⟩ } }

theorem test_witness_RequestsAreTakenInTheirTurn :
    (requestParts (.suspend hd 1) = some (hd, 15, put4 1) ∧ requestParts (.partReset foreignHd) = some (foreignHd, 21, []) ∧
      (15 : Nat) ≠ 1 ∧ (21 : Nat) ≠ 1) ∧
    (waitsFor.resetHeld = false ∧ waitsFor.agent.inbox = .request (.suspend hd 1) :: [] ∧
      Instr.suspend hd 1 ≠ .partReset foreignHd ∧ NoneOwed waitsFor) ∧
    (State.reset.resetHeld = false ∧ NoneOwed State.reset ∧ State.reset.agent.inbox = [] ∧ State.reset.agent.bind ≠ .bound) ∧
    (bound.resetHeld = false ∧ NoneOwed bound ∧ bound.agent.bind = .bound ∧ bound.agent.controller ≠ some foreignHd.src) ∧
    (holdFullState.resetHeld = false ∧ NoneOwed holdFullState ∧ holdFullState.agent.bind = .bound ∧
      holdFullState.agent.controller = some hd.src ∧ 8 ≤ holdFullState.agent.hold.length) ∧
    (bound.agent.bind = .bound ∧ bound.agent.controller = some hd.src ∧ bound.agent.hold.length < 8 ∧
      requestParts (.partReset hd) = some (hd, 21, [])) :=
  ⟨by decide +kernel, ⟨rfl, rfl, by decide, by intro i h; cases h with | head => exact ⟨_, rfl⟩ | tail _ h => cases h⟩,
    ⟨rfl, test_noneOwed _ rfl, rfl, by decide⟩, ⟨rfl, test_noneOwed _ rfl, rfl, by decide⟩,
    ⟨rfl, test_noneOwed _ rfl, rfl, rfl, by decide⟩, by decide +kernel⟩

theorem test_witness_BindingFollowsItsTable :
    State.reset.resetHeld = false ∧ (∀ n < 3, State.reset.turn (.bind hd n) = true ∧ bound.turn (.bind foreignHd n) = true) ∧ binding.turn (.bind hd 5) = true ∧
    8 ≤ holdFullState.agent.hold.length ∧ holdFullState.agent.controller = some hd.src ∧ holdFullState.turn (.bind hd 5) = true ∧
    State.reset.agent.hold.length < 8 ∧ State.reset.agent.bind = .unbound ∧
    binding.resetHeld = false ∧ binding.agent.hold.length < 8 ∧ binding.agent.bind = .binding ∧
    binding.agent.controller = some hd.src ∧ binding.agent.partAddr = some hd.dst ∧ binding.agent.bindNumber = 5 ∧
    ¬ (binding.agent.controller = some foreignHd.src ∧ binding.agent.partAddr = some foreignHd.dst ∧ binding.agent.bindNumber = 5) ∧
    bound.agent.hold.length < 8 ∧ bound.agent.bind = .bound ∧ bound.agent.controller = some hd.src ∧
    bound.agent.inbox = [] ∧ bound.agent.controller ≠ some foreignHd.src ∧ binding.agent.bindAge = 4000 ∧
    bound.agent.bind ≠ .binding ∧ State.reset.agent.bindAge < 4000 ∧
    (youngBinding.agent.bind = .binding ∧ youngBinding.agent.bindAge < 4000 ∧ youngBinding.agent.controller = some hd.src ∧
      youngBinding.agent.partAddr = some hd.dst ∧ youngBinding.agent.bindNumber = 5 ∧ youngBinding.agent.hold.length < 8 ∧
      youngBinding.turn (.bind hd 5) = true ∧ binding.turn (.bind foreignHd 5) = true) ∧
    (let full := { binding with agent := { binding.agent with hold := holdFullState.agent.hold } }
     full.resetHeld = false ∧ full.turn (.bind hd 5) = true ∧ full.agent.inbox = [] ∧ full.agent.bind ≠ .bound ∧
      8 ≤ full.agent.hold.length ∧ full.agent.bind = .binding ∧ 4000 ≤ full.agent.bindAge) := by decide +kernel

/-- R176: the BIND that would confirm a binding of age 3,999 finds one of age 4,000 ended, and begins another. -/
theorem test_bind_age :
    (∃ t, exec (.bind hd 5) youngBinding = .next t ∧ t.agent.bind = .bound) ∧
    ∃ t, exec (.bind hd 5) binding = .next t ∧ t.agent.bind = .binding ∧ t.agent.bindAge = 0 :=
  ⟨⟨_, rfl, by decide +kernel⟩, ⟨_, rfl, by decide +kernel⟩⟩

theorem test_witness_ReadReturnsASnapshot :
    (∀ c, Accepts c hd life) ∧ NoneOwed life ∧ (∃ t, exec (.read hd 12 0) life = .next t) ∧ 12 < 13 ∧
    [511, 63, 2047, 4095, 255, 15, 3, 255, 1023, 3, 3, 0].getD (1 - 1) 0 < 512 ∧
    511 ≤ [511, 63, 2047, 4095, 255, 15, 3, 255, 1023, 3, 3, 0].getD (1 - 1) 0 ∧
    [511, 63, 2047, 4095, 255, 15, 3, 255, 1023, 3, 3, 0].getD (12 - 1) 0 < 1 ∧
    0 ≤ [511, 63, 2047, 4095, 255, 15, 3, 255, 1023, 3, 3, 0].getD (12 - 1) 0 ∧
    255 = 64 * FeederId.f3.toNat + (64 - 1) ∧ 0 = 64 * FeederId.f0.toNat + (1 - 1) ∧
    1023 = 256 * FeederId.f3.toNat + 4 * (64 - 1) + 3 ∧ 3 = FeederId.f3.toNat :=
  ⟨test_accepts_life, test_noneOwed _ rfl, ⟨_, rfl⟩, by decide +kernel⟩

theorem test_witness_ProfileWriteClampsAndStores :
    (∀ c, Accepts c hd bound) ∧ 63 < 64 ∧ (1 ≤ 63 ∧ 63 ≤ 63 ∧ 4096 < (⟨0, 0, 1, 4097⟩ : ProfileFields).minGrant) ∧
    2 = LaneClass.shared.code ∧ 1 ≤ (⟨2, 6400001, 25001, 4096⟩ : ProfileFields).cap ∧
    (⟨2, 6400001, 25001, 4096⟩ : ProfileFields).minGrant ≤ 4096 :=
  ⟨test_accepts_bound, by decide +kernel⟩

theorem test_witness_TagMapWriteStores :
    (∀ c, Accepts c hd bound) ∧ 4095 < 4096 ∧ (some 5 : Option Nat).isSome ∧ 2047 < 2048 ∧ 4095 ≤ 4095 ∧
    (∀ k, (some 2047 : Option Nat) = some k → k ≤ 2047) ∧ (∃ t, exec (.partReset hd) bound = .next t) ∧
    (∃ t, exec (.feederStop hd 0) life = .next t) :=
  ⟨test_accepts_bound, by decide, by decide, by decide, by decide, by intro k h; cases h; decide, ⟨_, rfl⟩, ⟨_, rfl⟩⟩

theorem test_witness_FlowAndPlanWritesReplaceTheirRecord :
    let b := { bound with meter := { Meter.reset with boundaryDue := true, plans := [(15, ⟨PlanCopy.reset, some PlanCopy.reset⟩)] } }
    (∀ c, Accepts c hd bound) ∧
    (2047 < 2048 ∧ 4094 < (⟨0, 0, 0, 4095, 0⟩ : FlowFields).tag ∧ (⟨3, 64, 3, 4094, 1⟩ : FlowFields).feeder = FeederId.f3.toNat) ∧
    (∃ t, exec (.partReset hd) bound = .next t) ∧ (∃ t, exec (.feederStop hd 0) life = .next t) ∧
    (15 < 16 ∧ (∃ x ∈ (⟨[4], [0]⟩ : PlanFields).bands, 3 < x) ∧ (∀ x ∈ (⟨[3], [15]⟩ : PlanFields).bands, x ≤ 3) ∧
      ∀ x ∈ (⟨[3], [15]⟩ : PlanFields).weights, x ≤ 15) ∧
    (b.resetHeld = false ∧ b.meter.boundaryDue = true ∧ (b.tariffPlan 15).pending = some PlanCopy.reset) :=
  ⟨test_accepts_bound, by decide, ⟨_, rfl⟩, ⟨_, rfl⟩, by decide, by decide +kernel⟩

theorem test_witness_AdmissionWriteKeepsOnePlacePerTag :
    (∀ c, Accepts c hd bound) ∧ 511 < 512 ∧ 255 < (⟨1, 0, 0, none, 256, ⟨0, 0, 0, 0⟩⟩ : AdmissionFields).account ∧
    (∃ p, (⟨1, 0, 0, some 65, 0, ⟨0, 0, 0, 0⟩⟩ : AdmissionFields).preferred = some p ∧ 64 < p) ∧
    (∀ p, (⟨1, 1, 4, some 64, 255, ⟨63, 63, 63, 63⟩⟩ : AdmissionFields).preferred = some p → 1 ≤ p ∧ p ≤ 64) ∧
    (⟨1, 1, 4, some 64, 255, ⟨63, 63, 63, 63⟩⟩ : AdmissionFields).restriction = restrictionCode (some .f3) :=
  ⟨test_accepts_bound, by decide, by decide, ⟨65, rfl, by decide⟩, by intro p h; cases h; decide, by decide⟩

theorem test_witness_AccountWriteLoadsOrUnloads :
    (∀ c, Accepts c hd life) ∧ 255 < 256 ∧ (life.account 0).bound ≠ none ∧ (life.account 255).bound = none ∧ 1 < (⟨2, 0, 0, 0, 0, 0, 0, 0⟩ : AccountFields).loaded ∧
    (2 : Nat) ^ 40 - 1 < (⟨1, 0, 0, 0, 0, 2 ^ 40, 0, 0⟩ : AccountFields).allowance ∧
    (⟨1, 9, 1, 15, 10, 2 ^ 40 - 1, 63, 400000⟩ : AccountFields).mode = AccountMode.openMode.code :=
  ⟨test_accepts_life, by decide +kernel⟩

/-- A FEEDER record with the settings of power-on reset. -/
def feederRecord : FeederFields := ⟨1920000, 128000, 640000, 64, 8, 16, 400, 8000, 16000, 16000, 4, 40, 8, 2, 2, 4, 8, 16, 0⟩

/-- A running feeder whose measured run has lasted a whole cycle and 5 words more, at word `pos` of cycle 3. -/
def stuckRun (pos : Nat) : State := withF0 { lifeF with
  detector := { Detector.off with looking := true, inCycle := true, cycle := 3, pos := pos, dark := 2, measured := 25005 } } books

theorem test_witness_FeederWriteKeepsTheReachOfARun :
    (∀ c, Accepts c hd life) ∧ (∀ pos c, Accepts c hd (stuckRun pos)) ∧
    (∀ pos < 2, ((stuckRun pos).feeder .f0).running = true ∧ ((stuckRun pos).feeder .f0).detector.looking = true ∧
      ((stuckRun pos).feeder .f0).stuck = none ∧ 25000 * 1 ≤ ((stuckRun pos).feeder .f0).detector.measured ∧
      ((stuckRun pos).feeder .f0).detector.passed = false ∧ ((stuckRun pos).feeder .f0).detector.dark = 2 ∧
      25005 - 25000 * 1 + 2 < ((stuckRun 8).feeder .f0).detector.pos ∧
      ¬ 25005 - 25000 * 1 + 2 < ((stuckRun 7).feeder .f0).detector.pos) ∧
    settingsOf { feederRecord with stuckLimit := 1 } = some { Settings.reset with stuckLimit := 1 } ∧ 3 < 4 ∧ 0 = FeederId.f0.toNat ∧ settingsOf { feederRecord with td := 2240001 } = none ∧
    settingsOf feederRecord = some Settings.reset ∧
    settingsOf { feederRecord with td := 2240000, rtdMax := 640000 } = some { Settings.reset with td := 2240000 } ∧
    (life.feeder .f0).running = true ∧ ({ Settings.reset with td := 2240000 } : Settings).td ≠ (life.feeder .f0).settings.td ∧
    (life.feeder .f1).running = false ∧ 1 = FeederId.f1.toNat ∧
    (life.feeder .f0).detector.measured < 25000 * Settings.reset.stuckLimit :=
  ⟨test_accepts_life, fun _ _ => ⟨rfl, rfl, rfl, rfl, (by decide : (0 : Nat) < 8)⟩, by decide +kernel⟩

/-- The bound part with partial frames of a shining drop and of one that is not, and 62 notices waiting. -/
def stopping : State :=
  let s := withF0 ((lifeF.setPartial 1 3 (some ⟨5, 0, [1]⟩)).setPartial 3 0 (some ⟨6, 0, [1]⟩)) books
  { s with agent := { s.agent with notices := List.replicate 62 ⟨0, .replyOverrun .f1⟩ } }

theorem test_witness_FeederStartAndStopMoveTheRun :
    (∀ c, Accepts c hd stopping) ∧ 3 < 4 ∧ 0 = FeederId.f0.toNat ∧ 1 = FeederId.f1.toNat ∧
    (stopping.feeder .f0).running = true ∧ (stopping.feeder .f1).running = false ∧
    (stopping.drop .f0 1).state.shining = true ∧ (stopping.drop .f0 3).state.shining = false ∧
    stopping.boundAccount .f0 1 = some 0 ∧ Tbl.wf Account.reset stopping.meter.accounts = true ∧
    64 - stopping.agent.notices.length < (dropIndices.filter fun d => decide ((stopping.drop .f0 d).state ≠ .empty)).length ∧
    (life.agent.notices = [] ∧ (dropIndices.filter fun d => decide ((life.drop .f0 d).state ≠ .empty)).length ≤ 64) :=
  ⟨fun _ => ⟨rfl, rfl, rfl, rfl, by decide +kernel⟩, by decide +kernel⟩

/-- 12 section 12.8: a stop of a feeder with 60 drops and 10 notices waiting loses 6 notices. -/
theorem test_surge_12_8 :
    let s := withF0 { lifeF with drops := (List.range 60).map fun i => (i + 1, record .active) } books
    let t := (stopDecided 0 { s with agent := { s.agent with notices := List.replicate 10 ⟨0, .replyOverrun .f1⟩ } }).1
    t.agent.notices.length = 64 ∧ t.agent.noticeLost = true ∧ t.agent.count.noticesLost = 6 := by decide +kernel

/-- What that stop discards: the partial frame of the shining drop only (04 rules 67 and 72). -/
theorem test_stop_partials :
    let t := (stopDecided 0 stopping).1
    (t.feeder .f0).partialFrame 1 3 = none ∧ (t.feeder .f0).partialFrame 3 0 = some ⟨6, 0, [1]⟩ ∧
    (t.feeder .f0).upCount.lostToState = 1 ∧ t.agent.notices.length = 64 := by decide +kernel

theorem test_witness_DiscoveryRequestSetsTheSweep :
    (∀ c, Accepts c hd life) ∧ 3 < 4 ∧ 0 = FeederId.f0.toNat ∧ 2 < 3 ∧ (life.feeder .f0).sweep.once = .none :=
  ⟨test_accepts_life, by decide +kernel⟩

/-- The entry of tag 11 before its timeout is due. -/
def fresh : ReplyEntry := { reply 11 .waitingHost none 2 with timeoutDue := false }

/-- The bound part with that entry. -/
def queried : State := withF0 { lifeF with replies := [reply 10 .lookup none 1, fresh] } books

theorem test_witness_AnswersSettleTheQuery :
    ((∀ c, Accepts c hd queried) ∧ (queried.feeder .f0).entryOf 11 = some fresh ∧ fresh.decline = none ∧
      fresh.timeoutDue = false ∧ fresh.status = .waitingHost ∧
      (permit .f0 fresh ⟨11, .permit, some .f0, some 8, 255, ⟨1, 0, 0, 0⟩⟩ queried).2 = .ok 8 ∧
      (permit .f0 fresh ⟨11, .permit, none, none, 0, ⟨1, 0, 0, 0⟩⟩ queried).2 = .error .accountInUse) ∧
    (∀ c, Accepts c hd life) ∧ (∃ p, (⟨11, 0, some 65, 0, ⟨0, 0, 0, 0⟩⟩ : AdmitFields).preferred = some p ∧ 64 < p) ∧
    (life.feeder .f0).entryOf 99 = none ∧ (life.feeder .f0).entryOf 12 = some (reply 12 .lookup (some (.denied, .held)) 3) ∧
    (life.feeder .f0).entryOf 10 = some (reply 10 .lookup none 1) ∧ (reply 10 .lookup none 1).timeoutDue = false ∧
    (life.feeder .f0).entryOf 11 = some (reply 11 .waitingHost none 2) ∧ (reply 11 .waitingHost none 2).timeoutDue = true ∧
    1 = restrictionCode (some .f0) :=
  ⟨⟨fun _ => ⟨rfl, rfl, rfl, rfl, (by decide : (0 : Nat) < 8)⟩, by decide +kernel, rfl, rfl, rfl, by rfl, by rfl⟩,
    test_accepts_life, ⟨65, rfl, by decide⟩, by decide +kernel⟩

/-- R87, R88: a REFUSE that comes after its entry's timeout is due finds the entry declined, and not by it. -/
theorem test_refuse_late : ∃ t, exec (.refuse hd 0 11) life = .next t ∧
    ((t.feeder .f0).entryOf 11).map (fun e => e.decline) = some (some (.timeout, .queued)) :=
  ⟨_, rfl, by decide +kernel⟩

/-- The feeder with every index taken. -/
def fullF : Feeder := { lifeF with drops := (List.range 64).map fun i => (i + 1, record .active) }

theorem test_witness_PermitAssignsAndDeclineKeepsTheEntry :
    (FeederId.f1 ≠ .f0 ∧ (life.account 99).loaded = false ∧
      ((life.account 0).loaded = true ∧ (life.account 0).bound ≠ none) ∧
      ((life.account 255).loaded = true ∧ (life.account 255).bound = none) ∧
      (∀ d < 65, 1 ≤ d → ((withF0 fullF books).drop .f0 d).state ≠ .empty) ∧
      (∀ d ∈ [8, 63], (life.drop .f0 d).state = .empty ∧ (life.feeder .f0).ringHolds d = false) ∧
      (∀ k < 8, 1 ≤ k → (life.drop .f0 k).state ≠ .empty)) ∧
    (∀ p, some 1 = some p → (life.drop .f0 p).state ≠ .empty) ∧
    (∀ e ∈ [reply 10 .lookup none 1, reply 11 .waitingHost none 2], e ∈ (life.feeder .f0).replies) ∧
    (reply 11 .waitingHost none 2).serial ≠ (reply 10 .lookup none 1).serial :=
  ⟨by decide +kernel, fun p h => by cases h; decide +kernel, by decide +kernel, by decide⟩

/-- Of RemoveMakesTheDropLeave too. -/
theorem test_witness_DarkenRelightAndReleaseMoveADrop :
    (∀ c, Accepts c hd life) ∧
    3 < 4 ∧ 64 < 65 ∧ 0 = FeederId.f0.toNat ∧ (life.drop .f0 8).state = .empty ∧
    (life.drop .f0 5).state = .leaving ∧ (life.drop .f0 6).pending ≠ none ∧ (life.drop .f0 6).state.shining = true ∧
    (life.drop .f0 1).pending = none ∧ (life.drop .f0 1).state.shining = true ∧ (life.drop .f0 64).pending = none ∧
    (life.drop .f0 64).state.shining = true ∧ (life.drop .f0 2).state.shining = false ∧ (life.feeder .f0).rogue ≠ .isolating ∧
    (life.feeder .f0).isolation.kind = none ∧ (withF0 { lifeF with rogue := .isolating } books |>.feeder .f0).rogue = .isolating ∧
    (life.drop .f0 2).state = .darkened ∧ (life.drop .f0 2).cause ≠ some .isolation ∧ (life.drop .f0 2).resume = some .dozing ∧
    (life.drop .f0 2).pending = none ∧ (life.drop .f0 7).cause = some .isolation ∧ (life.drop .f0 3).state = .quarantined ∧
    (life.drop .f0 3).pending = none ∧
    ((withF0 { lifeF with drops := [(3, { record .quarantined with pending := some ⟨.disable, .held⟩ })] } books).drop .f0 3).pending ≠ none ∧
    ((withF0 { lifeF with drops := [(2, { record .darkened with resume := some .active, pending := some ⟨.darken, .held⟩ })] } books).drop
      .f0 2).pending ≠ none :=
  ⟨test_accepts_life, by decide +kernel⟩

theorem test_witness_IsolateBeginsAnIsolation :
    (∀ c, Accepts c hd life) ∧ 3 < 4 ∧ 64 < 65 ∧ (life.feeder .f1).running = false ∧ (life.feeder .f0).running = true ∧
    (life.feeder .f0).rogue ≠ .isolating ∧ (life.drop .f0 2).state.shining = false ∧ (life.drop .f0 64).state.shining = true ∧
    ((withF0 oneF []).feeder .f0).shiningDrops = [1] ∧ (∀ c, Accepts c hd (withF0 oneF [])) ∧
    2 ≤ (life.feeder .f0).shiningDrops.length ∧ ((withF0 { lifeF with drops := [] } []).feeder .f0).shiningDrops = [] ∧
    (withF0 { lifeF with rogue := .isolating } []).feeders.f0.rogue = .isolating :=
  ⟨test_accepts_life, by decide, by decide, by decide, by decide, by decide, by decide +kernel, by decide +kernel,
    by decide +kernel, fun _ => ⟨rfl, rfl, rfl, rfl, by decide⟩, by decide +kernel⟩

theorem test_witness_AccountRequestsMoveTheAccount :
    (∀ c, Accepts c hd life) ∧ 255 < 256 ∧ (2 : Nat) ^ 40 - 1 < 2 ^ 40 ∧ (life.account 99).loaded = false ∧
    (life.account 255).loaded = true ∧ (life.account 255).state ≠ .throttled ∧ (life.account 255).state ≠ .suspended ∧
    (life.account 1).loaded = true ∧ (life.account 1).state = .throttled ∧ (life.account 2).loaded = true ∧
    (life.account 2).state = .suspended :=
  ⟨test_accepts_life, by decide +kernel⟩

theorem test_witness_ClockAndExportAreSet :
    let b := { bound with meter := { Meter.reset with boundaryDue := true, held := true } }
    (∀ c, Accepts c hd bound) ∧ (∀ c, Accepts c hd b) ∧ (65535 < 65536 ∧ 95 < 96 ∧ 96 < 97) ∧
    (bound.meter.boundaryDue = false ∧ bound.meter.held = false) ∧ (b.meter.boundaryDue = true ∧ b.meter.held = true) ∧
    ∃ t, exec (.partReset hd) b = .next t :=
  ⟨test_accepts_bound, fun _ => ⟨rfl, rfl, rfl, rfl, by decide⟩, by decide, by decide, by decide, ⟨_, rfl⟩⟩

theorem test_witness_ClearFlagsClearsTheSelection :
    (∀ c, Accepts c hd bound) ∧ (∃ n ∈ [9], 8 < n) ∧ [0, 8] ≠ [] ∧ ∀ n ∈ [0, 8], n ≤ 8 :=
  ⟨test_accepts_bound, ⟨9, by decide, by decide⟩, by decide, by decide⟩

theorem test_witness_PartResetKeepsTheBooks :
    let b := { life with meter := { life.meter with pass := some ⟨1, ⟨0, 0, 0⟩⟩ } }
    (∀ c, Accepts c hd b) ∧ NoneOwed b ∧ b.meter.held = false ∧ (b.account 1).loaded = true ∧ b.meter.pass = some ⟨1, ⟨0, 0, 0⟩⟩ :=
  ⟨fun _ => ⟨rfl, rfl, rfl, rfl, by decide⟩, test_noneOwed _ rfl, by decide +kernel⟩

/-- A quarter boundary due at a cycle start already taken comes wholly before PART_RESET (R182). -/
theorem test_partReset_boundary :
    let b := { bound with meter := { Meter.reset with boundaryDue := true, clock := ⟨7, 95, 3599999, 96⟩ } }
    ∃ t, exec (.partReset hd) b = .next t ∧ t.meter.clock = ⟨8, 0, 0, 96⟩ ∧ t.meter.boundaryDue = false ∧ t.meter.pass = none :=
  ⟨_, rfl, by decide +kernel⟩

theorem test_witness_CycleStartHandsOnOnePlan :
    life.resetHeld = false ∧ (life.feeder .f0).running = true ∧
    (∀ f, (life.feeder f).running = true → (life.feeder f).ring.get ((life.cycle + 1).toNat % 4) = none) ∧
    ((line .idle).feeder .f0).running = true ∧ ({ line .idle with cycle := 0 }.feeder .f0).ring.get (((0 : CycleNo) + 1).toNat % 4) ≠ none :=
  ⟨by decide, by decide, by intro f; cases f <;> decide +kernel, by decide, by decide +kernel⟩

/-- A running feeder with an ACTIVE, a SILENT and a RANGING drop, its cycle 50 begun. -/
def buildF : Feeder := { Feeder.reset with
  running := true
  sending := some ⟨50, false, [], [], []⟩
  drops := [(1, record .active), (4, { record .ranging with phase := some .measuring, lastSent := some (.assign, 5) }),
    (6, record .silent)] }

/-- With the first part of CycleStartHandsOnOnePlan: work before which other work stands, and states with each thing due. -/
theorem test_witness_CycleStartTakesEachWorkOnce :
    (∃ after, schedule [.doze .f0, .framesFirst .f1] = [.idle .f0] ++ .doze .f0 :: after) ∧
    (∃ after, schedule [.doze .f0, .framesFirst .f1] = [.idle .f0, .doze .f0, .orders .f1] ++ .framesFirst .f1 :: after) ∧
    ([CycleWork.doze .f0, .framesFirst .f1] = [] ++ .doze .f0 :: [] ++ .framesFirst .f1 :: [] ∧
      CycleWork.framesFirst .f1 ∉ [] ++ CycleWork.doze .f0 :: [] ∧
      CycleWork.doze .f0 ∈ schedule [.doze .f0, .framesFirst .f1] ∧
      CycleWork.framesFirst .f1 ∈ schedule [.doze .f0, .framesFirst .f1] ∧
      (CycleWork.framesFirst .f1 ≠ .build .f0 ∧ CycleWork.framesFirst .f1 ≠ .idle .f0)) ∧
    (∃ after, schedule [.closeThrough 9, .framesTo .f1 2] =
      [.quarter, .boundary, .closeThrough 9, .orders .f1] ++ .framesTo .f1 2 :: after) ∧
    ([CycleWork.closeThrough 9, .framesTo .f1 2] = [] ++ .closeThrough 9 :: [] ++ .framesTo .f1 2 :: [] ∧
      CycleWork.framesTo .f1 2 ≠ .quarter ∧ CycleWork.framesTo .f1 2 ≠ .boundary) ∧
    (let s := withF0 buildF []
     (s.feeder .f0).running = true ∧ (s.feeder .f1).running = false ∧
      ((runWork 50 s (.build .f0)).feeder .f0).sending ≠ none ∧
      ((runWork 50 (takeFrames .f0 [] 399980 s) (.build .f0)).feeder .f0).sending ≠ none) ∧
    (life.drop .f0 1).dozeDue = true ∧ (reply 11 .waitingHost none 2) ∈ (life.feeder .f0).replies :=
  ⟨⟨(schedule [.doze .f0, .framesFirst .f1]).drop 2, by decide +kernel⟩,
    ⟨(schedule [.doze .f0, .framesFirst .f1]).drop 4, by decide +kernel⟩, by decide +kernel,
    ⟨(schedule [.closeThrough 9, .framesTo .f1 2]).drop 5, by decide +kernel⟩, by decide +kernel⟩

theorem test_witness_BuildInputsFollowTheirRules :
    let s := withF0 lifeF [(1, { Account.reset with state := .throttled, floorProfile := 63, bound := some (.f0, 64) })]
    life.boundAccount .f0 8 = none ∧ (life.boundAccount .f0 1 = some 0 ∧ (life.account 0).state = .normal) ∧
    (life.boundAccount .f0 64 = some 1 ∧ (life.account 1).state = .throttled ∧ (life.account 1).floorProfile = 0) ∧
    (s.boundAccount .f0 64 = some 1 ∧ (s.account 1).state = .throttled ∧ (s.account 1).floorProfile ≠ 0) ∧
    (life.boundAccount .f0 6 = some 2 ∧ (life.account 2).state = .suspended) ∧
    (∀ x ∈ [{ lifeF with sweep := ⟨.due, false, none⟩ }, { lifeF with sweep := ⟨.none, true, some 0⟩ }],
      (x.rogue = .clear ∧ x.replyOverrun = false ∧ x.replies.length < 4) ∧
      (x.sweep.once = .due ∨ (x.sweep.continuous = true ∧ x.settings.period ≤ ((400 : CycleNo) - 0).toNat))) ∧
    (4 ≤ (List.replicate 4 (reply 10 .lookup none 1)).length ∧ lifeF.sweep = Sweep.off) := by decide +kernel

theorem test_witness_BuildHandsOnThePlan :
    let x := buildF
    let s := withF0 buildF []
    let b := buildGrants (capacityOf x.settings (x.plansDiscovery 50) (x.rangingList 50).length) 50 (s.inForce .f0)
      (x.decideDiscovery 50)
    s.feeder .f0 = x ∧ x.running = true ∧ x.sending = some ⟨50, false, [], [], []⟩ ∧
    layPlan x.settings (fun d => (x.drop d).rtd) b.bursts (x.rangingList 50) (x.plansDiscovery 50) =
      [.burst 1 0 29 [(0, 0)] (some .poll), .burst 6 45 29 [(0, 0)] (some .rouse), .ranging 4 90 (30000 + 98), .dark 24936 64] ∧
    (s.feeder .f1).running = false ∧
    (b.bursts = [(1, [(0, 0)], some .poll), (6, [(0, 0)], some .rouse)] ∧ b.opened = [(1, some .poll), (6, some .rouse)] ∧
      b.bursts[1]? = some (6, [(0, 0)], some .rouse) ∧ x.rangingList 50 = [4] ∧ x.settings.dk ≠ 0) := by decide +kernel

theorem test_witness_CycleStartCounts :
    let s := withF0 lifeF [(5, { Account.reset with loaded := true, bound := some (.f0, 2) }),
      (6, { Account.reset with loaded := true, bound := some (.f0, 1) })]
    (life.feeder .f0).running = true ∧ (life.feeder .f1).running = false ∧
    ((s.account 5).loaded = true ∧ (s.account 5).bound = some (.f0, 2) ∧ (s.drop .f0 2).state = .darkened) ∧
    ((s.account 6).bound = some (.f0, 1) ∧ (s.drop .f0 1).state ≠ .darkened) ∧ (s.account 7).loaded = false ∧
    s.resetHeld = false ∧ (s.meter.held = false ∧ s.meter.queue = []) ∧
    { Meter.reset with queue := [⟨0, 0, 0, ⟨0, 0, 0⟩, 1, ⟨0, 0, 0, 0⟩, ⟨0, 0, 0, 0⟩, 0, 0, false, false⟩] }.queue.length = 1 := by
  decide +kernel

/-- The line with its reader idle. -/
def lineOn : State := line .idle

theorem test_witness_OrderReportsMoveTheRecord :
    let x := { lifeF with drops := lifeF.drops.set DropRecord.empty 5 { record .leaving with leave := some .lost } }
    let s := withF0 x books
    ((withF0 buildF []).feeder .f0).running = true ∧ ((withF0 buildF []).feeder .f0).sending = some ⟨50, false, [], [], []⟩ ∧
    (s.drop .f0 8).state = .empty ∧ (∀ d ∈ [1, 2, 3, 4, 5], (s.drop .f0 d).state ≠ .empty ∧ (s.drop .f0 d).serial = 0) ∧
    ((record .ranging).state = .ranging ∧ { record .ranging with phase := some .equalising }.phase = some .equalising) ∧
    ((s.drop .f0 5).state = .leaving ∧ (s.drop .f0 5).leave = some .lost ∧ (s.feeder .f0).ringHolds 5 = false ∧
      (s.feeder .f0).isolation.kind = none) ∧
    ((lineOn.feeder .f0).ringHolds 1 = true ∧ (bound.feeder .f0).running = false) := by decide +kernel

theorem test_delivering (st : DropState) : st.delivering = true ↔
    st = .active ∨ st = .dozing ∨ st = .silent ∨ st = .darkened ∨ st = .ranging := by cases st <;> decide

theorem test_witness_FramesAreTakenWhileTheyFit :
    ((withF0 buildF []).feeder .f0).running = true ∧ ((withF0 buildF []).feeder .f0).sending = some ⟨50, false, [], [], []⟩ ∧
    400000 - 16 - 4 = 400000 - 16 - (4 + (([] : List Entry).map fun _ => 12).sum) - 16 * ([] : List LineOrder).length ∧
    (((withF0 buildF []).feeder .f0).slotOf 50 = none ∧
      (({ buildF with ring := ⟨none, none, some { slot0 .waiting with cycle := 50 }, none⟩ } : Feeder).slotOf 50).isSome = true) ∧
    (∃ goes : DownFrame → Bool, ∀ fr, goes fr = true ↔ (life.drop .f0 fr.index).state = .active ∨
      (life.drop .f0 fr.index).state = .dozing ∨ (life.drop .f0 fr.index).state = .silent ∨
      (life.drop .f0 fr.index).state = .darkened ∨ (life.drop .f0 fr.index).state = .ranging) ∧
    (life.feeder .f1).running = false :=
  ⟨by decide, by decide, by decide, by decide +kernel, ⟨fun fr => (life.drop .f0 fr.index).state.delivering, fun fr => test_delivering _⟩, by decide⟩

theorem test_witness_DueWorkIsDoneByItsCommand :
    let b (n : CycleNo) := { withF0 { lifeF with reassembly := [(255, some ⟨5, 0, []⟩)], decayDue := true } books with cycle := n }
    let own := { life with profiles := [(1, ⟨.fixed, 0, 1, 1⟩)] }
    (life.resetHeld = false ∧ (life.drop .f0 1).dozeDue = true ∧ (life.feeder .f0).running = true ∧
      (life.drop .f0 1).state = .active ∧ (life.feeder .f0).settings.idleLimit ≤ (life.drop .f0 1).idle ∧
      (∀ lane < 4, (life.drop .f0 1).profiles.get lane ≠ 0 →
        (life.profile ((life.drop .f0 1).profiles.get lane)).cls ≠ .fixed)) ∧
    ((life.drop .f0 64).dozeDue = false ∧ (own.drop .f0 1).profiles.get 0 ≠ 0 ∧
      (own.profile ((own.drop .f0 1).profiles.get 0)).cls = .fixed) ∧
    ((life.feeder .f0).replies.filter (fun y => decide (y.tag = 11)) = [reply 11 .waitingHost none 2] ∧
      (reply 11 .waitingHost none 2).timeoutDue = true ∧ (reply 11 .waitingHost none 2).decline = none ∧
      (life.feeder .f0).replies.filter (fun y => decide (y.tag = 10)) = [reply 10 .lookup none 1] ∧
      (reply 10 .lookup none 1).timeoutDue = false) ∧
    (((b 4000).feeder .f0).partialFrame 64 3 = some ⟨5, 0, []⟩ ∧ 4000 ≤ ((b 4000).cycle - 0).toNat ∧
      ((b 3999).cycle - 0).toNat < 4000 ∧ ((b 0).feeder .f0).decayDue = true ∧ (life.feeder .f0).decayDue = false) := by
  decide +kernel

theorem test_witness_BoundaryAndClosePassKeepTheBooks :
    let m (q day : Nat) : Meter := { Meter.reset with boundaryDue := true, clock := ⟨day, q, 3599999, 96⟩ }
    let b (cursor : Nat) (q : List Statement) := { life with meter := { life.meter with queue := q, pass := some ⟨cursor, ⟨0, 0, 0⟩⟩ } }
    let r : Statement := ⟨0, 0, 0, ⟨0, 0, 0⟩, 1, ⟨0, 0, 0, 0⟩, ⟨0, 0, 0, 0⟩, 0, 0, false, false⟩
    (bound.resetHeld = false ∧ bound.meter.boundaryDue = false ∧ (m 94 0).boundaryDue = true ∧ (m 94 0).clock.quarter < 95 ∧
      ¬ (m 95 65535).clock.quarter < 95 ∧ (65535 + 1) % 65536 = 0) ∧
    (life.meter.pass = none ∧ ((b 254 []).account 254).loaded = false ∧ ((b 255 []).account 255).loaded = true ∧
      (b 255 (List.replicate 511 r)).meter.queue.length < 512 ∧ 512 ≤ (b 0 (List.replicate 512 r)).meter.queue.length ∧
      (b 255 []).meter.queue = [] ∧ (b 255 []).meter.held = false ∧ (b 255 []).meter.exportCount < 4 ∧
      (b 255 []).uplink.statements.length < 8) := by
  decide +kernel

/-- The line with its plan 0 changed and the upstream cycle 0 under way. -/
def lineWith (sl : Slot) : State := withF0 { (line .idle).feeders.f0 with ring := ⟨some sl, none, none, none⟩ } books

/-- Plan 0 with every window resolved. -/
def resolvedSlot : Slot :=
  { slot0 .receiving with windows := (slot0 .receiving).windows.map fun w => { w with resolution := .missing } }

theorem test_witness_SlotsPassThroughTheirStates :
    ((line .idle).feeder .f0).slotOf 1 = some { slot0 .waiting with cycle := 1 } ∧
    (∀ sl, ((line .idle).feeder .f0).slotOf 2 = some sl → sl.state ≠ .waiting) ∧
    ((line .idle).feeder .f0).receiving = some (slot0 .receiving) ∧ (slot0 .receiving).allResolved = false ∧
    ((lineWith resolvedSlot).feeder .f0).receiving = some resolvedSlot ∧ ((lineWith resolvedSlot).feeder .f0).slotOf 0 = some resolvedSlot ∧ resolvedSlot.allResolved = true ∧
    (∀ sl, (life.feeder .f0).receiving = some sl → sl.cycle ≠ 0) ∧
    (((line .idle).feeder .f0).slotOf (0 + 1)).map (fun sl => sl.state) = some .waiting ∧
    ((((line .idle).feeder .f0).beginCycle 1).slotOf (0 + 1)).map (fun sl => sl.state) = some .receiving :=
  ⟨by decide +kernel, (by decide +kernel : ((line .idle).feeder .f0).slotOf 2 = none) ▸ (by intro sl h; cases h),
    by decide +kernel, by decide +kernel, by decide +kernel, by decide +kernel, by decide +kernel,
    (by decide +kernel : (life.feeder .f0).receiving = none) ▸ (by intro sl h; cases h), by decide +kernel,
    by decide +kernel⟩

theorem test_witness_FirstTransitionAndSpanDecideAMark :
    let sl := slot0 .receiving
    let next : Slot := { slot0 .waiting with cycle := 1 }
    (lineOn.resetHeld = false ∧ (lineOn.feeder .f0).reader = .idle ∧ (lineOn.feeder .f0).receiving = some sl) ∧
    (23 < 24 ∧ 5 < 6 ∧ 8 < 9 ∧ 24 ≤ 24 ∧ 6 ≤ 6 ∧ 8 ≤ 8) ∧
    (sl.takingWindow (arrivalPosition (8 * (768 + 256))) = some (.burst 1) ∧
      sl.takingWindow (arrivalPosition (8 * (768 + 257))) = none ∧
      sl.takingWindow (arrivalPosition (8 * (768 + 6400))) = some (.ranging 4) ∧
      sl.takingWindow (arrivalPosition (8 * (768 + 796448))) = some .discovery ∧
      sl.takingWindow (arrivalPosition (8 * (768 + 799744))) = none) ∧
    ((lineOn.feeder .f0).slotOf (sl.cycle + 1) = some next ∧
      next.takingWindow (arrivalPosition (8 * (768 + 799744)) - 800000) = some (.burst 1) ∧
      next.takingWindow (arrivalPosition (8 * (768 + 257)) - 800000) = none) ∧
    (((line (.measuring 0 (.burst 1) 0 false)).feeder .f0).reader = .measuring 0 (.burst 1) 0 false ∧
      ((line (.measuring 0 .discovery 0 true)).feeder .f0).reader = .measuring 0 .discovery 0 true ∧
      (440 ≤ 440 ∧ 456 ≤ 456 ∧ 439 < 440 ∧ 456 < 457) ∧ (lineOn.feeder .f0).slotOf 0 = some sl ∧
      sl.window (.burst 1) = some ⟨.burst 1 0 73 [(0, 44)] none, .nothing, .unresolved⟩) := by decide +kernel

theorem test_witness_LabelDecidesInOrder :
    let w := label 1 1 1
    ((line (.label 0 (.burst 1) 0)).feeder .f0).reader = .label 0 (.burst 1) 0 ∧
    ((line (.label 0 (.burst 1) 0)).feeder .f0).slotOf 0 = some (slot0 .receiving) ∧
    (slot0 .receiving).window (.burst 1) = some ⟨.burst 1 0 73 [(0, 44)] none, .nothing, .unresolved⟩ ∧
    (w.toNat % 65536 = (labelCheck w).toNat ∧ w.toNat / 2 ^ 24 = 1 ∧ w.toNat / 2 ^ 20 % 16 = 1 ∧ w.toNat / 2 ^ 16 % 16 = 1) ∧
    (w + 1).toNat % 65536 ≠ (labelCheck (w + 1)).toNat ∧ 64 < (label 65 1 1).toNat / 2 ^ 24 ∧
    ((label 64 1 1).toNat % 65536 = (labelCheck (label 64 1 1)).toNat ∧ (label 64 1 1).toNat / 2 ^ 24 ≤ 64 ∧
      (label 64 1 1).toNat / 2 ^ 24 ≠ 1) ∧
    ((label 1 2 1).toNat / 2 ^ 24 = 1 ∧ (label 1 2 1).toNat / 2 ^ 20 % 16 ≠ 1 ∧
      (label 1 2 1).toNat % 65536 = (labelCheck (label 1 2 1)).toNat) := by decide +kernel

theorem test_witness_BodyIsSplitAndChecked :
    let body : Body := ⟨[label 1 1 1], [0], 0, [(0, 44)], .header, false⟩
    let header (len : Nat) : Word := BitVec.ofNat 32 (5 * 2 ^ 21 + 2 ^ 20 + len * 2 ^ 8)
    ((line (.body 0 (.burst 1) 0 body)).feeder .f0).reader = .body 0 (.burst 1) 0 body ∧ body.reportsLeft = 0 ∧
    body.lanes = (0, 44) :: [] ∧ body.place = .header ∧ (header 172).toNat / 2 ^ 8 % 2 ^ 11 = 172 ∧
    (List.replicate 43 (0 : Word)).length = (172 + 3) / 4 ∧ 1 + (List.replicate 43 (0 : Word)).length ≤ 44 ∧
    44 < 1 + ((header 173).toNat / 2 ^ 8 % 2 ^ 11 + 3) / 4 ∧ 2000 < (header 2001).toNat / 2 ^ 8 % 2 ^ 11 ∧
    1 < 1 + ((header 1).toNat / 2 ^ 8 % 2 ^ 11 + 3) / 4 ∧ (header 0).toNat / 2 ^ 8 % 2 ^ 11 = 0 ∧
    { body with reportsLeft := 1 }.reportsLeft ≠ 0 ∧ { body with place := .passing }.place = .passing ∧
    { body with lanes := [(0, 1)] }.lanes = (0, 1) :: [] ∧
    ((line (.body 0 (.burst 1) 0 { body with lanes := [] })).feeder .f0).slotOf 0 = some (slot0 .receiving) :=
  by decide +kernel

theorem test_witness_SegmentSplit_next : ∃ t, exec (.segmentSplit .f0 [0]) (line .idle) = .next t := ⟨_, rfl⟩

theorem test_witness_RepliesDecideInOrder :
    let w := label 4 3 0
    let v := label 0 2 0
    let echo : Word := BitVec.ofNat 32 (4 * 2 ^ 24 + 2 ^ 16)
    let info (n : Nat) : Word := BitVec.ofNat 32 (5 * 2 ^ 20 + n * 2 ^ 16)
    (((line (.label 0 (.ranging 4) 6400)).feeder .f0).reader = .label 0 (.ranging 4) 6400 ∧
      (slot0 .receiving).window (.ranging 4) = some ⟨.ranging 4 200 48000, .nothing, .unresolved⟩ ∧
      ((line .idle).feeder .f0).slotOf 0 = some (slot0 .receiving)) ∧
    (w.toNat % 65536 = (labelCheck w).toNat ∧ w.toNat / 2 ^ 24 = 4 ∧ echo.toNat / 2 ^ 24 = 4 ∧ w.toNat / 2 ^ 20 % 16 = 3 ∧
      w.toNat / 2 ^ 16 % 16 = 0) ∧ (0 : Word) ≠ endCheck [w, echo] ∧
    ((w + 1).toNat % 65536 ≠ (labelCheck (w + 1)).toNat ∧ (0 : Word).toNat / 2 ^ 24 ≠ w.toNat / 2 ^ 24) ∧
    ((label 64 3 0).toNat / 2 ^ 24 = 64 ∧ (label 64 3 0).toNat % 65536 = (labelCheck (label 64 3 0)).toNat) ∧
    ((label 4 3 1).toNat / 2 ^ 16 % 16 ≠ 0 ∧ (label 4 3 1).toNat % 65536 = (labelCheck (label 4 3 1)).toNat) ∧
    ((line (.label 0 .discovery 500936)).feeder .f0).reader = .label 0 .discovery 500936 ∧
    (v.toNat % 65536 = (labelCheck v).toNat ∧ v.toNat / 2 ^ 24 = 0 ∧ v.toNat / 2 ^ 20 % 16 = 2 ∧ v.toNat / 2 ^ 16 % 16 = 0) ∧
    ((info 4).toNat / 2 ^ 16 % 8 = 4 ∧ (info 0).toNat / 2 ^ 16 % 8 = 0 ∧ 4 < (info 5).toNat / 2 ^ 16 % 8) ∧
    ((0 : Word) ≠ endCheck [v, 0, 9, info 1] ∧ 64 < (label 65 2 0).toNat / 2 ^ 24) ∧
    ((label 0 1 0).toNat / 2 ^ 24 = 0 ∧ (label 0 1 0).toNat / 2 ^ 20 % 16 ≠ 2) := by decide +kernel

theorem test_witness_ReplyStepsDecideInOrder :
    let c := withF0 { lifeF with discoveries := [⟨0, false⟩] } books
    let q := withF0 { lifeF with replies := List.replicate 4 (reply 10 .lookup none 1), replyOverrun := true } books
    let other := { life with feeders := { life.feeders with f1 := { Feeder.reset with drops := [(64, { record .silent with tag := 5 })] } } }
    (∃ e ∈ (c.feeder .f0).discoveries, e.cycle = 0 ∧ e.live = false) ∧
    (∀ e ∈ (life.feeder .f0).discoveries, e.cycle = 0 → e.live = true) ∧
    (∃ e ∈ (life.feeder .f0).replies, e.tag = 10) ∧ (∀ e ∈ (life.feeder .f0).replies, e.tag ≠ 5) ∧
    other.clashFeeder .f0 5 = some .f1 ∧ life.clashFeeder .f0 5 = none ∧ life.clashFeeder .f0 77 = none ∧
    (life.feeder .f0).tagIndex 77 = some 1 ∧ (life.drop .f0 1).state.shining = true ∧ (life.feeder .f0).tagIndex 5 = none ∧
    (withF0 { lifeF with drops := [(3, record .quarantined)] } books |>.feeder .f0).tagIndex 77 = some 3 ∧
    ((withF0 { lifeF with drops := [(3, record .quarantined)] } books).drop .f0 3).state.shining = false ∧
    4 ≤ (q.feeder .f0).replies.length ∧ (q.feeder .f0).replyOverrun = true ∧ (life.feeder .f0).replies.length < 4 :=
  by decide +kernel

theorem test_witness_LookupDecidesTheOldestEntry :
    let deny := { life with admission := [(511, some ⟨10, .deny, none, none, 255, ⟨0, 0, 0, 0⟩⟩)] }
    let allow := { life with admission := [(0, some ⟨10, .permit, none, none, 255, ⟨0, 0, 0, 0⟩⟩)] }
    let none' := withF0 { lifeF with replies := [reply 12 .lookup (some (.denied, .held)) 3] } books
    (∀ e ∈ (none'.feeder .f0).replies, e.status = .lookup → e.decline ≠ none) ∧
    (life.feeder .f0).replies = [] ++ reply 10 .lookup none 1 :: [reply 11 .waitingHost none 2, reply 12 .lookup (some (.denied, .held)) 3] ∧
    deny.admissionFor 10 = some ⟨10, .deny, none, none, 255, ⟨0, 0, 0, 0⟩⟩ ∧
    allow.admissionFor 10 = some ⟨10, .permit, none, none, 255, ⟨0, 0, 0, 0⟩⟩ ∧ life.admissionFor 10 = none ∧
    (∀ y ∈ [] ++ [reply 11 .waitingHost none 2, reply 12 .lookup (some (.denied, .held)) 3], y.serial ≠ 1) := by decide +kernel

/-- The line with a finding for the burst window of drop 1. -/
def foundLine (g : Found) : State :=
  lineWith ((slot0 .receiving).onWindow (.burst 1) fun v => { v with found := g })

theorem test_witness_BurstResolutionIsHandedOn :
    let g : Found := .received ⟨40, [5], true, false⟩
    let sl := (slot0 .receiving).onWindow (.burst 1) fun v => { v with found := g }
    (foundLine g).resetHeld = false ∧ ((foundLine g).feeder .f0).slotOf 0 = some sl ∧ sl.state = .receiving ∧
    sl.window (.burst 1) = some ⟨.burst 1 0 73 [(0, 44)] none, g, .unresolved⟩ ∧
    ((foundLine g).feeder .f0).reader.serving ≠ some (0, .burst 1) ∧
    ((line (.label 0 (.burst 1) 0)).feeder .f0).reader.serving = some (0, .burst 1) ∧ ([(0, 44)].map Prod.fst).Nodup ∧
    (∀ a ∈ [((0 : Nat), (44 : Nat))], a.1 < 4) ∧ ((foundLine g).drop .f0 1).state = .active ∧ ((foundLine g).feeder .f0).mark 1 = none ∧
    [((0 : Nat), (44 : Nat))][0]? = some (0, 44) ∧ [5][0]? = some 5 := by decide +kernel

/-- The line with that finding and partial frames on the window's lane and on another. -/
def partLine (g : Found) : State :=
  (foundLine g).onFeeder .f0 fun x => (x.setPartial 1 0 (some ⟨5, 0, [1]⟩)).setPartial 1 1 (some ⟨6, 0, [1]⟩)

/-- A window that is not RECEIVED drops the partial frame of its granted lane only and counts it (04 rules 65 and 72). -/
theorem test_witness_BurstResolutionIsHandedOn_dropped :
    ((partLine .nothing).resetHeld = false ∧ ((partLine .nothing).feeder .f0).slotOf 0 = some (slot0 .receiving) ∧
      (slot0 .receiving).window (.burst 1) = some ⟨.burst 1 0 73 [(0, 44)] none, .nothing, .unresolved⟩ ∧
      ((partLine .nothing).drop .f0 1).state = .active ∧ ((partLine .nothing).feeder .f0).mark 1 = none) ∧
    ∃ t, exec (.burstWindowResolved .f0 0 1) (partLine .nothing) = .next t ∧ (t.feeder .f0).partialFrame 1 0 = none ∧
      (t.feeder .f0).partialFrame 1 1 = some ⟨6, 0, [1]⟩ ∧ (t.feeder .f0).upCount.lostInFlight = 1 :=
  ⟨by decide +kernel, _, rfl, by decide +kernel⟩

/-- The outcomes of R59 for that window: each finding, and an owner darkened by an isolation. -/
theorem test_burst_outcomes :
    let outcome (s : State) : Option Resolution :=
      ((((resolveWindow .f0 0 (.burst 1) s).feeder .f0).slotOf 0).bind fun sl => sl.window (.burst 1)).map fun v => v.resolution
    outcome (foundLine .nothing) = some .missing ∧ outcome (foundLine .garbledEnd) = some .garbled ∧
    outcome (foundLine (.mislabelled 9)) = some .mislabelled ∧
    outcome (foundLine (.received ⟨0, [5], true, false⟩)) = some .received ∧
    outcome ((foundLine .nothing).onDrop .f0 1 fun r => { r with state := .darkened }) = some .excused := by decide +kernel

/-- A running feeder with a SILENT drop whose latest ROUSE window was of plan 9, and one with a correction out. -/
def silentF (rouse : Nat) : Feeder := { Feeder.reset with
  running := true
  drops := [(1, { record .silent with rouse := rouse, lastPlanned := 9 }),
    (2, { record .active with correctionPending := true, equaliseCycle := some 9, miss := 3 }),
    (3, { record .active with eqd := 40, rtd := 1919960 })] }

theorem test_witness_BurstEffectsFollowTheOutcome :
    let s (rouse : Nat) := withF0 (silentF rouse) books
    (∀ r, (silentF r).rogue = .clear ∧ (silentF r).stuck = none ∧ (silentF r).settings.rouseLimit = 8) ∧
    ((s 8).drop .f0 1).state = .silent ∧ (9 : CycleNo) = ((s 8).drop .f0 1).lastPlanned ∧
    ((s 8).feeder .f0).settings.rouseLimit ≤ ((s 8).drop .f0 1).rouse ∧ ((s 7).drop .f0 1).rouse < 8 ∧
    (((s 0).drop .f0 2).state = .active ∧ ((s 0).drop .f0 2).correctionPending = true ∧
      ((s 0).drop .f0 2).equaliseCycle = some 9 ∧ ((9 : CycleNo) - 9).toNat < 2 ^ 31 ∧ ¬ ((9 : CycleNo) - 10).toNat < 2 ^ 31) ∧
    (((s 0).drop .f0 3).correctionPending = false ∧ ((32 : Int) ≤ 32 ∧ 32 < (33 : Int) ∧ (-33 : Int) < -32)) ∧
    ((((s 0).drop .f0 3).eqd : Int) - 41 < 0 ∧ ((0 : Nat) : Int) = min ((((s 0).drop .f0 3).eqd : Int) - 40) 1920000) ∧
    (life.drop .f0 2).state.shining = false :=
  ⟨fun _ => ⟨rfl, rfl, rfl⟩, by decide +kernel⟩

theorem test_witness_CommitsReassembleAndOffer :
    let s := withF0 { lifeF with reassembly := [(255, some ⟨5, 0, List.replicate 64 1⟩)] } books
    let p : Partial := ⟨5, 0, List.replicate 64 1⟩
    (s.feeder .f0).partialFrame 64 3 = some p ∧ (s.feeder .f0).partialFrame 1 0 = none ∧
    (p.flow ≠ 6 ∧ p.payload.length + 1936 ≤ 2000 ∧ 2000 < p.payload.length + 1937) ∧
    (s.flow 5).feeder = .f0 ∧ (s.flow 5).drop ≠ 64 ∧ (s.flow 5).drop = 0 ∧ (s.flow 5).lane = 0 ∧ 63 < 64 ∧
    s.uplink.traffic.length < 1000 ∧ 1000 ≤ (List.replicate 1000 (⟨1, []⟩ : UpFrame)).length := by decide +kernel

theorem test_witness_RangingResolutionFixesTheDelay :
    let sl (g : Found) := (slot0 .receiving).onWindow (.ranging 4) fun v => { v with found := g }
    let s (g : Found) := lineWith (sl g)
    let g : Found := .received ⟨6400, [], false, true⟩
    ((s g).feeder .f0).slotOf 0 = some (sl g) ∧ (sl g).window (.ranging 4) = some ⟨.ranging 4 200 48000, g, .unresolved⟩ ∧
    ((s g).feeder .f0).reader.serving ≠ some (0, .ranging 4) ∧ ((s g).drop .f0 4).state = .ranging ∧
    ((s g).drop .f0 4).rangeTries < 3 ∧ ((s g).drop .f0 4).inFlight = some ⟨0, 200, 48000⟩ ∧
    ((6400 : Int) + 1920000 - 32 * 48000 ≤ 1920000) ∧ ((1536001 : Int) + 1920000 - 32 * 48000 > 1920000) ∧
    ((s .nothing).feeder .f0).frozen = false ∧ ((s .nothing).drop .f0 4).rangeTries < 2 ∧
    ((withF0 { lifeF with stuck := some 0 } books).feeder .f0).frozen = true ∧
    ((lineWith (slot0 .draining)).feeder .f0).slotOf 0 = some (slot0 .draining) ∧
    (((lineWith (sl g)).onDrop .f0 4 fun r => { r with state := .leaving }).drop .f0 4).state ≠ .ranging ∧
    ({ resolvedSlot with state := .draining }.onWindow .discovery fun v => { v with resolution := .resolved }).allResolved = true ∧
    ((slot0 .draining).onWindow .discovery fun v => { v with resolution := .resolved }).allResolved = false ∧
    (sl .nothing).window .discovery = some ⟨.discovery 7928 17008 63928, .nothing, .unresolved⟩ ∧
    (∀ w ∈ [WindowId.ranging 4, .discovery], ((line (.label 0 w 6400)).feeder .f0).reader.serving = some (0, w) ∧
      ((line (.label 0 w 6400)).feeder .f0).slotOf 0 = some (slot0 .receiving)) ∧
    (slot0 .receiving).window (.ranging 4) = some ⟨.ranging 4 200 48000, .nothing, .unresolved⟩ ∧
    ((s g).drop .f0 4).pending = none ∧
    (((s g).onDrop .f0 4 fun r => { r with pending := some ⟨.assign, .held⟩ }).drop .f0 4).pending ≠ none := by decide +kernel

theorem test_witness_StuckNeedsALongRun :
    let s := line .idle
    (s.feeder .f0).detector.looking = true ∧ (s.feeder .f0).detector.inCycle = true ∧ (s.feeder .f0).detector.passed = true ∧
    (s.feeder .f0).stuck = none ∧ (s.feeder .f0).detector.pos + 25000 ≤ 25000 ∧
    (s.feeder .f0).detector.measured < 25000 * (s.feeder .f0).settings.stuckLimit ∧
    25000 * (s.feeder .f0).settings.stuckLimit ≤ (s.feeder .f0).detector.measured + 1 ∧
    25000 * 4 > (s.feeder .f0).detector.measured + 1 ∧ (s.feeder .f0).rogue = .clear ∧
    ((s.onFeeder .f0 fun x => { x with stuck := some 4294967295 }).feeder .f0).stuck ≠ none := by decide +kernel

/-- Cycle 0 under way after the plan of cycle 4,294,967,295, one word of light seen of two that FILTER asks for, three
dark words after a run that lacks `lacking` words of the limit. -/
def gapF (pos lacking : Nat) (inCycle : Bool) : Feeder := { lifeF with
  ring := ⟨some (slot0 .receiving), some { slot0 .waiting with cycle := 1 }, none,
    some { slot0 .draining with cycle := 4294967295 }⟩
  detector := { Detector.off with
    looking := true, inCycle := inCycle, pos := pos, raw := 1, dark := 3, measured := 50000 - lacking } }

/-- Light not yet passed, of the clauses of StuckNeedsALongRun: a word that makes the onset, and one that does not; in the
first word of a cycle the word before lies in the cycle before. -/
theorem test_witness_StuckNeedsALongRun_unpassed :
    (∀ pos ∈ [0, 24999], ∀ lacking ∈ [5, 6], let x := gapF pos lacking true
      x.detector.inCycle = true ∧ x.detector.passed = false ∧ x.detector.pos + 1 ≤ 25000 ∧ x.detector.looking = true ∧
      x.stuck = none ∧ x.detector.measured < 25000 * x.settings.stuckLimit ∧ x.settings.filter ≤ x.detector.raw + 1 ∧
      { x.settings with filter := 3 }.filter > x.detector.raw + 1 ∧ ¬ (x.detector.measured = 0 ∨ 8 ≤ x.detector.dark) ∧
      (x.slotOf 0).map (fun sl => sl.state) = some .receiving ∧ (x.slotOf (0 - 1)).map (fun sl => sl.state) = some .draining) ∧
    (50000 ≤ (gapF 0 5 true).detector.measured + 3 + 2 ∧ ¬ 50000 ≤ (gapF 0 6 true).detector.measured + 3 + 2) ∧
    (25000 < (gapF 24999 6 true).detector.pos + 2 ∧ (gapF 25000 6 true).detector.pos = 25000) ∧
    ((gapF 25000 6 false).slotOf 1 = some { slot0 .waiting with cycle := 1 } ∧ (gapF 25000 6 false).detector.inCycle = false) := by
  decide +kernel

/-- R123: the second word of light, over a gap of three dark words, completes a run of two cycles. -/
theorem test_onset_over_gap : ∃ t, exec (.stuckOnset .f0 1) (withF0 (gapF 0 5 true) books) = .next t ∧
    (t.feeder .f0).stuck = some 0 ∧ (t.feeder .f0).rogue = .alert ∧
    ((t.feeder .f0).slotOf 4294967295).map (fun sl => sl.light.lit) = some [(24999, 1)] := ⟨_, rfl, by decide +kernel⟩

theorem test_witness_LightIsJudgedOnce :
    let sl := { slot0 .draining with light := ⟨[(24935, 1), (24936, 64)], [.burst 1], true⟩ }
    (∀ r ∈ sl.light.lit, r.1 + r.2 ≤ 25000) ∧ (lifeF.rogue ≠ .isolating ∧ { lifeF with rogue := .isolating }.rogue = .isolating) ∧
    (lifeF.rogue = .clear ∧ lifeF.settings.alertLimit ≤ [(1 : CycleNo), 2, 3].length + 1) ∧
    (((70 : CycleNo) - 7).toNat < 64 ∧ ¬ ((70 : CycleNo) - 6).toNat < 64) ∧ 64 ≤ min (63 + 1) 4000 ∧ 4000 ≤ min (3999 + 1) 4000 := by
  decide

/-- R113: a LEAVING record keeps its strikes and its rouse count as they stood. -/
theorem test_leaving_keeps :
    let r := { record .leaving with strikes := 4, rouse := 5 }
    let s := withF0 { lifeF with drops := [(1, r)] } books
    r.decayed = r ∧ r.capRouse 2 = r ∧ (takeMislabel .f0 1 s).drop .f0 1 = r := by decide +kernel

theorem test_witness_StrikesAndAlertsBeginIsolations :
    let x := { lifeF with drops := [(64, { record .active with strikes := 7 }), (1, { record .leaving with strikes := 4 })] }
    (x.running = true ∧ (x.drop 64).state ≠ .empty ∧ (x.drop 2).state = .empty) ∧
    (8 = min ((x.drop 64).strikes + 1) 15 ∧ (x.drop 64).strikes < x.settings.strikeLimit ∧ x.settings.strikeLimit ≤ 8) ∧
    (x.rogue = .clear ∧ x.settings.autoIsolate = true ∧ (x.drop 64).state = .active) ∧
    ((x.drop 1).state = .leaving ∧ (x.drop 64).state ≠ .leaving) ∧ 64 < 65 := by decide +kernel

/-- A feeder in an isolation: drop 7 darkened, in a phase, observing cycles 3 to 18. -/
def isoF (phase : IsolationPhase) (suspects : List Nat) : Feeder := { lifeF with
  rogue := .isolating
  isolation := { Isolation.none with
    kind := some .full, suspects := suspects, test := [7], step := 1, phase := some phase, awaited := [7],
    observeStart := 3, observeEnd := 18 } }

theorem test_witness_IsolationStepsGoOn :
    let i (p : IsolationPhase) := (isoF p [1, 7]).isolation
    (isoF .darkening []).isolation.suspects = [] ∧ (i .darkening).suspects ≠ [] ∧
    (∀ p ∈ [IsolationPhase.darkening, .observing, .relighting, .confirming], (i p).phase = some p ∧ (i p).ending = none ∧
      7 ∈ (i p).awaited ∧ 1 ∉ (i p).awaited ∧ (i p).awaited.filter (fun k => decide (k ≠ 7)) = []) ∧
    { i .relighting with awaited := [1, 7] }.awaited.filter (fun k => decide (k ≠ 7)) ≠ [] ∧
    (((3 : CycleNo) - (i .observing).observeStart).toNat < 2 ^ 31 ∧ ((i .observing).observeEnd - 3).toNat < 2 ^ 31 ∧
      ((18 : CycleNo) - (i .observing).observeStart).toNat < 2 ^ 31 ∧ ((i .observing).observeEnd - 18).toNat < 2 ^ 31) ∧
    (¬ ((2 : CycleNo) - (i .observing).observeStart).toNat < 2 ^ 31 ∧ ¬ ((i .observing).observeEnd - 19).toNat < 2 ^ 31) ∧
    (i .observing).test.filter (fun d => decide (((isoF .observing [1, 7]).drop d).state = .darkened ∧
      ((isoF .observing [1, 7]).drop d).cause = some .isolation)) = [7] ∧
    (((isoF .observing [1, 7]).drop 1).state.shining = true ∧ ((isoF .observing [1, 7]).drop 7).state.shining = false) ∧
    (let held := { (isoF .relighting []).isolation with ending := some .unattributed, departed := [1] }
     held.ending ≠ none ∧ 7 ∈ held.awaited ∧ held.phase = some .relighting) := by
  decide +kernel

theorem test_witness_IsolationConfirmsAndEnds :
    let x := isoF .confirming [7]
    (x.isolation.phase = some .confirming ∧ x.isolation.ending = none ∧
      ((18 : CycleNo) - x.isolation.observeStart).toNat < 2 ^ 31 ∧ 18 = x.isolation.observeEnd ∧ x.isolation.suspects = 7 :: [] ∧
      (x.drop 7).state = .darkened ∧ (x.drop 7).cause = some .isolation ∧ (x.isolation.faultSeen || false) = false) ∧
    (x.isolation.departed = [] ∧ { x.isolation with departed := [7] }.departed ≠ []) ∧
    (lifeF.isolation.kind = none ∧ x.isolation.kind ≠ none ∧ 7 ∈ x.isolation.suspects ∧ 1 ∉ x.isolation.suspects) ∧
    { x.isolation with ending := some .quarantine }.ending = some .quarantine ∧
    ((isoF .darkening [1, 7]).isolation.suspects.filter (fun k => decide (k ≠ 7)) ≠ [] ∧
      (isoF .darkening [1, 7]).isolation.test.filter (fun k => decide (k ≠ 7)) = [] ∧
      (isoF .darkening [1, 7]).isolation.test.filter (fun k => decide (k ≠ 1)) ≠ [] ∧
      { (isoF .darkening [1, 7]).isolation with awaited := [1] }.awaited.filter (fun k => decide (k ≠ 1)) = []) := by decide +kernel

/-- A confirm step's observation that saw no fault: the drop is no longer a suspect (08 rule 138), and stays the test half
and awaited until its DISABLE is reported (08 rules 133 and 137). -/
theorem test_quarantined_suspect :
    let i := ((observeCycle .f0 18 false (withF0 (isoF .confirming [7]) books)).feeder .f0).isolation
    i.suspects = [] ∧ i.test = [7] ∧ i.awaited = [7] ∧ i.phase = some .confirming := by decide +kernel

/-- That lanes 0 and 1 of drop 12 are both granted, the pointer at lane 1, is test_build_2_5. -/
theorem test_witness_GrantsKeepToCreditDemandAndCapacity :
    (∀ d l p, force25 d l = some p → 1 ≤ p.minGrant) ∧ 3072 ≤ 24936 ∧ 0 ∈ (ex25.drop 3).enabledLanes ∧
    force25 3 0 = some ⟨.fixed, 256128, 2000, 16⟩ ∧ force25 3 1 = some ⟨.assured, 1024000, 6000, 64⟩ ∧
    (ex25.drop 3).state = .active ∧ ex25.settings.poll ≤ ((107 : CycleNo) - (ex25.drop 3).lastPlanned).toNat ∧
    (1 ≤ ex25.pointer.1 ∧ ex25.pointer.1 ≤ 64 ∧ ex25.pointer.2 < 4) ∧
    (∀ l < 3, (force25 12 l).map (fun p => p.cls) = some .shared ∧ l ∈ (ex25.drop 12).enabledLanes) ∧ (ex25.drop 12).state = .active ∧
    ((4 * (12 - 1) + 0 + 256 - (4 * (ex25.pointer.1 - 1) + ex25.pointer.2)) % 256 = 255 ∧
      (4 * (12 - 1) + 1 + 256 - (4 * (ex25.pointer.1 - 1) + ex25.pointer.2)) % 256 = 0) := by
  refine ⟨?_, by decide +kernel⟩
  intro d l p h
  have key : ∀ i p, [none, some (⟨.fixed, 256128, 2000, 16⟩ : Profile), some ⟨.assured, 1024000, 6000, 64⟩,
      some ⟨.assured, 128000, 1000, 64⟩, some ⟨.shared, 5120000, 20000, 256⟩, some ⟨.shared, 2560000, 12000, 256⟩,
      some ⟨.shared, 25600, 200, 256⟩].getD i none = some p → 1 ≤ p.minGrant := by
    intro i p h
    rcases i with _ | _ | _ | _ | _ | _ | _ | i <;> simp at h <;> subst h <;> decide
  exact key _ p h

/-- 02 section 2.5: the order in which its lanes are considered, lane 0 of drop 12 with the room 12757 of what is left;
with a capacity of 1046 the ASSURED lane after the FIXED one finds 0 of its 2000 and is cut, and lane 1 of drop 12 finds no
room, so that lane 2 after it is visited no more. -/
theorem test_considered_2_5 :
    let b := buildGrants 24936 100 force25 ex25
    let c := buildGrants 1046 100 force25 ex25
    ex25.considered force25 = [(3, 0), (3, 1), (7, 0)] ++ (12, 1) :: [(12, 2), (12, 0)] ∧
    b.roomAfter 24936 ex25 [(3, 0), (3, 1), (7, 0), (12, 1), (12, 2)] (12, 0) = 12757 ∧
    ex25.grantIn ⟨.shared, 5120000, 20000, 256⟩ (12, 0) 12757 = 12757 ∧
    c.roomAfter 1046 ex25 [(3, 0)] (3, 1) = 0 ∧ ex25.candidate ⟨.assured, 1024000, 6000, 64⟩ (3, 1) = 2000 ∧ c.cut = true ∧
    (ex25.inClass force25 .shared (12, 1) = true ∧ c.roomAfter 1046 ex25 [(3, 0), (3, 1), (7, 0)] (12, 1) = 0) ∧
    b.cut = false := by decide +kernel

theorem test_witness_FillingPlacesOrdersInTheirOrder :
    let x := { lifeF with drops := [(1, { record .leaving with pending := some ⟨.remove, .held⟩ }),
      (64, { record .active with pending := some ⟨.equalise, .held⟩ }), (6, { record .silent with pending := some ⟨.enable, .queued⟩ })] }
    let x := { x with orderQueue := List.replicate 31 ⟨.remove, 1, 0, 0, .drop 1 0⟩ }
    (x.drop 1).pending = some ⟨.remove, .held⟩ ∧ (x.drop 64).pending = some ⟨.equalise, .held⟩ ∧
    (x.drop 6).pending = some ⟨.enable, .queued⟩ ∧ (x.fillOrders.drop 1).pending = some ⟨.remove, .queued⟩ ∧
    (x.fillOrders.drop 64).pending = some ⟨.equalise, .held⟩ ∧ x.replies[2]? = some (reply 12 .lookup (some (.denied, .held)) 3) ∧
    x.fillOrders.replies[2]? = some (reply 12 .lookup (some (.denied, .held)) 3) ∧
    lifeF.fillOrders.replies[2]? = some (reply 12 .lookup (some (.denied, .queued)) 3) ∧ lifeF.fillOrders.orderQueue.length < 32 := by decide +kernel

/-- A management frame's bytes for READ of FLOW record 5, and a frame of a tag type and of another type. -/
def frameOf (hi lo : Byte) : List Byte :=
  [0, 0, 0, 0, 0, 2, 0, 0, 0, 0, 0, 1, hi, lo, 1, 2, 0, 7, 0, 8, 0, 0, 0, 0, 0, 3, 0, 0, 0, 5] ++ List.replicate 34 0

theorem test_witness_ClassifierSendsEachFrameOneWay :
    (frameOf 0x9B 0x11).length = 64 ∧ natOf (((frameOf 0x9B 0x11).drop 12).take 2) = 0x9B11 ∧
    readFrame ((frameOf 0x9B 0x11).take 60) = some ⟨hd, 1, 2, .request (.read hd 3 5)⟩ ∧ bound.agent.controller = some hd.src ∧
    bound.agent.inbox = [] ∧ (readFrame (((frameOf 0x9B 0x11).set 14 2).take 60)).map (fun m => m.body) = some .badRequest ∧
    natOf (((frameOf 0x9B 0x10).drop 12).take 2) = 0x9B10 ∧ natOf (((frameOf 8 0).drop 12).take 2) ≠ 0x9B10 ∧
    State.reset.agent.bind ≠ .bound ∧ ((frameOf 8 0).take 63).length < 64 ∧
    bound.agent.hold.length < 8 ∧ waitsFor.agent.inbox = [.request (.suspend hd 1)] ∧
    (holdFullState.agent.controller = some hd.src ∧ 8 ≤ holdFullState.agent.hold.length) ∧
    bound.agent.controller ≠ some foreignHd.src ∧
    (readFrame ((((frameOf 0x9B 0x11).set 11 9)).take 60)).map (fun m => m.head) = some foreignHd ∧
    (readFrame ((((frameOf 0x9B 0x11).set 15 1).set 19 4).take 60)).map (fun m => m.body) = some (.request (.bind hd 3)) ∧
    (readFrame ((((frameOf 0x9B 0x11).set 15 3).set 25 8).take 60)).map (fun m => m.body) = some .badTable := by decide +kernel

theorem test_witness_DownstreamAdmissionStepsInOrder :
    let s (r : FlowRecord) := { life with tagMap := [(210, some 500)], flows := [(500, r)] }
    63 < 64 ∧ 2000 < 2001 ∧ (s FlowRecord.reset).tagEntry 211 = none ∧ (s FlowRecord.reset).tagEntry 210 = some 500 ∧
    FlowRecord.reset.enable = false ∧ (⟨.f0, 0, 0, 1, true⟩ : FlowRecord).drop = 0 ∧ (life.drop .f0 5).state = .leaving ∧
    (life.drop .f0 1).state = .active ∧ life.boundAccount .f0 1 = some 0 ∧ life.boundAccount .f0 64 = some 1 ∧
    (life.drop .f0 64).state = .dozing ∧ life.boundAccount .f0 6 = some 2 ∧ (life.drop .f0 6).state = .silent ∧
    (let z := withF0 lifeF (books.set Account.reset 1
        { Account.reset with loaded := true, state := .throttled, floorRate := 63, bound := some (.f0, 64), bucket := 100 })
     z.boundAccount .f0 64 = some 1 ∧ (z.account 1).state = .throttled ∧ (z.account 1).floorRate < 64) ∧
    (life.account 2).state = .suspended ∧ (life.account 1).state = .throttled ∧ (life.account 1).bucket < 101 ∧
    100 ≤ (life.account 1).bucket ∧ 64 ≤ (life.account 1).floorRate ∧ (life.account 0).state = .normal ∧ (life.feeder .f0).downQueue.length < 512 ∧
    512 ≤ ((withF0 { lifeF with downQueue := List.replicate 512 ⟨[], 500, 1⟩ } books).feeder .f0).downQueue.length := by
  decide +kernel

theorem test_witness_MeteringCountsAndCharges :
    life.boundAccount .f0 8 = none ∧ life.boundAccount .f0 1 = some 0 ∧
    (life.tariffPlan (life.account 0).plan).active.bands.getD life.meter.clock.quarter 0 = 0 ∧
    ((2000 : Nat) + 2 ^ (life.account 0).scale - 1) / 2 ^ (life.account 0).scale = 2000 := by decide +kernel

theorem test_witness_TransmitClassesKeepTheirOrder :
    let n : QueuedNotice := ⟨0, .replyOverrun .f0⟩
    let r : Statement := ⟨0, 0, 0, ⟨0, 0, 0⟩, 1, ⟨0, 0, 0, 0⟩, ⟨0, 0, 0, 0⟩, 0, 0, false, false⟩
    let s := { holdFullState with
      agent := { holdFullState.agent with notices := [n] }
      meter := { Meter.reset with queue := [r], exportCount := 3 }
      uplink := { Uplink.reset with sending := some .traffic } }
    s.resetHeld = false ∧ s.agent.hold ≠ [] ∧ s.uplink.responses.length < 8 ∧ s.agent.notices = [n] ∧
    s.uplink.notices.length < 8 ∧ s.meter.queue = [r] ∧ s.meter.held = false ∧ s.meter.exportCount < 4 ∧
    s.uplink.statements.length < 8 ∧ s.uplink.sending = some .traffic ∧
    ({ s.uplink with sending := some .statement } : Uplink).sending = some .statement ∧ bound.uplink.sending = none ∧ bound.agent.hold = [] ∧
    8 ≤ (List.replicate 8 r).length ∧
    (bound.agent.bind = .bound ∧ bound.agent.notices.length < 64 ∧ 64 ≤ (List.replicate 64 n).length ∧
      State.reset.agent.bind ≠ .bound) := by decide +kernel

theorem test_witness_RequestFramesReadBack :
    (Instr.topUp hd (2 ^ 32 - 1) (2 ^ 64 - 1)).wellFormed = true ∧
    requestParts (.topUp hd (2 ^ 32 - 1) (2 ^ 64 - 1)) = some (hd, 14, put4 (2 ^ 32 - 1) ++ put8 (2 ^ 64 - 1)) := by decide +kernel

theorem test_witness_StorageFormIsKept :
    let s := { life with pending := [.closeStep] }
    s.canonical = true ∧ s.bounded = true ∧ ∃ t, step s = .next t := ⟨by decide +kernel, by decide +kernel, ⟨_, rfl⟩⟩

/-- Of EqualisationIsKept and WindowSeparationIsKept. -/
theorem test_witness_EqualisationIsKept :
    (withF0 oneF []).equalised ∧ (withF0 oneF []).separated ∧
    ∃ t, step { withF0 oneF [] with pending := [.cycleStart []] } = .next t := by
  refine ⟨?_, ⟨?_, ?_⟩, ⟨_, rfl⟩⟩
  · intro f
    refine ⟨fun d => ?_, fun d hd => ?_, ?_⟩
    · cases f <;> intro h <;> first
        | (revert h; change (DropState.equalised .empty = true ∨ _) → _; intro h; simp [DropState.equalised, DropRecord.empty, withF0, bound, State.reset, State.feeder, PerFeeder.get, Feeder.drop, Feeder.reset, Tbl.get] at h)
        | skip
      by_cases hd : 1 = d
      · subst hd; rfl
      · simp [withF0, State.feeder, PerFeeder.get, Feeder.drop, oneF, Tbl.get, hd, DropState.equalised, DropRecord.empty] at h
    · cases f <;> try rfl
      have : ¬ 1 = d := by omega
      simp [withF0, State.feeder, PerFeeder.get, Feeder.drop, oneF, Tbl.get, this, DropRecord.empty]
    · cases f <;> intro h
      · cases h
      all_goals exact ⟨fun _ => rfl, rfl, rfl, rfl, rfl⟩
  · intro n; change 1 ≤ Profile.reset.minGrant; decide
  · intro f; cases f <;>
      exact ⟨by decide, by decide, fun _ => rfl, by
        intro o ho sl h
        have ho' : o ∈ ([none, none, none, none] : List (Option Slot)) := ho
        simp at ho'; subst ho'; cases h⟩

theorem test_witness_OnlyPowerOnResetEndsABinding :
    bound.agent.bind = .bound ∧ (∀ rest, [Instr.bindTimeout] ≠ .powerOnReset :: rest) ∧
    ∃ t, step { bound with pending := [.bindTimeout] } = .next t :=
  ⟨rfl, fun _ h => (by cases h), ⟨_, rfl⟩⟩

end Sys2Proof.Tests
end

section
/-! PROOFS. The label of a BURST window's burst (R57) and the two checks of R186, as arithmetic on the numbers that
the words spell. -/

namespace Sys2Proof

@[simp] theorem Quad.get_set_self {α : Type} (q : Quad α) (i : Nat) (v : α) : (q.set i v).get i = v := by
  rcases i with _ | _ | _ | i <;> rfl

namespace Machine

/-! ## The checks of R186 as arithmetic -/

/-- One bit into a CRC register of `w` bits, the register read as a number (R186). -/
def crcStep (w poly r : Nat) (bit : Bool) : Nat :=
  if r.testBit (w - 1) = bit then 2 * r % 2 ^ w else (2 * r % 2 ^ w) ^^^ poly

theorem crcBit_toNat {w : Nat} (poly r : BitVec w) (bit : Bool) :
    (crcBit poly r bit).toNat = crcStep w poly.toNat r.toNat bit := by
  have shifted : (r <<< 1).toNat = 2 * r.toNat % 2 ^ w := by
    rw [BitVec.toNat_shiftLeft, Nat.shiftLeft_eq, pow_one, Nat.mul_comm]
  have top : r.msb = r.toNat.testBit (w - 1) := by rw [BitVec.msb_eq_getLsbD_last, BitVec.getLsbD]
  unfold crcBit crcStep
  rw [← top]
  by_cases h : r.msb = bit
  · rw [if_neg (by simp [h]), if_pos h, shifted]
  · rw [if_pos (by simpa using h), if_neg h, BitVec.toNat_xor, shifted]

theorem foldl_crcBit_toNat {w : Nat} (poly r : BitVec w) (bits : List Bool) :
    (bits.foldl (crcBit poly) r).toNat = bits.foldl (crcStep w poly.toNat) r.toNat :=
  (List.foldl_hom BitVec.toNat fun x y => (crcBit_toNat poly x y).symm).symm

theorem bitsOf_word (w : Word) : bitsOf w = (List.range 32).map fun k => w.toNat.testBit (31 - k) := by
  refine List.map_congr_left fun k hk => ?_
  have hk : k < 32 := List.mem_range.mp hk
  rw [BitVec.getMsbD, decide_eq_true hk, Bool.true_and, BitVec.getLsbD]

theorem bitsOf_labelHigh (label : Word) :
    bitsOf (label.extractLsb' 16 16) = (List.range 16).map fun k => label.toNat.testBit (31 - k) := by
  refine List.map_congr_left fun k hk => ?_
  have hk : k < 16 := List.mem_range.mp hk
  have place : 16 + (16 - 1 - k) = 31 - k := by omega
  rw [BitVec.getMsbD, decide_eq_true hk, Bool.true_and, BitVec.getLsbD_extractLsb',
    decide_eq_true (by omega : 16 - 1 - k < 16), Bool.true_and, place, BitVec.getLsbD]

theorem labelCheck_toNat (label : Word) : (labelCheck label).toNat =
    ((List.range 16).map fun k => label.toNat.testBit (31 - k)).foldl (crcStep 16 0x1021) (2 ^ 16 - 1) := by
  rw [labelCheck, foldl_crcBit_toNat, bitsOf_labelHigh, BitVec.toNat_allOnes]
  rfl

theorem foldl_endCheckWord (r : BitVec 32) (words : List Word) :
    words.foldl endCheckWord r = (words.flatMap bitsOf).foldl (crcBit 0x04C11DB7#32) r :=
  List.foldl_flatMap.symm

theorem endCheck_toNat (words : List Word) : (endCheck words).toNat = 2 ^ 32 - 1 -
    (words.flatMap fun w => (List.range 32).map fun k => w.toNat.testBit (31 - k)).foldl
      (crcStep 32 0x04C11DB7) (2 ^ 32 - 1) := by
  have bits : words.flatMap bitsOf =
      words.flatMap fun w => (List.range 32).map fun k => w.toNat.testBit (31 - k) :=
    congrArg words.flatMap (funext bitsOf_word)
  rw [endCheck, BitVec.toNat_not, foldl_endCheckWord, foldl_crcBit_toNat, bits, BitVec.toNat_allOnes]
  rfl

/-! ## The fields of a label as numbers, and its decision (R57, R186) -/

theorem labelOk_iff (label : Word) : labelOk label = true ↔ label.toNat % 65536 = (labelCheck label).toNat := by
  simp [labelOk, field]

theorem indexField_eq (w : Word) : indexField w = w.toNat / 2 ^ 24 := by
  have := w.isLt
  simp only [indexField, field]
  omega

theorem kindField_eq (w : Word) : kindField w = w.toNat / 2 ^ 20 % 16 := rfl

theorem countField_eq (w : Word) : countField w = w.toNat / 2 ^ 16 % 16 := rfl

theorem dataLabel_eq_some {d r : Nat} {label : Word} {g : Found}
    (h : (g = .garbledLabel ∧ (label.toNat % 65536 ≠ (labelCheck label).toNat ∨ 64 < label.toNat / 2 ^ 24)) ∨
      (g = .mislabelled (label.toNat / 2 ^ 24) ∧ label.toNat % 65536 = (labelCheck label).toNat ∧
        label.toNat / 2 ^ 24 ≤ 64 ∧ label.toNat / 2 ^ 24 ≠ d) ∨
      (g = .garbledLabel ∧ label.toNat % 65536 = (labelCheck label).toNat ∧ label.toNat / 2 ^ 24 = d ∧ d ≤ 64 ∧
        (label.toNat / 2 ^ 20 % 16 ≠ 1 ∨ label.toNat / 2 ^ 16 % 16 ≠ r))) :
    dataLabel d r label = some g := by
  rw [ne_eq, ← labelOk_iff, ← indexField_eq, ← kindField_eq, ← countField_eq] at h
  unfold dataLabel
  obtain ⟨rfl, bad⟩ | ⟨rfl, ok, low, other⟩ | ⟨rfl, ok, own, low, wrong⟩ := h
  · rw [if_pos (by simpa using bad)]
  · rw [if_neg (by simp [ok, low]), if_pos other]
  · rw [if_neg (by simp [ok, own, low]), if_neg (not_not_intro own), if_pos wrong]

theorem dataLabel_eq_none {d r : Nat} {label : Word} (ok : label.toNat % 65536 = (labelCheck label).toNat)
    (own : label.toNat / 2 ^ 24 = d) (low : d ≤ 64) (kind : label.toNat / 2 ^ 20 % 16 = 1)
    (count : label.toNat / 2 ^ 16 % 16 = r) : dataLabel d r label = none := by
  rw [← labelOk_iff] at ok
  rw [← indexField_eq] at own
  rw [← kindField_eq] at kind
  rw [← countField_eq] at count
  simp [dataLabel, ok, own, low, kind, count]

/-! ## A finding written in the ring (R43, R54) -/

theorem Feeder.cycle_of_slotOf {x : Feeder} {n : CycleNo} {sl : Slot} (h : x.slotOf n = some sl) : sl.cycle = n := by
  unfold Feeder.slotOf at h
  split at h
  · split at h
    next hc => exact Option.some.inj h ▸ hc
    next => cases h
  · cases h

theorem Feeder.slotOf_setSlot_self (x : Feeder) {n : CycleNo} {sl : Slot} (h : sl.cycle = n) :
    (x.setSlot n (some sl)).slotOf n = some sl := by
  simp [Feeder.slotOf, Feeder.setSlot, h]

theorem Slot.window_onWindow (sl : Slot) (w : WindowId) (k : Window → Window) (hk : ∀ v, (k v).entry = v.entry) :
    (sl.onWindow w k).window w = (sl.window w).map k := by
  unfold Slot.onWindow Slot.window
  rw [List.find?_map]
  have named : ((fun x : Window => decide (x.entry.windowId = some w)) ∘
      fun x => if x.entry.windowId = some w then k x else x) = fun x => decide (x.entry.windowId = some w) := by
    funext v
    by_cases hv : v.entry.windowId = some w <;> simp [hv, hk]
  rw [named]
  refine Option.map_congr fun v hv => if_pos ?_
  simpa using List.find?_some hv

theorem Feeder.setFound_only_ring (x : Feeder) (n : CycleNo) (w : WindowId) (g : Found) :
    x.setFound n w g = { x with ring := (x.setFound n w g).ring } := by
  unfold Feeder.setFound
  cases x.slotOf n <;> rfl

theorem Feeder.foundFor_setFound {x : Feeder} {n : CycleNo} {w : WindowId} {sl : Slot} {v : Window} (g : Found)
    (hs : x.slotOf n = some sl) (hw : sl.window w = some v) : (x.setFound n w g).foundFor n w = g := by
  have written : (x.setFound n w g).slotOf n = some (sl.onWindow w fun v => { v with found := g }) := by
    simp only [Feeder.setFound, hs]
    exact x.slotOf_setSlot_self (sl := sl.onWindow w _) (Feeder.cycle_of_slotOf hs :)
  have window := sl.window_onWindow w (fun v => { v with found := g }) fun _ => rfl
  simp [Feeder.foundFor, written, window, hw]

/-! ## LABEL_READ (R57) -/

theorem Feeder.allocations_eq {x : Feeder} {n : CycleNo} {d w len : Nat} {allocs : List (Nat × Nat)}
    {flag : Option BurstFlag} {g : Found} {res : Resolution} {sl : Slot} (hs : x.slotOf n = some sl)
    (hw : sl.window (.burst d) = some ⟨.burst d w len allocs flag, g, res⟩) : x.allocations n d = allocs := by
  simp [Feeder.allocations, hs, hw]

theorem Feeder.readLabel_decided {x : Feeder} {n : CycleNo} {d : Nat} {b : Int} {label : Word} {g : Found}
    (hr : x.reader = .label n (.burst d) b) (hg : dataLabel d (x.allocations n d).length label = some g) :
    x.readLabel label = x.decided n (.burst d) g := by
  simp [Feeder.readLabel, hr, hg]

theorem Feeder.readLabel_body {x : Feeder} {n : CycleNo} {d : Nat} {b : Int} {label : Word}
    (hr : x.reader = .label n (.burst d) b) (hg : dataLabel d (x.allocations n d).length label = none) :
    x.readLabel label = { x with reader := .body n (.burst d) b (Body.start label (x.allocations n d)) } := by
  simp [Feeder.readLabel, hr, hg]

theorem Feeder.decided_only_reader_ring (x : Feeder) (n : CycleNo) (w : WindowId) (g : Found) :
    x.decided n w g = { x with reader := .idle, ring := (x.decided n w g).ring } :=
  Feeder.setFound_only_ring { x with reader := .idle } n w g

theorem Feeder.foundFor_decided {x : Feeder} {n : CycleNo} {w : WindowId} {sl : Slot} {v : Window} (g : Found)
    (hs : x.slotOf n = some sl) (hw : sl.window w = some v) : (x.decided n w g).foundFor n w = g :=
  Feeder.foundFor_setFound (x := { x with reader := .idle }) g hs hw

theorem exec_labelRead {s : State} (f : FeederId) (label : Word) (hp : s.resetHeld = false) :
    exec (.labelRead f label) s = .next (s.setFeeder f ((s.feeder f).readLabel label)) := by
  have arm : exec (.labelRead f label) s = execLabelRead f label s := rfl
  rw [arm]
  simp [execLabelRead, live, hp, State.onFeeder]

/-- Settles O36: the two checks are the register arithmetic of R186, and LABEL_READ follows the order of `dataLabel`. -/
theorem labelDecidesInOrder : Obligations.LabelDecidesInOrder := by
  unfold Obligations.LabelDecidesInOrder
  refine ⟨labelCheck_toNat, endCheck_toNat, ?_⟩
  intro f n d w len allocs flag b g0 res label sl s hp hr hs hw
  have ha := Feeder.allocations_eq hs hw
  rw [exec_labelRead f label hp]
  constructor
  · intro g hg
    have decided := Feeder.readLabel_decided hr (ha.symm ▸ dataLabel_eq_some hg)
    refine ⟨_, rfl, ?_, ?_⟩
    · rw [State.feeder_setFeeder_self, decided]
      exact Feeder.foundFor_decided g hs hw
    · rw [State.feeder_setFeeder_self, decided]
      exact congrArg (s.setFeeder f) (Feeder.decided_only_reader_ring _ n _ g)
  · intro ok own low kind count
    rw [Feeder.readLabel_body hr (ha.symm ▸ dataLabel_eq_none ok own low kind count), ha]
    rfl

end Machine

end Sys2Proof
end

section
/-! PROOFS. A drop that enters LEAVING (R113) and the REMOVE that brings it about (R114): what a filling of the line
order queue and the Light Monitor's answer to a departure leave of the drop that leaves. -/

namespace Sys2Proof

@[simp] theorem Tbl.erase_erase {α : Type} (t : Tbl α) (k : Nat) : (t.erase k).erase k = t.erase k := by
  simp [Tbl.erase]

@[simp] theorem Tbl.erase_insert {α : Type} (t : Tbl α) (k : Nat) (v : α) :
    (Tbl.insert k v t).erase k = t.erase k := by
  induction t with
  | nil => simp [Tbl.insert, Tbl.erase]
  | cons e t ih =>
    unfold Tbl.insert
    split
    · simp [Tbl.erase]
    · by_cases h : e.1 = k <;> simpa [Tbl.erase, h] using ih

/-- The later of two writes of one key stands. -/
@[simp] theorem Tbl.set_set {α : Type} [DecidableEq α] (dflt v w : α) (t : Tbl α) (k : Nat) :
    Tbl.set dflt (Tbl.set dflt t k v) k w = Tbl.set dflt t k w := by
  have erased : (Tbl.set dflt t k v).erase k = t.erase k := by
    unfold Tbl.set
    split <;> simp
  rw [Tbl.set, erased, ← Tbl.set]

theorem FeederId.ofNat?_toNat (f : FeederId) : FeederId.ofNat? f.toNat = some f := by cases f <;> rfl

theorem FeederId.ofNat?_of_lt {n : Nat} (h : 3 < n) : FeederId.ofNat? n = none := by
  obtain ⟨k, rfl⟩ : ∃ k, n = k + 4 := ⟨n - 4, by omega⟩
  rfl

namespace Machine

/-! ## The operands of a request about a drop -/

theorem feederAndIndex_eq_none {n d : Nat} (h : 3 < n ∨ d = 0 ∨ 64 < d) : feederAndIndex n d = none := by
  unfold feederAndIndex
  split
  · rfl
  next f hf =>
    have named : ¬ 3 < n := fun big => by simp [FeederId.ofNat?_of_lt big] at hf
    have outside : within 1 64 d = false := by
      simp only [within, Bool.and_eq_false_iff, decide_eq_false_iff_not]
      omega
    simp [outside]

theorem feederAndIndex_eq_some (f : FeederId) {d : Nat} (h1 : 1 ≤ d) (h2 : d ≤ 64) :
    feederAndIndex f.toNat d = some (f, d) := by
  simp [feederAndIndex, FeederId.ofNat?_toNat, within, h1, h2]

/-! ## A record whose order goes out -/

@[simp] theorem Feeder.setDrop_setDrop (x : Feeder) (d : Nat) (r r' : DropRecord) :
    (x.setDrop d r).setDrop d r' = x.setDrop d r' := by simp [Feeder.setDrop]

/-- `r'` is `r` but for where its pending order stands (R76, R77). -/
def DropRecord.SameButStatus (r r' : DropRecord) : Prop :=
  r' = { r with pending := r'.pending } ∧ r'.pending.map PendingOrder.kind = r.pending.map PendingOrder.kind

theorem DropRecord.SameButStatus.refl (r : DropRecord) : r.SameButStatus r := ⟨rfl, rfl⟩

theorem DropRecord.SameButStatus.trans {r r' r'' : DropRecord} (h : r.SameButStatus r') (h' : r'.SameButStatus r'') :
    r.SameButStatus r'' := by
  obtain ⟨rest, kind⟩ := h
  obtain ⟨rest', kind'⟩ := h'
  exact ⟨by rw [rest', rest], kind'.trans kind⟩

/-- A record with an order pending keeps that order, and only the order's status can differ. -/
theorem DropRecord.SameButStatus.exists_status {r r' : DropRecord} (h : r.SameButStatus r') {o : PendingOrder}
    (ho : r.pending = some o) : ∃ st, r' = { r with pending := some ⟨o.kind, st⟩ } := by
  obtain ⟨rest, kind⟩ := h
  rw [ho, Option.map_some, Option.map_eq_some_iff] at kind
  obtain ⟨o', ho', hk⟩ := kind
  exact ⟨o'.status, by rw [rest, ho', ← hk]⟩

/-! ## A filling of the line order queue (R77) -/

/-- What placing a drop's order does: nothing, or the HELD order of that drop is QUEUED at the tail. -/
theorem placeDropOrder_cases (x : Feeder) (d : Nat) :
    placeDropOrder x d = x ∨
    ∃ kind, (x.drop d).pending = some ⟨kind, .held⟩ ∧ placeDropOrder x d =
      { x.setDrop d { x.drop d with pending := some ⟨kind, .queued⟩ } with
        orderQueue := x.orderQueue ++ [dropOrder kind d (x.drop d)] } := by
  unfold placeDropOrder
  dsimp only
  split
  next kind held =>
    split
    · exact .inr ⟨kind, held, rfl⟩
    · exact .inl rfl
  next => exact .inl rfl

/-- Placing orders moves only the records, where an order's status can differ, and the queue. -/
theorem foldl_placeDropOrder_spec (l : List Nat) (x : Feeder) :
    ∃ y, l.foldl placeDropOrder x = y ∧ y = { x with drops := y.drops, orderQueue := y.orderQueue } ∧
      ∀ d, (x.drop d).SameButStatus (y.drop d) := by
  induction l generalizing x with
  | nil => exact ⟨x, rfl, rfl, fun d => .refl _⟩
  | cons e l ih =>
    obtain ⟨y, hy, frame, recs⟩ := ih (placeDropOrder x e)
    refine ⟨y, hy, ?_⟩
    obtain same | ⟨kind, held, placed⟩ := placeDropOrder_cases x e
    · rw [same] at frame recs
      exact ⟨frame, recs⟩
    · rw [placed] at frame recs
      refine ⟨frame, fun d => .trans ?_ (recs d)⟩
      change (x.drop d).SameButStatus ((x.setDrop e _).drop d)
      rw [Feeder.drop_setDrop]
      split
      next here => exact ⟨by rw [here], by rw [here, held]; rfl⟩
      next => exact .refl _

theorem Feeder.fillOrders_frame (x : Feeder) : x.fillOrders =
    { x with drops := x.fillOrders.drops, replies := x.fillOrders.replies, orderQueue := x.fillOrders.orderQueue } := by
  obtain ⟨y, hy, frame, -⟩ := foldl_placeDropOrder_spec dropIndices x
  unfold Feeder.fillOrders
  dsimp only
  rw [hy, frame]

theorem Feeder.fillOrders_drop (x : Feeder) (d : Nat) : (x.drop d).SameButStatus (x.fillOrders.drop d) := by
  obtain ⟨y, hy, -, recs⟩ := foldl_placeDropOrder_spec dropIndices x
  unfold Feeder.fillOrders
  dsimp only
  rw [hy]
  exact recs d

@[simp] theorem Feeder.fillOrders_reassembly (x : Feeder) : x.fillOrders.reassembly = x.reassembly := by
  rw [fillOrders_frame]

@[simp] theorem Feeder.fillOrders_upCount (x : Feeder) : x.fillOrders.upCount = x.upCount := by
  rw [fillOrders_frame]

@[simp] theorem Feeder.fillOrders_isolation (x : Feeder) : x.fillOrders.isolation = x.isolation := by
  rw [fillOrders_frame]

@[simp] theorem Feeder.fillOrders_partialFrame (x : Feeder) (d lane : Nat) :
    x.fillOrders.partialFrame d lane = x.partialFrame d lane := by simp [Feeder.partialFrame]

/-! ## What spares a drop

Work of the Light Monitor on one feeder that is about other drops: it may send the drop's own order on, since every
filling of the queue serves all drops (R77), and it never gives the drop a partial frame. -/

/-- From feeder `x` to `y` nothing happens to drop `d` but that its pending order moves on. -/
structure Feeder.Spares (d : Nat) (x y : Feeder) : Prop where
  record : (x.drop d).SameButStatus (y.drop d)
  noPartial : ∀ lane, x.partialFrame d lane = none → y.partialFrame d lane = none

theorem Feeder.Spares.refl (d : Nat) (x : Feeder) : x.Spares d x := ⟨.refl _, fun _ h => h⟩

theorem Feeder.Spares.trans {d : Nat} {x y z : Feeder} (h : x.Spares d y) (h' : y.Spares d z) : x.Spares d z :=
  ⟨h.record.trans h'.record, fun lane absent => h'.noPartial lane (h.noPartial lane absent)⟩

/-- A change of neither the records nor the reassembly slots spares every drop. -/
theorem Feeder.Spares.of_eq {d : Nat} {x y : Feeder} (drops : y.drops = x.drops) (slots : y.reassembly = x.reassembly) :
    x.Spares d y := by
  constructor
  · rw [Feeder.drop, Feeder.drop, drops]
    exact .refl _
  · intro lane absent
    rwa [Feeder.partialFrame, slots]

theorem Feeder.spares_fillOrders (d : Nat) (x : Feeder) : x.Spares d x.fillOrders :=
  ⟨x.fillOrders_drop d, fun lane absent => by rwa [Feeder.fillOrders_partialFrame]⟩

theorem Feeder.spares_setDrop {d k : Nat} (x : Feeder) (r : DropRecord) (h : d ≠ k) : x.Spares d (x.setDrop k r) :=
  ⟨by rw [Feeder.drop_setDrop_ne x k d r h]; exact .refl _, fun _ absent => absent⟩

theorem Feeder.spares_discardPartial (count : UpstreamCounters → UpstreamCounters) (d k lane : Nat) (x : Feeder) :
    x.Spares d (discardPartial count k lane x) := by
  obtain ⟨-, same⟩ | ⟨-, emptied⟩ := discardPartial_cases count k lane x
  · rw [same]
    exact .refl d x
  · rw [emptied]
    refine ⟨.refl _, fun j absent => ?_⟩
    simp only [Feeder.partialFrame, Tbl.get_set] at absent ⊢
    split
    · rfl
    · exact absent

theorem Feeder.Spares.foldl {α : Type} {d : Nat} {g : Feeder → α → Feeder}
    (hg : ∀ (x : Feeder) a, x.Spares d (g x a)) (l : List α) (x : Feeder) : x.Spares d (l.foldl g x) := by
  induction l generalizing x with
  | nil => exact .refl d x
  | cons a l ih => exact (hg x a).trans (ih (g x a))

/-- From state `s` to `t` only feeder `f` and the agent move, and drop `d` of the feeder is spared. -/
structure Spares (f : FeederId) (d : Nat) (s t : State) : Prop where
  own : (s.feeder f).Spares d (t.feeder f)
  others : ∀ g, g ≠ f → t.feeder g = s.feeder g
  meter : t.meter = s.meter
  uplink : t.uplink = s.uplink

section
variable {f : FeederId} {d : Nat}

theorem Spares.refl (s : State) : Spares f d s s := ⟨.refl d _, fun _ _ => rfl, rfl, rfl⟩

theorem Spares.trans {s t u : State} (h : Spares f d s t) (h' : Spares f d t u) : Spares f d s u where
  own := h.own.trans h'.own
  others g hg := (h'.others g hg).trans (h.others g hg)
  meter := h'.meter.trans h.meter
  uplink := h'.uplink.trans h.uplink

theorem Spares.onFeeder {s : State} {k : Feeder → Feeder} (h : (s.feeder f).Spares d (k (s.feeder f))) :
    Spares f d s (s.onFeeder f k) where
  own := by rwa [State.feeder_onFeeder_self]
  others g hg := State.feeder_onFeeder_ne s f g k hg
  meter := rfl
  uplink := rfl

/-! ## The Light Monitor spares a drop that it does not suspect (R131 to R139) -/

theorem spares_notify (n : Notice) (s : State) : Spares f d s (notify n s) := by
  unfold notify
  split
  · exact .refl s
  · split <;> exact ⟨.refl d _, fun _ _ => rfl, rfl, rfl⟩

theorem spares_onIsolation (g : Isolation → Isolation) (s : State) : Spares f d s (onIsolation f g s) := by
  unfold onIsolation
  exact .onFeeder (.of_eq rfl rfl)

theorem spares_finishIsolation (e : IsolationEnding) (s : State) : Spares f d s (finishIsolation f e s) := by
  unfold finishIsolation
  cases e with
  | quarantine => exact .onFeeder (.of_eq rfl rfl)
  | unattributed => exact .trans (.onFeeder (.of_eq rfl rfl)) (spares_notify _ _)

theorem spares_reachEnd (e : IsolationEnding) (s : State) : Spares f d s (reachEnd f e s) := by
  unfold reachEnd
  split
  · exact spares_finishIsolation e s
  · exact spares_onIsolation _ s

theorem spares_beginObservation (s : State) : Spares f d s (beginObservation f s) := by
  unfold beginObservation
  exact spares_onIsolation _ s

theorem spares_onDrop {k : Nat} (g : DropRecord → DropRecord) (s : State) (h : d ≠ k) :
    Spares f d s (s.onDrop f k g) := .onFeeder (Feeder.spares_setDrop _ _ h)

theorem spares_createOrder {k : Nat} (kind : OrderKind) (s : State) (h : d ≠ k) :
    Spares f d s (createOrder f k kind s) := by
  unfold createOrder
  split
  · exact (spares_onDrop _ s h).trans (.onFeeder (Feeder.spares_fillOrders d _))
  · exact spares_onDrop _ s h

theorem spares_leaveShining (k : Nat) (s : State) : Spares f d s (leaveShining f k s) :=
  .onFeeder (.foldl (fun x lane => Feeder.spares_discardPartial _ d k lane x) _ _)

theorem spares_isolationDarken {k : Nat} (s : State) (h : d ≠ k) : Spares f d s (isolationDarken f s k) := by
  unfold isolationDarken
  dsimp only
  split
  · exact ((spares_onDrop _ s h).trans (spares_leaveShining k _)).trans (spares_createOrder _ _ h)
  · exact .refl s

theorem spares_isolationDarkens {l : List Nat} (s : State) (h : d ∉ l) :
    Spares f d s (l.foldl (isolationDarken f) s) := by
  induction l generalizing s with
  | nil => exact .refl s
  | cons k l ih =>
    obtain ⟨hk, hl⟩ := not_or.1 (List.mem_cons.not.1 h)
    exact (spares_isolationDarken s hk).trans (ih _ hl)

theorem spares_beginStep {s : State} (h : d ∉ (s.feeder f).isolation.suspects) : Spares f d s (beginStep f s) := by
  unfold beginStep
  dsimp only
  split
  · exact spares_reachEnd _ s
  · exact (spares_onIsolation _ s).trans (spares_isolationDarkens _ fun tested => h (List.mem_of_mem_take tested))

theorem spares_nextStep {s : State} (h : d ∉ (s.feeder f).isolation.suspects) : Spares f d s (nextStep f s) :=
  (spares_onIsolation _ s).trans (spares_beginStep (by simpa [onIsolation] using h))

theorem spares_afterDeparture {s : State} (h : d ∉ (s.feeder f).isolation.suspects) :
    Spares f d s (afterDeparture f s) := by
  have next := spares_nextStep h
  unfold afterDeparture
  dsimp only
  split
  · exact spares_reachEnd _ s
  · split
    next =>
      split
      · exact next
      · split
        · exact spares_beginObservation s
        · exact .refl s
    next =>
      split
      · exact next
      · exact .refl s
    next =>
      split
      · exact next
      · exact .refl s
    next => exact .refl s

/-- The Light Monitor takes a drop that departs from the suspects before the step goes on (R138, R139). -/
theorem departure_cases (dark gone : Bool) (s : State) :
    departure f d dark gone s = s ∨
    ∃ g y, y = onIsolation f g s ∧ d ∉ (y.feeder f).isolation.suspects ∧
      (departure f d dark gone s = y ∨ (∃ e, departure f d dark gone s = finishIsolation f e y) ∨
        departure f d dark gone s = afterDeparture f y) := by
  unfold departure
  extract_lets i without departed suspect y
  split
  · exact .inl rfl
  · have unsuspected : d ∉ (y.feeder f).isolation.suspects := by
      simp only [y, onIsolation, State.feeder_onFeeder_self]
      split
      next => simp [without]
      next other => simpa [suspect, i] using other
    refine .inr ⟨_, y, rfl, unsuspected, ?_⟩
    split
    next e _ =>
      split
      · exact .inr (.inl ⟨e, rfl⟩)
      · exact .inl rfl
    next =>
      split
      · exact .inr (.inr rfl)
      · exact .inl rfl

theorem spares_departure (dark gone : Bool) (s : State) : Spares f d s (departure f d dark gone s) := by
  obtain same | ⟨g, y, hy, unsuspected, h⟩ := departure_cases (f := f) (d := d) dark gone s
  · rw [same]
    exact .refl s
  · have reached : Spares f d s y := hy ▸ spares_onIsolation g s
    obtain h | ⟨e, h⟩ | h := h <;> rw [h]
    · exact reached
    · exact reached.trans (spares_finishIsolation e y)
    · exact reached.trans (spares_afterDeparture unsuspected)

end

theorem departure_of_no_isolation {f : FeederId} {s : State} (d : Nat) (dark gone : Bool)
    (h : (s.feeder f).isolation.kind = none) : departure f d dark gone s = s := by
  simp [departure, h]

/-! ## Entering LEAVING (R113) -/

/-- The record of a drop as it enters LEAVING with no order pending: its REMOVE is created (R76, R113). -/
def DropRecord.leaving (why : RemoveReason) (r : DropRecord) : DropRecord :=
  { r with
    state := .leaving, leave := some why, resume := none, cause := none, phase := none, inFlight := none
    pending := some ⟨.remove, .held⟩ }

/-- The feeder once a drop with no order pending has entered LEAVING and its REMOVE has been filled (R77, R113). -/
def Feeder.withLeaving (x : Feeder) (d : Nat) (why : RemoveReason) : Feeder :=
  (x.setDrop d ((x.drop d).leaving why)).fillOrders

theorem Feeder.withLeaving_drop_self (x : Feeder) (d : Nat) (why : RemoveReason) :
    ((x.drop d).leaving why).SameButStatus ((x.withLeaving d why).drop d) := by
  have filled := (x.setDrop d ((x.drop d).leaving why)).fillOrders_drop d
  rwa [Feeder.drop_setDrop_self] at filled

theorem Feeder.withLeaving_drop_ne (x : Feeder) {d k : Nat} (why : RemoveReason) (h : k ≠ d) :
    (x.drop k).SameButStatus ((x.withLeaving d why).drop k) :=
  ((x.spares_setDrop _ h).trans (Feeder.spares_fillOrders k _)).record

@[simp] theorem Feeder.withLeaving_partialFrame (x : Feeder) (d : Nat) (why : RemoveReason) (k lane : Nat) :
    (x.withLeaving d why).partialFrame k lane = x.partialFrame k lane := Feeder.fillOrders_partialFrame _ k lane

@[simp] theorem Feeder.withLeaving_upCount (x : Feeder) (d : Nat) (why : RemoveReason) :
    (x.withLeaving d why).upCount = x.upCount := Feeder.fillOrders_upCount _

@[simp] theorem Feeder.withLeaving_isolation (x : Feeder) (d : Nat) (why : RemoveReason) :
    (x.withLeaving d why).isolation = x.isolation := Feeder.fillOrders_isolation _

/-- The state once a drop with no order pending has entered LEAVING, before the Light Monitor is told (R67, R113). -/
def beforeDeparture (f : FeederId) (d : Nat) (why : RemoveReason) (s : State) : State :=
  let t := s.setFeeder f ((s.feeder f).withLeaving d why)
  if (s.drop f d).state.shining then leaveShining f d t else t

theorem createRemove_eq {f : FeederId} {d : Nat} {s : State} (why : RemoveReason) (h : (s.drop f d).pending = none) :
    createOrder f d .remove (s.onDrop f d fun r =>
      { r with state := .leaving, leave := some why, resume := none, cause := none, phase := none, inFlight := none }) =
    s.setFeeder f ((s.feeder f).withLeaving d why) := by
  rw [createOrder, if_pos (by simp [h])]
  simp [fillOrders, State.onDrop, State.onFeeder, Feeder.withLeaving, DropRecord.leaving]

theorem enterLeaving_eq_departure {f : FeederId} {d : Nat} {s : State} (why : RemoveReason)
    (h : (s.drop f d).pending = none) :
    enterLeaving f d why s = departure f d (s.drop f d).isolated false (beforeDeparture f d why s) := by
  unfold enterLeaving beforeDeparture
  dsimp only
  rw [createRemove_eq why h]

section
variable {f : FeederId} {d : Nat} (hd : 1 ≤ d) (why : RemoveReason) (s : State)
include hd

/-- Nothing moves before the Light Monitor is told but what the filling places and what a shining drop's discarded
frames touch (R67, R77, R113). -/
theorem beforeDeparture_frame : beforeDeparture f d why s = s.setFeeder f { (s.feeder f).withLeaving d why with
    reassembly := ((beforeDeparture f d why s).feeder f).reassembly
    upCount := ((beforeDeparture f d why s).feeder f).upCount } := by
  unfold beforeDeparture
  dsimp only
  split
  next =>
    obtain ⟨y, hy, -, frame⟩ := leaveShining_eq f hd (s.setFeeder f ((s.feeder f).withLeaving d why))
    simp only [State.feeder_setFeeder_self, State.setFeeder_setFeeder] at frame
    have counted := congrArg (fun t : State => (t.feeder f).upCount) frame
    simp only [State.feeder_setFeeder_self] at counted
    rw [hy, counted]
    exact frame
  next => rw [State.feeder_setFeeder_self]

/-- The partial frames of a shining drop are discarded (R67). -/
theorem beforeDeparture_partialFrame {k lane : Nat} (hk : 1 ≤ k) (hl : lane < 4) :
    ((beforeDeparture f d why s).feeder f).partialFrame k lane =
      if k = d ∧ (s.drop f d).state.shining = true then none else (s.feeder f).partialFrame k lane := by
  unfold beforeDeparture
  dsimp only
  split
  next shining =>
    obtain ⟨y, hy, slots, -⟩ := leaveShining_eq f hd (s.setFeeder f ((s.feeder f).withLeaving d why))
    simp [hy, slots k lane hk hl, shining]
  next dim => simp [dim]

/-- The partial frames of a shining drop are counted as lost to a state change (R67, R72). -/
theorem beforeDeparture_upCount :
    ((beforeDeparture f d why s).feeder f).upCount = { (s.feeder f).upCount with
      lostToState := (s.feeder f).upCount.lostToState + (if (s.drop f d).state.shining then BitVec.ofNat 32
        (laneNumbers.filter fun l => ((s.feeder f).partialFrame d l).isSome).length else 0) } := by
  unfold beforeDeparture
  dsimp only
  split
  next =>
    obtain ⟨y, hy, -, frame⟩ := leaveShining_eq f hd (s.setFeeder f ((s.feeder f).withLeaving d why))
    rw [hy, frame]
    simp
  next => simp

theorem beforeDeparture_feeder_self : (beforeDeparture f d why s).feeder f = { (s.feeder f).withLeaving d why with
    reassembly := ((beforeDeparture f d why s).feeder f).reassembly
    upCount := ((beforeDeparture f d why s).feeder f).upCount } :=
  (congrArg (fun t : State => t.feeder f) (beforeDeparture_frame hd why s)).trans (State.feeder_setFeeder_self ..)

theorem beforeDeparture_drop (k : Nat) :
    (beforeDeparture f d why s).drop f k = ((s.feeder f).withLeaving d why).drop k := by
  rw [State.drop, beforeDeparture_feeder_self hd, Feeder.drop, Feeder.drop]

theorem beforeDeparture_isolation :
    ((beforeDeparture f d why s).feeder f).isolation = (s.feeder f).isolation := by
  rw [beforeDeparture_feeder_self hd, Feeder.withLeaving_isolation]

end

section
variable {f : FeederId} {d : Nat} {s : State} (why : RemoveReason) (free : (s.drop f d).pending = none)
include free

/-- Telling the Light Monitor spares the drop that leaves (R113, R138). -/
theorem spares_enterLeaving : Spares f d (beforeDeparture f d why s) (enterLeaving f d why s) := by
  rw [enterLeaving_eq_departure why free]
  exact spares_departure _ false _

theorem enterLeaving_drop (hd : 1 ≤ d) :
    ((s.drop f d).leaving why).SameButStatus ((enterLeaving f d why s).drop f d) := by
  have left := (s.feeder f).withLeaving_drop_self d why
  rw [← beforeDeparture_drop hd why s] at left
  exact left.trans (spares_enterLeaving why free).own.record

theorem enterLeaving_of_no_isolation (hd : 1 ≤ d) (quiet : (s.feeder f).isolation.kind = none) :
    enterLeaving f d why s = beforeDeparture f d why s := by
  rw [enterLeaving_eq_departure why free]
  exact departure_of_no_isolation d _ false (by rw [beforeDeparture_isolation hd, quiet])

end

/-! ## REMOVE (R114) -/

theorem exec_remove (h : MgmtHead) (n d : Nat) (s : State) :
    exec (.remove h n d) s = live s (takeRequest (.remove h n d) h 9 (removeDecided n d)) := by
  have arm : exec (.remove h n d) s = execRemove h n d s := rfl
  rw [arm, execRemove]

theorem removeDecided_badIndex {n d : Nat} (s : State) (h : 3 < n ∨ d = 0 ∨ 64 < d) :
    removeDecided n d s = refuseWith .badIndex s := by
  rw [removeDecided, feederAndIndex_eq_none h]

section
variable {f : FeederId} {d : Nat} {s : State} (h1 : 1 ≤ d) (h2 : d ≤ 64)
include h1 h2

theorem removeDecided_wrongState (h : (s.drop f d).state = .empty ∨ (s.drop f d).state = .leaving) :
    removeDecided f.toNat d s = refuseWith .wrongState s := by
  simp only [removeDecided, feederAndIndex_eq_some f h1 h2]
  rw [if_pos h]

theorem removeDecided_busy (he : (s.drop f d).state ≠ .empty) (hl : (s.drop f d).state ≠ .leaving)
    (hp : (s.drop f d).pending ≠ none) : removeDecided f.toNat d s = refuseWith .busy s := by
  simp only [removeDecided, feederAndIndex_eq_some f h1 h2]
  rw [if_neg (not_or.2 ⟨he, hl⟩), if_pos (Option.isSome_iff_ne_none.2 hp)]

theorem removeDecided_done (he : (s.drop f d).state ≠ .empty) (hl : (s.drop f d).state ≠ .leaving)
    (hp : (s.drop f d).pending = none) : removeDecided f.toNat d s =
      (enterLeaving f d .hostRemove s, .done (.drop ((enterLeaving f d .hostRemove s).drop f d))) := by
  simp only [removeDecided, feederAndIndex_eq_some f h1 h2]
  rw [if_neg (not_or.2 ⟨he, hl⟩), if_neg (by simp [hp])]

end

/-- Settles O18: REMOVE decides in its order; a drop that leaves stands as the `beforeDeparture` lemmas say, and telling
the Light Monitor spares it. -/
theorem removeMakesTheDropLeave : Obligations.RemoveMakesTheDropLeave := by
  unfold Obligations.RemoveMakesTheDropLeave
  intro h n d s ha
  have he := exec_remove h n d s
  refine ⟨fun bad => refuses_of ha he (removeDecided_badIndex s bad), ?_⟩
  rintro f rfl h1 h2
  refine ⟨fun wrong => refuses_of ha he (removeDecided_wrongState h1 h2 wrong), fun notEmpty notLeaving =>
    ⟨fun busy => refuses_of ha he (removeDecided_busy h1 h2 notEmpty notLeaving busy), fun free => ?_⟩⟩
  have frame := beforeDeparture_frame (f := f) h1 .hostRemove s
  have spared := spares_enterLeaving .hostRemove free
  refine ⟨enterLeaving f d .hostRemove s, beforeDeparture f d .hostRemove s, ?done, ?told, frame,
    fun k lane => beforeDeparture_partialFrame h1 .hostRemove s, beforeDeparture_upCount h1 .hostRemove s,
    enterLeaving_of_no_isolation .hostRemove free h1, ?record, ?others, ?emptied, ?meter, ?uplink, ?quiet⟩
  case done => exact done_of ha he (removeDecided_done h1 h2 notEmpty notLeaving free)
  case told => rw [enterLeaving_eq_departure .hostRemove free, DropRecord.isolated, Bool.decide_and]
  case record => exact (enterLeaving_drop .hostRemove free h1).exists_status rfl
  case others =>
    intro g hg
    rw [spared.others g hg, frame, State.feeder_setFeeder_ne _ _ _ _ hg]
  case emptied =>
    intro shining lane hl
    exact spared.own.noPartial lane (by
      rw [beforeDeparture_partialFrame h1 .hostRemove s h1 hl, if_pos ⟨rfl, shining⟩])
  case meter => rw [spared.meter, frame, State.setFeeder_meter]
  case uplink => rw [spared.uplink, frame, State.setFeeder_uplink]
  case quiet =>
    intro quiet
    rw [enterLeaving_of_no_isolation .hostRemove free h1 quiet]
    refine ⟨?_, fun k hk => ?_⟩
    · rw [beforeDeparture_feeder_self h1]
      exact frame
    · obtain ⟨rest, -⟩ := (s.feeder f).withLeaving_drop_ne .hostRemove hk
      rw [← beforeDeparture_drop h1 .hostRemove s] at rest
      exact rest

end Machine

end Sys2Proof
end


section
/-! PROOFS. What keeps the invariants of every step: the relations `Feeder.Keeps`, `Keeps` and `Owned`, and one lemma for
each way in which an operation changes a feeder, the Usage Meter or the agent. -/

namespace Sys2Proof

theorem Quad.mem_list_set {α : Type} {q : Quad α} {i : Nat} {v o : α} (h : o ∈ (q.set i v).list) :
    o = v ∨ o ∈ q.list := by
  rcases i with _ | _ | _ | i <;> simp [Quad.set, Quad.list] at h ⊢ <;> tauto

theorem Quad.get_mem_list {α : Type} (q : Quad α) (i : Nat) : q.get i ∈ q.list := by
  rcases i with _ | _ | _ | i <;> simp [Quad.get, Quad.list]

namespace Machine

/-! ## One feeder -/

/-- From feeder `x` to `y` each invariant of a feeder is kept. -/
structure Feeder.Keeps (x y : Feeder) : Prop where
  canonical : x.canonical = true → y.canonical = true
  bounded : x.bounded = true → y.bounded = true
  equalised : x.equalised → y.equalised
  separated : x.separated → y.separated

/-- What the invariants of a feeder look at. -/
def Feeder.core (x : Feeder) :=
  (x.drops, x.lanes, x.marks, x.reassembly, x.orderQueue, x.replies, x.downQueue, x.settings, x.running, x.ring, x.reader,
    x.detector.inCycle)

theorem Feeder.Keeps.refl (x : Feeder) : x.Keeps x := ⟨id, id, id, id⟩

theorem Feeder.Keeps.trans {x y z : Feeder} (h : x.Keeps y) (k : y.Keeps z) : x.Keeps z :=
  ⟨fun a => k.canonical (h.canonical a), fun a => k.bounded (h.bounded a), fun a => k.equalised (h.equalised a),
    fun a => k.separated (h.separated a)⟩

theorem Feeder.Keeps.of_core {x y : Feeder} (h : y.core = x.core) : x.Keeps y := by
  simp only [Feeder.core, Prod.mk.injEq] at h
  obtain ⟨h1, h2, h3, h4, h5, h6, h7, h8, h9, h10, h11, h12⟩ := h
  constructor <;>
    simp [Feeder.canonical, Feeder.bounded, Feeder.equalised, Feeder.separated, Feeder.drop, h1, h2, h3, h4, h5, h6, h7,
      h8, h9, h10, h11, h12]

theorem Feeder.Keeps.foldl {α : Type} {g : Feeder → α → Feeder} (hg : ∀ (x : Feeder) a, x.Keeps (g x a)) (l : List α)
    (x : Feeder) : x.Keeps (l.foldl g x) := by
  induction l generalizing x with
  | nil => exact .refl x
  | cons a l ih => exact (hg x a).trans (ih (g x a))

/-- A record may be written where it stays EMPTY if it was, and stays equalised. -/
theorem Feeder.keeps_setDrop {x : Feeder} {d : Nat} {r : DropRecord}
    (empty : (x.drop d).state = .empty → r.state = .empty)
    (equal : x.equalised → r.equalisedAt x.settings.td) : x.Keeps (x.setDrop d r) where
  canonical h := by
    simp only [Feeder.canonical, Feeder.setDrop, Bool.and_eq_true] at h ⊢
    exact ⟨⟨⟨Tbl.wf_set _ h.1.1.1 _ _, h.1.1.2⟩, h.1.2⟩, h.2⟩
  bounded h := h
  separated h := h
  equalised h := by
    obtain ⟨records, outside, stopped⟩ := h
    refine ⟨fun k => ?_, fun k hk => ?_, fun off => ?_⟩
    · rw [Feeder.drop_setDrop]
      split
      · exact equal ⟨records, outside, stopped⟩
      · exact records k
    · rw [Feeder.drop_setDrop]
      split
      next here => exact empty (here ▸ outside k hk)
      next => exact outside k hk
    · obtain ⟨allEmpty, rest⟩ := stopped off
      refine ⟨fun k => ?_, rest⟩
      rw [Feeder.drop_setDrop]
      split
      next => exact empty (allEmpty d)
      next => exact allEmpty k

/-- A record whose state, ranging phase and delays stay is equalised as it was. -/
theorem DropRecord.equalisedAt_congr {r r' : DropRecord} {td : Nat} (state : r'.state = r.state)
    (phase : r'.phase = r.phase) (rtd : r'.rtd = r.rtd) (eqd : r'.eqd = r.eqd) :
    r.equalisedAt td → r'.equalisedAt td := by
  simp only [DropRecord.equalisedAt, state, phase, rtd, eqd]
  exact id

theorem Feeder.keeps_setDrop_same {x : Feeder} {d : Nat} {r : DropRecord} (state : r.state = (x.drop d).state)
    (phase : r.phase = (x.drop d).phase) (rtd : r.rtd = (x.drop d).rtd) (eqd : r.eqd = (x.drop d).eqd) :
    x.Keeps (x.setDrop d r) :=
  keeps_setDrop (fun h => state.trans h) fun h => DropRecord.equalisedAt_congr state phase rtd eqd (h.1 d)

/-- Every record may be rewritten where its state, ranging phase and delays stay. -/
theorem Feeder.keeps_updateDrops {x : Feeder} {g : Nat → DropRecord → DropRecord}
    (dflt : ∀ k, g k DropRecord.empty = DropRecord.empty)
    (same : ∀ k r, (g k r).state = r.state ∧ (g k r).phase = r.phase ∧ (g k r).rtd = r.rtd ∧ (g k r).eqd = r.eqd) :
    x.Keeps { x with drops := x.drops.update DropRecord.empty g } := by
  have read : ∀ k, ({ x with drops := x.drops.update DropRecord.empty g } : Feeder).drop k = g k (x.drop k) := fun k =>
    Tbl.get_update _ g dflt _ _
  refine ⟨fun h => ?_, fun h => h, fun h => ?_, fun h => h⟩
  · simp only [Feeder.canonical, Bool.and_eq_true] at h ⊢
    exact ⟨⟨⟨Tbl.wf_update _ _ h.1.1.1, h.1.1.2⟩, h.1.2⟩, h.2⟩
  · obtain ⟨records, outside, stopped⟩ := h
    refine ⟨fun k => ?_, fun k hk => ?_, fun off => ⟨fun k => ?_, (stopped off).2⟩⟩
    · obtain ⟨state, phase, rtd, eqd⟩ := same k (x.drop k)
      rw [read]
      exact DropRecord.equalisedAt_congr state phase rtd eqd (records k)
    · rw [read, (same k _).1]
      exact outside k hk
    · rw [read, (same k _).1]
      exact (stopped off).1 k

theorem Feeder.keeps_setLane (x : Feeder) (d lane : Nat) (r : LaneRecord) : x.Keeps (x.setLane d lane r) where
  canonical h := by
    simp only [Feeder.canonical, Feeder.setLane, Bool.and_eq_true] at h ⊢
    exact ⟨⟨⟨h.1.1.1, Tbl.wf_set _ h.1.1.2 _ _⟩, h.1.2⟩, h.2⟩
  bounded h := h
  equalised h := h
  separated h := h

theorem Feeder.keeps_setMark (x : Feeder) (d : Nat) (m : Option ResumeMark) : x.Keeps (x.setMark d m) where
  canonical h := by
    simp only [Feeder.canonical, Feeder.setMark, Bool.and_eq_true] at h ⊢
    exact ⟨⟨h.1.1, Tbl.wf_set _ h.1.2 _ _⟩, h.2⟩
  bounded h := h
  equalised h := h
  separated h := h

theorem Feeder.keeps_setPartial (x : Feeder) (d lane : Nat) (p : Option Partial) : x.Keeps (x.setPartial d lane p) where
  canonical h := by
    simp only [Feeder.canonical, Feeder.setPartial, Bool.and_eq_true] at h ⊢
    exact ⟨h.1, Tbl.wf_set _ h.2 _ _⟩
  bounded h := h
  equalised h := h
  separated h := h

theorem Feeder.keeps_clearMarks (x : Feeder) (n : CycleNo) : x.Keeps (x.clearMarks n) where
  canonical h := by
    simp only [Feeder.canonical, Feeder.clearMarks, Bool.and_eq_true] at h ⊢
    exact ⟨⟨h.1.1, Tbl.wf_update _ _ h.1.2⟩, h.2⟩
  bounded h := h
  equalised h := h
  separated h := h

/-- The reply queue and the two frame and order queues may be replaced by ones within their places; a STOPPED feeder's reply
queue stays empty. -/
theorem Feeder.keeps_queues (x : Feeder) {orders : List LineOrder} {replies : List ReplyEntry} {frames : List DownFrame}
    (ho : x.bounded = true → orders.length ≤ Config.orderPlaces)
    (hr : x.bounded = true → replies.length ≤ Config.replyPlaces)
    (hd : x.bounded = true → frames.length ≤ Config.downPlaces)
    (stays : x.equalised → x.running = false → replies = []) :
    x.Keeps { x with orderQueue := orders, replies := replies, downQueue := frames } where
  canonical h := h
  bounded h := by simpa [Feeder.bounded] using ⟨⟨ho h, hr h⟩, hd h⟩
  separated h := h
  equalised h := by
    obtain ⟨records, outside, stopped⟩ := id h
    refine ⟨records, outside, fun off => ?_⟩
    obtain ⟨allEmpty, -, rest⟩ := stopped off
    exact ⟨allEmpty, stays h off, rest⟩

theorem Feeder.bounded_iff (x : Feeder) : x.bounded = true ↔ x.orderQueue.length ≤ Config.orderPlaces ∧
    x.replies.length ≤ Config.replyPlaces ∧ x.downQueue.length ≤ Config.downPlaces := by
  simp [Feeder.bounded, and_assoc]

theorem Feeder.keeps_replies (x : Feeder) {replies : List ReplyEntry}
    (hr : x.bounded = true → replies.length ≤ Config.replyPlaces)
    (stays : x.equalised → x.running = false → replies = []) : x.Keeps { x with replies := replies } :=
  x.keeps_queues (orders := x.orderQueue) (frames := x.downQueue) (fun h => (x.bounded_iff.1 h).1) hr
    (fun h => (x.bounded_iff.1 h).2.2) stays

theorem Feeder.keeps_orderQueue (x : Feeder) {orders : List LineOrder}
    (ho : x.bounded = true → orders.length ≤ Config.orderPlaces) : x.Keeps { x with orderQueue := orders } :=
  x.keeps_queues (replies := x.replies) (frames := x.downQueue) ho (fun h => (x.bounded_iff.1 h).2.1)
    (fun h => (x.bounded_iff.1 h).2.2) fun h off => ((h.2.2 off).2).1

theorem Feeder.Keeps.replies_map (x : Feeder) (g : ReplyEntry → ReplyEntry) :
    x.Keeps { x with replies := x.replies.map g } :=
  x.keeps_replies (fun h => by simpa using (x.bounded_iff.1 h).2.1) fun h off => by simp [((h.2.2 off).2).1]

theorem Feeder.Keeps.replies_filter (x : Feeder) (p : ReplyEntry → Bool) :
    x.Keeps { x with replies := x.replies.filter p } :=
  x.keeps_replies (fun h => (List.length_filter_le _ _).trans (x.bounded_iff.1 h).2.1) fun h off => by
    simp [((h.2.2 off).2).1]

/-! ## The ring of a feeder -/

theorem Feeder.slotOf_mem {x : Feeder} {n : CycleNo} {sl : Slot} (h : x.slotOf n = some sl) : some sl ∈ x.ring.list := by
  unfold Feeder.slotOf at h
  split at h
  next held => split at h
               · exact Option.some.inj h ▸ held ▸ Quad.get_mem_list _ _
               · cases h
  next => cases h

/-- A feeder with a plan in its ring runs. -/
theorem Feeder.running_of_slotOf {x : Feeder} {n : CycleNo} {sl : Slot} (he : x.equalised ∨ x.separated)
    (h : x.slotOf n = some sl) : x.running = true := by
  by_contra off
  have off : x.running = false := by simpa using off
  have empty : x.ring = ⟨none, none, none, none⟩ := by
    obtain he | he := he
    · exact (he.2.2 off).2.2.1
    · exact he.2.2.1 off
  have := Feeder.slotOf_mem h
  simp [empty, Quad.list] at this

/-- The windows' entries alone decide whether a plan keeps R41. -/
theorem Slot.apart_congr {dk : Nat} {sl sl' : Slot} (h : sl'.windows.map Window.entry = sl.windows.map Window.entry) :
    sl.apart dk → sl'.apart dk := by
  simp only [Slot.apart, h]
  exact id

/-- A ring may be rewritten where each plan in it has the entries of one that it held, and the feeder runs if it holds one. -/
theorem Feeder.keeps_ring {x : Feeder} {ring : Quad (Option Slot)}
    (stopped : x.running = false → x.ring = ⟨none, none, none, none⟩ → ring = ⟨none, none, none, none⟩)
    (plans : x.separated → ∀ sl, some sl ∈ ring.list → sl.apart x.settings.dk) : x.Keeps { x with ring := ring } where
  canonical h := h
  bounded h := h
  equalised h := by
    obtain ⟨records, outside, off⟩ := h
    refine ⟨records, outside, fun hr => ?_⟩
    obtain ⟨h1, h2, h3, h4⟩ := off hr
    exact ⟨h1, h2, stopped hr h3, h4⟩
  separated h := by
    obtain ⟨dk, reach, off, -⟩ := id h
    exact ⟨dk, reach, fun hr => stopped hr (off hr), fun o ho sl e => plans h sl (e ▸ ho)⟩

theorem Feeder.keeps_setSlot {x : Feeder} {n : CycleNo} {m : CycleNo} {sl sl' : Slot} (h : x.slotOf n = some sl)
    (entries : sl'.windows.map Window.entry = sl.windows.map Window.entry) : x.Keeps (x.setSlot m (some sl')) := by
  refine keeps_ring (fun _ empty => ?_) fun hs t ht => ?_
  · have := Feeder.slotOf_mem h
    simp [empty, Quad.list] at this
  · obtain ht | ht := Quad.mem_list_set ht
    · obtain rfl := Option.some.inj ht
      exact Slot.apart_congr entries (hs.2.2.2 _ (Feeder.slotOf_mem h) _ rfl)
    · exact hs.2.2.2 _ ht _ rfl

theorem Feeder.keeps_freeSlot (x : Feeder) (n : CycleNo) : x.Keeps (x.setSlot n none) := by
  refine keeps_ring (fun _ empty => ?_) fun hs t ht => ?_
  · rw [empty]
    rcases slotNumber n with _ | _ | _ | i <;> rfl
  · obtain ht | ht := Quad.mem_list_set ht
    · cases ht
    · exact hs.2.2.2 _ ht _ rfl

theorem Slot.onWindow_entries (sl : Slot) (w : WindowId) {g : Window → Window} (hg : ∀ v, (g v).entry = v.entry) :
    (sl.onWindow w g).windows.map Window.entry = sl.windows.map Window.entry := by
  simp only [Slot.onWindow, List.map_map]
  refine List.map_congr_left fun v _ => ?_
  simp only [Function.comp]
  split
  · exact hg v
  · rfl

theorem Feeder.keeps_onLight (x : Feeder) (n : CycleNo) (g : LightRecord → LightRecord) : x.Keeps (x.onLight n g) := by
  unfold Feeder.onLight
  split
  next => exact .refl x
  next sl h => exact keeps_setSlot (sl' := { sl with light := g sl.light }) h rfl

theorem Feeder.keeps_setFound (x : Feeder) (n : CycleNo) (w : WindowId) (g : Found) : x.Keeps (x.setFound n w g) := by
  unfold Feeder.setFound
  split
  next => exact .refl x
  next sl h => exact keeps_setSlot h (sl.onWindow_entries w fun _ => rfl)

theorem Feeder.keeps_setResolution (x : Feeder) (n : CycleNo) (w : WindowId) (res : Resolution) (g : Found) :
    x.Keeps (x.setResolution n w res g) := by
  unfold Feeder.setResolution
  split
  next => exact .of_core rfl
  next sl h => exact (keeps_setSlot h (sl.onWindow_entries w (g := fun v => { v with resolution := res }) fun _ => rfl)).trans
                (.of_core rfl)

/-! ## The part -/

/-- Every step keeps these: each invariant, and the binding of a BOUND agent. -/
structure Keeps (s t : State) : Prop where
  canonical : s.canonical = true → t.canonical = true
  bounded : s.bounded = true → t.bounded = true
  equalised : s.equalised → t.equalised
  separated : s.separated → t.separated
  binding : s.agent.bind = .bound → t.binding = s.binding

/-- The agent differs at most in its notices and their counter: it owes and holds the same answers. -/
def AgentQuiet (s t : State) : Prop :=
  t.agent = { s.agent with
    notices := t.agent.notices, noticeLost := t.agent.noticeLost
    count := { s.agent.count with noticesLost := t.agent.count.noticesLost } }

/-- The work of an owner: the invariants are kept, and the agent is asked for notices at most. -/
structure Owned (s t : State) : Prop where
  canonical : s.canonical = true → t.canonical = true
  bounded : s.bounded = true → t.bounded = true
  equalised : s.equalised → t.equalised
  separated : s.separated → t.separated
  agent : AgentQuiet s t

theorem Keeps.refl (s : State) : Keeps s s := ⟨id, id, id, id, fun _ => rfl⟩

theorem Keeps.trans {s t u : State} (h : Keeps s t) (k : Keeps t u) : Keeps s u where
  canonical a := k.canonical (h.canonical a)
  bounded a := k.bounded (h.bounded a)
  equalised a := k.equalised (h.equalised a)
  separated a := k.separated (h.separated a)
  binding a := by
    have first := h.binding a
    have bound : t.agent.bind = .bound := (congrArg Prod.fst first).trans a
    rw [k.binding bound, first]

theorem AgentQuiet.trans {s t u : State} (h : AgentQuiet s t) (k : AgentQuiet t u) : AgentQuiet s u := by
  unfold AgentQuiet at *
  rw [k, h]

theorem AgentQuiet.hold {s t : State} (h : AgentQuiet s t) : t.agent.hold = s.agent.hold := by rw [h]

theorem Owned.refl (s : State) : Owned s s := ⟨id, id, id, id, rfl⟩

theorem Owned.trans {s t u : State} (h : Owned s t) (k : Owned t u) : Owned s u :=
  ⟨fun a => k.canonical (h.canonical a), fun a => k.bounded (h.bounded a), fun a => k.equalised (h.equalised a),
    fun a => k.separated (h.separated a), h.agent.trans k.agent⟩

theorem Owned.keeps {s t : State} (h : Owned s t) : Keeps s t :=
  ⟨h.canonical, h.bounded, h.equalised, h.separated, fun _ => by rw [State.binding, h.agent]; rfl⟩

theorem Owned.foldl {α : Type} {g : State → α → State} (hg : ∀ s a, Owned s (g s a)) (l : List α) (s : State) :
    Owned s (l.foldl g s) := by
  induction l generalizing s with
  | nil => exact .refl s
  | cons a l ih => exact (hg s a).trans (ih (g s a))

theorem Keeps.foldl {α : Type} {g : State → α → State} (hg : ∀ s a, Keeps s (g s a)) (l : List α) (s : State) :
    Keeps s (l.foldl g s) := by
  induction l generalizing s with
  | nil => exact .refl s
  | cons a l ih => exact (hg s a).trans (ih (g s a))

/-- Every table outside the feeders stands in its canonical form. -/
def State.tablesCanonical (s : State) : Prop :=
  Tbl.wf Profile.reset s.profiles = true ∧ Tbl.wf none s.admission = true ∧ Tbl.wf none s.tagMap = true ∧
  Tbl.wf FlowRecord.reset s.flows = true ∧ Tbl.wf Account.reset s.meter.accounts = true ∧
  Tbl.wf TariffPlan.reset s.meter.plans = true

/-- Every queue outside the feeders holds no more than its places. -/
def State.classesBounded (s : State) : Prop :=
  s.uplink.responses.length ≤ Config.classPlaces ∧ s.uplink.notices.length ≤ Config.classPlaces ∧
  s.uplink.statements.length ≤ Config.classPlaces ∧ s.uplink.traffic.length ≤ Config.trafficPlaces ∧
  s.agent.hold.length ≤ Config.holdPlaces ∧ s.agent.notices.length ≤ Config.noticePlaces ∧
  s.meter.queue.length ≤ Config.statementPlaces ∧ s.meter.exportCount ≤ Config.exportsPerCycle

theorem FeederId.forall_iff {p : FeederId → Prop} : (∀ f, p f) ↔ p .f0 ∧ p .f1 ∧ p .f2 ∧ p .f3 :=
  ⟨fun h => ⟨h _, h _, h _, h _⟩, fun ⟨h0, h1, h2, h3⟩ f => by cases f <;> assumption⟩

theorem State.canonical_iff (s : State) :
    s.canonical = true ↔ s.tablesCanonical ∧ ∀ f, (s.feeder f).canonical = true := by
  rw [FeederId.forall_iff]
  simp [State.canonical, State.tablesCanonical, State.feeder, PerFeeder.get, and_assoc]

theorem State.bounded_iff (s : State) :
    s.bounded = true ↔ s.classesBounded ∧ ∀ f, (s.feeder f).bounded = true := by
  rw [FeederId.forall_iff]
  simp only [State.bounded, State.classesBounded, State.feeder, PerFeeder.get, Bool.and_eq_true, decide_eq_true_eq]
  tauto

/-- A change outside the feeders: the tables stay canonical, the queues within their places, the minimum grants at 1 or
more. -/
theorem Owned.outside {s t : State} (feeders : t.feeders = s.feeders) (tables : s.tablesCanonical → t.tablesCanonical)
    (classes : s.classesBounded → t.classesBounded)
    (grants : (∀ n, 1 ≤ (s.profile n).minGrant) → ∀ n, 1 ≤ (t.profile n).minGrant) (agent : AgentQuiet s t) :
    Owned s t := by
  have same : ∀ f, t.feeder f = s.feeder f := fun f => by rw [State.feeder, State.feeder, feeders]
  refine ⟨fun a => ?_, fun a => ?_, fun a f => same f ▸ a f, fun a => ⟨grants a.1, fun f => same f ▸ a.2 f⟩, agent⟩
  · rw [State.canonical_iff] at a ⊢
    exact ⟨tables a.1, fun f => same f ▸ a.2 f⟩
  · rw [State.bounded_iff] at a ⊢
    exact ⟨classes a.1, fun f => same f ▸ a.2 f⟩

/-- A change within one feeder after other work, each invariant judged from where the work began. -/
theorem Owned.then_onFeeder {s t : State} (h : Owned s t) {f : FeederId} {k : Feeder → Feeder}
    (canonical : (t.feeder f).canonical = true → (k (t.feeder f)).canonical = true)
    (bounded : s.bounded = true → (t.feeder f).bounded = true → (k (t.feeder f)).bounded = true)
    (equalised : s.equalised → (t.feeder f).equalised → (k (t.feeder f)).equalised)
    (separated : s.separated → (t.feeder f).separated → (k (t.feeder f)).separated) : Owned s (t.onFeeder f k) := by
  have each : ∀ {p : Feeder → Prop}, (p (t.feeder f) → p (k (t.feeder f))) → (∀ g, p (t.feeder g)) →
      ∀ g, p ((t.onFeeder f k).feeder g) := by
    intro p step all g
    rw [State.feeder_onFeeder]
    split
    · exact step (all f)
    · exact all g
  refine ⟨fun a => ?_, fun a => ?_, fun a => each (equalised a) (h.equalised a), fun a => ?_, h.agent⟩
  · have b := (State.canonical_iff t).1 (h.canonical a)
    exact (State.canonical_iff _).2 ⟨b.1, each (p := fun x => x.canonical = true) canonical b.2⟩
  · have b := (State.bounded_iff t).1 (h.bounded a)
    exact (State.bounded_iff _).2 ⟨b.1, each (p := fun x => x.bounded = true) (bounded a) b.2⟩
  · have b := h.separated a
    exact ⟨b.1, each (separated a) b.2⟩

/-- A change within one feeder. -/
theorem Owned.onFeeder {s : State} {f : FeederId} {k : Feeder → Feeder} (h : (s.feeder f).Keeps (k (s.feeder f))) :
    Owned s (s.onFeeder f k) :=
  (Owned.refl s).then_onFeeder h.canonical (fun _ => h.bounded) (fun _ => h.equalised) fun _ => h.separated

theorem Owned.setFeeder {s : State} {f : FeederId} {y : Feeder} (h : (s.feeder f).Keeps y) : Owned s (s.setFeeder f y) :=
  .onFeeder (k := fun _ => y) h

/-- A change of the Usage Meter. -/
theorem Owned.onMeter {s : State} {g : Meter → Meter}
    (accounts : Tbl.wf Account.reset s.meter.accounts = true → Tbl.wf Account.reset (g s.meter).accounts = true)
    (plans : Tbl.wf TariffPlan.reset s.meter.plans = true → Tbl.wf TariffPlan.reset (g s.meter).plans = true)
    (queue : s.meter.queue.length ≤ Config.statementPlaces → (g s.meter).queue.length ≤ Config.statementPlaces)
    (count : s.meter.exportCount ≤ Config.exportsPerCycle → (g s.meter).exportCount ≤ Config.exportsPerCycle) :
    Owned s (s.onMeter g) := by
  refine .outside rfl (fun ⟨h1, h2, h3, h4, h5, h6⟩ => ⟨h1, h2, h3, h4, accounts h5, plans h6⟩)
    (fun ⟨h1, h2, h3, h4, h5, h6, h7, h8⟩ => ⟨h1, h2, h3, h4, h5, h6, queue h7, count h8⟩) id rfl

theorem Owned.onAccount (s : State) (slot : Nat) (g : Account → Account) : Owned s (s.onAccount slot g) :=
  .onMeter (fun h => Tbl.wf_set _ h _ _) id id id

theorem owned_notify (n : Notice) (s : State) : Owned s (notify n s) := by
  unfold notify
  split
  · exact .refl s
  · split
    next room =>
      refine .outside rfl id (fun ⟨h1, h2, h3, h4, h5, _, h7, h8⟩ => ⟨h1, h2, h3, h4, h5, ?_, h7, h8⟩) id rfl
      simpa using Nat.succ_le_of_lt room
    next => exact .outside rfl id id id rfl

theorem owned_arbitrate (s : State) : Owned s (arbitrate s) := by
  unfold arbitrate
  split
  · exact .outside rfl id id id rfl
  · exact .refl s

end Machine

end Sys2Proof
end


section
/-! PROOFS. The Usage Meter, the Uplink Port, line orders, the Light Monitor and the life of a drop keep the invariants. -/

namespace Sys2Proof.Machine

/-! ## Flags, exports and accounts -/

theorem owned_setOverbooked (f : FeederId) (n : CycleNo) (s : State) : Owned s (setOverbooked f n s) := by
  unfold setOverbooked
  split
  · exact .refl s
  · exact .trans (.onFeeder (.of_core rfl)) (owned_notify _ _)

theorem owned_setReplyOverrun (f : FeederId) (s : State) : Owned s (setReplyOverrun f s) := by
  unfold setReplyOverrun
  split
  · exact .refl s
  · exact .trans (.onFeeder (.of_core rfl)) (owned_notify _ _)

theorem owned_clearFlag (s : State) (n : Nat) : Owned s (clearFlag n s) := by
  unfold clearFlag
  split
  · exact .outside rfl id id id rfl
  iterate 8 exact .onFeeder (.of_core rfl)
  · exact .refl s

/-- No more records are handed over than the conditions of R173 let go. -/
theorem owned_exportFirst {k : Nat} {s : State} (h : k ≤ exportNumber s) : Owned s (exportFirst k s) := by
  refine .outside rfl id (fun ⟨h1, h2, h3, h4, h5, h6, h7, h8⟩ => ⟨h1, h2, ?_, h4, h5, h6, ?_, ?_⟩) id rfl
  all_goals
    unfold exportNumber at h
    simp only [exportFirst, State.onUplink_uplink, State.onMeter_uplink, State.onUplink_meter, State.onMeter_meter,
      List.length_append, List.length_take, List.length_drop]
    split at h <;> omega

theorem owned_exportRecords (s : State) : Owned s (exportRecords s) := owned_exportFirst (Nat.le_refl _)

theorem owned_exportAndSend (s : State) : Owned s (exportAndSend s) := by
  obtain ⟨h, -⟩ | ⟨-, h⟩ := exportAndSend_cases s <;> rw [h]
  · exact .refl s
  · exact (owned_exportRecords s).trans (owned_arbitrate _)

theorem owned_exportStatement (s : State) : Owned s (exportStatement s) := by
  unfold exportStatement
  split
  · exact .refl s
  next some => exact (owned_exportFirst (Nat.one_le_iff_ne_zero.2 some)).trans (owned_arbitrate _)

theorem owned_endSending (s : State) : Owned s (s.onUplink Uplink.endSending) := by
  refine .outside rfl id (fun ⟨h1, h2, h3, h4, h5, h6, h7, h8⟩ => ?_) id rfl
  simp only [State.onUplink, State.classesBounded]
  unfold Uplink.endSending
  have shorter : ∀ {α : Type} (l : List α), (l.drop 1).length ≤ l.length := fun l => by simp
  split
  · exact ⟨h1, h2, h3, h4, h5, h6, h7, h8⟩
  · exact ⟨(shorter _).trans h1, h2, h3, h4, h5, h6, h7, h8⟩
  · exact ⟨h1, (shorter _).trans h2, h3, h4, h5, h6, h7, h8⟩
  · exact ⟨h1, h2, (shorter _).trans h3, h4, h5, h6, h7, h8⟩
  · exact ⟨h1, h2, h3, (shorter _).trans h4, h5, h6, h7, h8⟩

theorem owned_transmissionEnds (s : State) : Owned s (transmissionEnds s) := by
  unfold transmissionEnds
  dsimp only
  split
  · exact (owned_endSending s).trans (owned_exportRecords _)
  · exact owned_endSending s

theorem owned_meterFrame (up : Bool) (f : FeederId) (d len : Nat) (s : State) : Owned s (meterFrame up f d len s) := by
  unfold meterFrame
  split
  · exact .onMeter id id id id
  · dsimp only
    split
    · exact (Owned.onAccount s _ _).trans (owned_notify _ _)
    · exact .onAccount s _ _

theorem owned_updateAccounts (s : State) (g : Nat → Account → Account) :
    Owned s (s.onMeter fun m => { m with accounts := m.accounts.update Account.reset g }) :=
  .onMeter (fun h => Tbl.wf_update _ _ h) id id id

theorem owned_unbindAccount (f : FeederId) (d : Nat) (s : State) : Owned s (unbindAccount f d s) := by
  unfold unbindAccount
  split
  · exact .refl s
  · exact .onAccount s _ _

theorem owned_writeAccount (slot : Nat) (r : AccountFields) (s : State) : Owned s (writeAccount slot r s).1 := by
  unfold writeAccount
  split
  · exact .refl s
  · split
    · exact .refl s
    · split
      · dsimp only; exact .onAccount s slot _
      · split
        · exact .refl s
        · dsimp only; exact .onAccount s slot _

theorem owned_topUp (slot points : Nat) (s : State) : Owned s (topUp slot points s).1 := by
  unfold topUp
  split
  · exact .refl s
  · split
    · exact .refl s
    · split
      · exact .refl s
      · dsimp only
        split
        · exact (Owned.onAccount s _ _).trans (owned_notify _ _)
        · dsimp only; exact .onAccount s slot _

theorem owned_suspendAccount (slot : Nat) (s : State) : Owned s (suspendAccount slot s).1 := by
  unfold suspendAccount
  split
  · exact .refl s
  · split
    · exact .refl s
    · split
      · exact .refl s
      · dsimp only; exact .onAccount s slot _

theorem owned_resumeAccount (slot : Nat) (s : State) : Owned s (resumeAccount slot s).1 := by
  unfold resumeAccount
  split
  · exact .refl s
  · split
    · exact .refl s
    · dsimp only; exact .onAccount s slot _

/-! ## Line orders -/

theorem Feeder.Keeps.placeDropOrder (x : Feeder) (d : Nat) : x.Keeps (placeDropOrder x d) := by
  unfold Machine.placeDropOrder
  dsimp only
  split
  next kind held =>
    split
    next room =>
      refine (x.keeps_orderQueue (orders := x.orderQueue ++ [dropOrder kind d (x.drop d)]) fun _ => ?_).trans
        (Feeder.keeps_setDrop_same (x := { x with orderQueue := _ }) (d := d) rfl rfl rfl rfl)
      simpa [Feeder.orderRoom, Nat.succ_le_iff] using room
    next => exact .refl x
  next => exact .refl x

theorem placeDeclines_length (hold : Nat) (l : List ReplyEntry) (q : List LineOrder) :
    (placeDeclines hold l q).1.length = l.length ∧
    (q.length ≤ Config.orderPlaces → (placeDeclines hold l q).2.length ≤ Config.orderPlaces) := by
  induction l generalizing q with
  | nil => exact ⟨rfl, id⟩
  | cons e l ih =>
    unfold placeDeclines
    split
    · split
      next room =>
        obtain ⟨entries, places⟩ := ih (q ++ [declineOrder hold e])
        exact ⟨by simp [entries], fun _ => places (by simpa [Nat.succ_le_iff] using room)⟩
      next =>
        obtain ⟨entries, places⟩ := ih q
        exact ⟨by simp [entries], places⟩
    · obtain ⟨entries, places⟩ := ih q
      exact ⟨by simp [entries], places⟩

theorem Feeder.Keeps.fillOrders (x : Feeder) : x.Keeps x.fillOrders := by
  unfold Feeder.fillOrders
  dsimp only
  generalize hy : dropIndices.foldl Machine.placeDropOrder x = y
  refine (hy ▸ Feeder.Keeps.foldl (fun x d => .placeDropOrder x d) _ x : x.Keeps y).trans ?_
  obtain ⟨entries, places⟩ := placeDeclines_length y.settings.declineHold y.replies y.orderQueue
  refine y.keeps_queues (frames := y.downQueue) (fun h => places (y.bounded_iff.1 h).1)
    (fun h => by rw [entries]; exact (y.bounded_iff.1 h).2.1) (fun h => (y.bounded_iff.1 h).2.2) fun h off => ?_
  rw [← List.length_eq_zero_iff, entries, ((h.2.2 off).2).1]
  rfl

theorem owned_fillOrders (f : FeederId) (s : State) : Owned s (fillOrders f s) := .onFeeder (.fillOrders _)

theorem Owned.onDrop {s : State} {f : FeederId} {d : Nat} {g : DropRecord → DropRecord}
    (empty : (s.drop f d).state = .empty → (g (s.drop f d)).state = .empty)
    (equal : (s.drop f d).equalisedAt (s.feeder f).settings.td → (g (s.drop f d)).equalisedAt (s.feeder f).settings.td) :
    Owned s (s.onDrop f d g) := .onFeeder (Feeder.keeps_setDrop empty fun h => equal (h.1 d))

theorem Owned.onDrop_same {s : State} {f : FeederId} {d : Nat} {g : DropRecord → DropRecord}
    (state : (g (s.drop f d)).state = (s.drop f d).state) (phase : (g (s.drop f d)).phase = (s.drop f d).phase)
    (rtd : (g (s.drop f d)).rtd = (s.drop f d).rtd) (eqd : (g (s.drop f d)).eqd = (s.drop f d).eqd) :
    Owned s (s.onDrop f d g) := .onFeeder (Feeder.keeps_setDrop_same state phase rtd eqd)

theorem owned_createOrder (f : FeederId) (d : Nat) (kind : OrderKind) (s : State) :
    Owned s (createOrder f d kind s) := by
  unfold createOrder
  split
  · exact (Owned.onDrop_same rfl rfl rfl rfl).trans (owned_fillOrders _ _)
  · exact .onDrop_same rfl rfl rfl rfl

theorem Feeder.Keeps.discardPartial (count : UpstreamCounters → UpstreamCounters) (d lane : Nat) (x : Feeder) :
    x.Keeps (discardPartial count d lane x) := by
  unfold Machine.discardPartial
  split
  · exact (x.keeps_setPartial d lane none).trans (.of_core rfl)
  · exact .refl x

theorem owned_leaveShining (f : FeederId) (d : Nat) (s : State) : Owned s (leaveShining f d s) :=
  .onFeeder (.foldl (fun x _ => .discardPartial _ _ _ x) _ _)

theorem owned_resetLanes (f : FeederId) (d : Nat) (s : State) : Owned s (resetLanes f d s) :=
  .onFeeder (.foldl (fun x _ => x.keeps_setLane _ _ _) _ _)

theorem owned_awaitResume (f : FeederId) (d : Nat) (s : State) : Owned s (awaitResume f d s) :=
  .onFeeder (Feeder.keeps_setMark _ _ _)

/-! ## Isolation -/

/-- A record in one of the states of R103 is equalised whatever such state it takes. -/
theorem DropRecord.equalisedAt_of_equalised {r r' : DropRecord} {td : Nat} (state : r.state.equalised = true)
    (rtd : r'.rtd = r.rtd) (eqd : r'.eqd = r.eqd) (h : r.equalisedAt td) : r'.equalisedAt td := fun _ => by
  rw [rtd, eqd]
  exact h (.inl state)

theorem DropState.equalised_of_shining {st : DropState} (h : st.shining = true) : st.equalised = true := by
  cases st <;> first | rfl | cases h

theorem DropState.ne_empty_of_equalised {st : DropState} (h : st.equalised = true) : st ≠ .empty := by
  rintro rfl
  cases h

/-- A record in a state of R103 may take any state: its delays stay. -/
theorem Owned.onDrop_equalised {s : State} {f : FeederId} {d : Nat} {g : DropRecord → DropRecord}
    (state : (s.drop f d).state.equalised = true) (rtd : (g (s.drop f d)).rtd = (s.drop f d).rtd)
    (eqd : (g (s.drop f d)).eqd = (s.drop f d).eqd) : Owned s (s.onDrop f d g) :=
  .onDrop (fun h => absurd h (DropState.ne_empty_of_equalised state))
    (DropRecord.equalisedAt_of_equalised state rtd eqd)

theorem DropRecord.equalised_of_isolated {r : DropRecord} (h : r.isolated = true) : r.state.equalised = true := by
  simp only [DropRecord.isolated, Bool.and_eq_true, decide_eq_true_eq] at h
  rw [h.1]
  rfl

theorem owned_isolationDarken (f : FeederId) (s : State) (d : Nat) : Owned s (isolationDarken f s d) := by
  unfold isolationDarken
  dsimp only
  split
  next shining =>
    exact ((Owned.onDrop_equalised (DropState.equalised_of_shining shining) rfl rfl).trans (owned_leaveShining _ _ _)).trans
      (owned_createOrder _ _ _ _)
  next => exact .refl s

theorem owned_relit {f : FeederId} {s : State} {d : Nat} (h : (s.drop f d).state = .darkened) :
    Owned s (awaitResume f d (createOrder f d .relight (s.onDrop f d DropRecord.relit))) :=
  ((Owned.onDrop_equalised (by rw [h]; rfl) rfl rfl).trans (owned_createOrder _ _ _ _)).trans (owned_awaitResume _ _ _)

theorem DropRecord.darkened_of_isolated {r : DropRecord} (h : r.isolated = true) : r.state = .darkened := by
  simp only [DropRecord.isolated, Bool.and_eq_true, decide_eq_true_eq] at h
  exact h.1

theorem owned_isolationRelight (f : FeederId) (s : State) (d : Nat) : Owned s (isolationRelight f s d) := by
  unfold isolationRelight
  split
  next isolated => exact owned_relit (DropRecord.darkened_of_isolated isolated)
  next => exact .refl s

theorem owned_isolationQuarantine (f : FeederId) (s : State) (d : Nat) : Owned s (isolationQuarantine f s d) := by
  unfold isolationQuarantine
  split
  next isolated =>
    exact (Owned.onDrop_equalised (DropRecord.equalised_of_isolated isolated) rfl rfl).trans (owned_createOrder _ _ _ _)
  next => exact .refl s

theorem owned_onIsolation (f : FeederId) (g : Isolation → Isolation) (s : State) : Owned s (onIsolation f g s) :=
  .onFeeder (.of_core rfl)

theorem owned_finishIsolation (f : FeederId) (e : IsolationEnding) (s : State) : Owned s (finishIsolation f e s) := by
  unfold finishIsolation
  cases e with
  | quarantine => exact .onFeeder (.of_core rfl)
  | unattributed => exact .trans (.onFeeder (.of_core rfl)) (owned_notify _ _)

theorem owned_reachEnd (f : FeederId) (e : IsolationEnding) (s : State) : Owned s (reachEnd f e s) := by
  unfold reachEnd
  split
  · exact owned_finishIsolation _ _ s
  · exact owned_onIsolation _ _ s

theorem owned_beginStep (f : FeederId) (s : State) : Owned s (beginStep f s) := by
  unfold beginStep
  dsimp only
  split
  · exact owned_reachEnd _ _ s
  · exact (owned_onIsolation _ _ s).trans (.foldl (owned_isolationDarken f) _ _)

theorem owned_nextStep (f : FeederId) (s : State) : Owned s (nextStep f s) :=
  (owned_onIsolation _ _ s).trans (owned_beginStep _ _)

theorem owned_beginObservation (f : FeederId) (s : State) : Owned s (beginObservation f s) := by
  unfold beginObservation
  exact owned_onIsolation _ _ s

theorem owned_beginIsolation (f : FeederId) (kind : IsolationKind) (suspects : List Nat) (s : State) :
    Owned s (beginIsolation f kind suspects s) := .trans (.onFeeder (.of_core rfl)) (owned_beginStep _ _)

theorem owned_autoIsolate (f : FeederId) (s : State) : Owned s (autoIsolate f s) := by
  unfold autoIsolate
  dsimp only
  split
  · exact owned_beginIsolation _ _ _ s
  · exact .refl s

theorem owned_endObservation (f : FeederId) (s : State) : Owned s (endObservation f s) := by
  unfold endObservation
  extract_lets i suspects relit t
  have reached : Owned s t := (owned_onIsolation _ _ s).trans (.foldl (owned_isolationRelight f) _ _)
  split
  · exact reached.trans (owned_nextStep _ _)
  · exact reached

theorem owned_endConfirm (f : FeederId) (s : State) : Owned s (endConfirm f s) := by
  unfold endConfirm
  dsimp only
  split
  · exact .refl s
  · split
    · exact (owned_isolationRelight _ s _).trans (owned_reachEnd _ _ _)
    · exact (((owned_onIsolation _ _ s).trans (owned_isolationQuarantine _ _ _)).trans (.onFeeder (.of_core rfl))).trans
        (owned_notify _ _)

theorem owned_observeCycle (f : FeederId) (n : CycleNo) (bore : Bool) (s : State) : Owned s (observeCycle f n bore s) := by
  unfold observeCycle
  dsimp only
  split
  · refine (owned_onIsolation f (fun i => { i with faultSeen := i.faultSeen || bore }) s).trans ?_
    split
    · split
      · exact owned_endConfirm _ _
      · exact owned_endObservation _ _
    · exact .refl _
  · exact .refl s

theorem owned_isolationReport (f : FeederId) (d : Nat) (kind : OrderKind) (m : CycleNo) (s : State) :
    Owned s (isolationReport f d kind m s) := by
  unfold isolationReport
  extract_lets i rest
  split
  · exact .refl s
  · split
    · refine (owned_onIsolation f (fun i => { i with awaited := rest, lastDarken := m }) s).trans ?_
      split
      · exact owned_beginObservation _ _
      · exact .refl _
    · refine (owned_onIsolation f (fun i => { i with awaited := rest }) s).trans ?_
      split
      · exact owned_nextStep _ _
      · exact .refl _
    · exact owned_onIsolation _ _ s
    · exact (owned_onIsolation _ _ s).trans (owned_reachEnd _ _ _)
    · exact .refl s

theorem owned_afterDeparture (f : FeederId) (s : State) : Owned s (afterDeparture f s) := by
  unfold afterDeparture
  dsimp only
  split
  · exact owned_reachEnd _ _ s
  · split
    · split
      · exact owned_nextStep _ s
      · split
        · exact owned_beginObservation _ s
        · exact .refl s
    · split
      · exact owned_nextStep _ s
      · exact .refl s
    · split
      · exact owned_nextStep _ s
      · exact .refl s
    · exact .refl s

theorem owned_departure (f : FeederId) (d : Nat) (dark gone : Bool) (s : State) : Owned s (departure f d dark gone s) := by
  obtain same | ⟨g, y, rfl, -, h⟩ := departure_cases (f := f) (d := d) dark gone s
  · rw [same]
    exact .refl s
  · refine (owned_onIsolation f g s).trans ?_
    obtain h | ⟨e, h⟩ | h := h <;> rw [h]
    · exact .refl _
    · exact owned_finishIsolation _ _ _
    · exact owned_afterDeparture _ _

theorem owned_scoreStrikes (f : FeederId) (d strikes : Nat) (s : State) : Owned s (scoreStrikes f d strikes s) := by
  unfold scoreStrikes
  extract_lets x r count t t'
  have scored : Owned s t := .onDrop_same rfl rfl rfl rfl
  split
  · exact .refl s
  · split
    · have counted : Owned s t' := scored.trans (.onFeeder (.of_core rfl))
      split
      · exact counted.trans (owned_beginIsolation _ _ _ _)
      · exact counted.trans (owned_notify _ _)
    · exact scored

theorem owned_takeGarble (f : FeederId) (d : Nat) (s : State) : Owned s (takeGarble f d s) :=
  .trans (.onFeeder (.of_core rfl)) (owned_scoreStrikes _ _ _ _)

theorem owned_takeMislabel (f : FeederId) (named : Nat) (s : State) : Owned s (takeMislabel f named s) := by
  unfold takeMislabel
  extract_lets t
  have counted : Owned s t := .onFeeder (.of_core rfl)
  split
  · exact counted.trans (owned_scoreStrikes _ _ _ _)
  · exact counted

theorem owned_strikeDecay (f : FeederId) (s : State) : Owned s (strikeDecay f s) := by
  refine .onFeeder ?_
  split
  · refine (Feeder.keeps_updateDrops (g := fun _ r => r.decayed) (fun _ => rfl) fun _ r => ?_).trans (.of_core rfl)
    unfold DropRecord.decayed
    split <;> exact ⟨rfl, rfl, rfl, rfl⟩
  · exact .refl _

theorem owned_countDecay (f : FeederId) (s : State) : Owned s (countDecay f s) := by
  refine .onFeeder ?_
  split
  · exact .refl _
  · split <;> exact .of_core rfl

theorem owned_updateRogue (f : FeederId) (n : CycleNo) (bore : Bool) (s : State) : Owned s (updateRogue f n bore s) := by
  have told : ∀ {k : Feeder → Feeder} (note : Notice), (k (s.feeder f)).core = (s.feeder f).core →
      Owned s (notify note (s.onFeeder f k)) := fun note same =>
    .trans (.onFeeder (.of_core same)) (owned_notify note _)
  unfold updateRogue
  extract_lets x recent state quiet recent'
  split
  · split
    · exact told _ rfl
    · exact .onFeeder (.of_core rfl)
  · split
    · exact .onFeeder (.of_core rfl)
    · split
      · exact told _ rfl
      · exact .onFeeder (.of_core rfl)

theorem owned_isolateDecided (feeder : Nat) (index : Option Nat) (s : State) :
    Owned s (isolateDecided feeder index s).1 := by
  unfold isolateDecided
  split
  · exact .refl s
  · dsimp only
    split
    · exact .refl s
    · split
      · exact .refl s
      · split
        · exact .refl s
        · split
          · split
            · exact owned_beginIsolation _ _ _ s
            · exact .refl s
          · exact owned_beginIsolation _ _ _ s

/-! ## The life of a drop -/

/-- A record that is not EMPTY may enter LEAVING. -/
theorem owned_enterLeaving {f : FeederId} {d : Nat} {s : State} (reason : RemoveReason) (h : (s.drop f d).state ≠ .empty) :
    Owned s (enterLeaving f d reason s) := by
  unfold enterLeaving
  extract_lets r t t' t''
  have left : Owned s t := .onDrop (fun e => absurd e h) fun _ => by simp [DropRecord.equalisedAt, DropState.equalised]
  have ordered : Owned s t' := left.trans (owned_createOrder _ _ _ _)
  refine Owned.trans (t := t'') ?_ (owned_departure _ _ _ _ _)
  unfold t''
  split
  · exact ordered.trans (owned_leaveShining _ _ _)
  · exact ordered

theorem DropRecord.equalisedAt_empty (td : Nat) : DropRecord.empty.equalisedAt td := by
  simp [DropRecord.equalisedAt, DropState.equalised, DropRecord.empty]

theorem owned_freeRecord (f : FeederId) (d : Nat) (reason : RemoveReason) (s : State) :
    Owned s (freeRecord f d reason s) := by
  unfold freeRecord
  extract_lets r t t' t''
  have cleared : Owned s t := (owned_unbindAccount _ _ s).trans (owned_resetLanes _ _ _)
  have discarded : Owned s t' := by
    unfold t'
    split
    · exact cleared.trans (owned_leaveShining _ _ _)
    · exact cleared
  have freed : Owned s t'' := discarded.trans (.onFeeder
    ((Feeder.keeps_setDrop (fun _ => rfl) fun _ => DropRecord.equalisedAt_empty _).trans (Feeder.keeps_setMark _ _ _)))
  exact (freed.trans (owned_departure _ _ _ _ _)).trans (owned_notify _ _)

theorem owned_leavingTest (f : FeederId) (s : State) (d : Nat) : Owned s (leavingTest f s d) := by
  unfold leavingTest
  split
  · exact owned_freeRecord _ _ _ s
  · exact .refl s

theorem owned_leavingTests (f : FeederId) (s : State) : Owned s (leavingTests f s) := .foldl (owned_leavingTest f) _ s

theorem DropRecord.countIdle_same (limit : Nat) (r : DropRecord) : (r.countIdle limit).state = r.state ∧
    (r.countIdle limit).phase = r.phase ∧ (r.countIdle limit).rtd = r.rtd ∧ (r.countIdle limit).eqd = r.eqd := by
  unfold DropRecord.countIdle
  split <;> exact ⟨rfl, rfl, rfl, rfl⟩

theorem owned_countIdle (f : FeederId) (s : State) : Owned s (countIdle f s) := by
  refine .onFeeder ?_
  split
  · exact Feeder.keeps_updateDrops (fun _ => rfl) fun _ r => r.countIdle_same _
  · exact .refl _

theorem owned_dozeTest (f : FeederId) (s : State) (d : Nat) : Owned s (dozeTest f s d) := by
  unfold dozeTest
  dsimp only
  split
  · exact .refl s
  · split
    next doze => exact .onDrop_equalised (by rw [doze.2.1]; rfl) rfl rfl
    next => exact .onDrop_same rfl rfl rfl rfl

theorem owned_dozeTests (f : FeederId) (s : State) : Owned s (dozeTests f s) := .foldl (owned_dozeTest f) _ s

theorem owned_correctDrift {f : FeederId} {d : Nat} (offset : Int) {s : State} (h : (s.drop f d).state ≠ .empty) :
    Owned s (correctDrift f d offset s) := by
  unfold correctDrift
  split
  · exact .refl s
  · dsimp only
    split
    · exact owned_enterLeaving _ h
    · split
      · exact (Owned.onDrop (fun e => absurd e h) fun _ _ => by simp [DropRecord.ordered]).trans (owned_createOrder _ _ _ _)
      · refine (Owned.onDrop (fun e => absurd e h) fun _ _ => ?_).trans (owned_createOrder _ _ _ _)
        simp only [DropRecord.ordered]
        omega

theorem owned_rouseFailed {f : FeederId} {d : Nat} (uncounted : Bool) {s : State} (h : (s.drop f d).state ≠ .empty) :
    Owned s (rouseFailed f d uncounted s) := by
  unfold rouseFailed
  split
  · exact .onDrop_same rfl rfl rfl rfl
  · split
    · exact owned_enterLeaving _ h
    · exact .refl s

theorem owned_burstFailed {f : FeederId} (n : CycleNo) {d : Nat} (missing stale : Bool) {s : State}
    (h : (s.drop f d).state.shining = true) : Owned s (burstFailed f n d missing stale s) := by
  have equal := DropState.equalised_of_shining h
  unfold burstFailed
  dsimp only
  split
  · split
    · exact owned_rouseFailed _ (DropState.ne_empty_of_equalised equal)
    · exact .refl s
  · split
    · refine .onDrop_equalised equal ?_ ?_ <;> (unfold DropRecord.missed; split <;> rfl)
    · exact .refl s

theorem owned_burstExcused (f : FeederId) (n : CycleNo) (d : Nat) (flag : Option BurstFlag) (s : State) :
    Owned s (burstExcused f n d flag s) := by
  unfold burstExcused
  dsimp only
  split
  · exact .onDrop_same rfl rfl rfl rfl
  · exact .refl s

theorem DropRecord.seen_same (r : DropRecord) (n : CycleNo) : (r.seen n).state = r.state ∧ (r.seen n).phase = r.phase ∧
    (r.seen n).rtd = r.rtd ∧ (r.seen n).eqd = r.eqd := by
  unfold DropRecord.seen
  split <;> exact ⟨rfl, rfl, rfl, rfl⟩

/-- Only a shining record is moved by a burst that is heard. -/
theorem DropRecord.heard_cases (r : DropRecord) (busy : Bool) :
    (r.heard busy).rtd = r.rtd ∧ (r.heard busy).eqd = r.eqd ∧ (r.state.shining = true ∨ r.heard busy = r) := by
  unfold DropRecord.heard
  split
  · next h => exact ⟨rfl, rfl, .inl (by rw [h]; rfl)⟩
  · next h => split <;> exact ⟨rfl, rfl, .inl (by rw [h]; rfl)⟩
  · next h => exact ⟨rfl, rfl, .inl (by rw [h]; rfl)⟩
  · exact ⟨rfl, rfl, .inr rfl⟩

theorem owned_heard (f : FeederId) (d : Nat) (busy : Bool) (s : State) :
    Owned s (s.onDrop f d fun r => r.heard busy) := by
  obtain ⟨rtd, eqd, shining | same⟩ := (s.drop f d).heard_cases busy
  · exact .onDrop_equalised (DropState.equalised_of_shining shining) rtd eqd
  · exact .onDrop_same (by rw [same]) (by rw [same]) rtd eqd

theorem owned_burstTaken (f : FeederId) (n : CycleNo) (d w : Nat) (res : Resolution) (reading : Option Reading)
    (s : State) : Owned s (burstTaken f n d w res reading s) := by
  unfold burstTaken
  split
  · exact .refl s
  next dim =>
    extract_lets stale t
    have shining : (s.drop f d).state.shining = true := by simpa using dim
    obtain ⟨state, phase, rtd, eqd⟩ := (s.drop f d).seen_same n
    have seen : Owned s t := .onDrop_same state phase rtd eqd
    have still : (t.drop f d).state.shining = true := by
      rw [State.drop_onDrop_self, state]
      exact shining
    have failed : ∀ missing, Owned s (burstFailed f n d missing stale t) := fun missing =>
      seen.trans (owned_burstFailed n missing stale still)
    split
    · extract_lets t'
      refine Owned.trans (t := t') ?_ (owned_heard _ _ _ _)
      unfold t'
      split
      · exact seen
      · exact seen.trans
          (owned_correctDrift _ (DropState.ne_empty_of_equalised (DropState.equalised_of_shining still)))
    · exact failed _
    · exact failed _
    · exact failed _
    · exact seen

theorem owned_rangeReceived {f : FeederId} {d : Nat} (w : RangingWindow) (b : Int) {s : State}
    (h : (s.drop f d).state ≠ .empty) : Owned s (rangeReceived f d w b s) := by
  unfold rangeReceived
  dsimp only
  split
  · exact owned_enterLeaving _ h
  · refine (Owned.onDrop (fun e => absurd e h) fun _ _ => ?_).trans (owned_createOrder _ _ _ _)
    simp only [DropRecord.ordered]
    omega

theorem owned_rangeFailed {f : FeederId} {d : Nat} {s : State} (h : (s.drop f d).state ≠ .empty) :
    Owned s (rangeFailed f d s) := by
  unfold rangeFailed
  split
  · exact .refl s
  · extract_lets t
    have tried : Owned s t := .onDrop_same rfl rfl rfl rfl
    split
    · exact tried.trans (owned_enterLeaving _ (by unfold t; rw [State.drop_onDrop_self]; exact h))
    · exact tried

theorem owned_rangingTaken (f : FeederId) (d : Nat) (res : Resolution) (reading : Option Reading) (s : State) :
    Owned s (rangingTaken f d res reading s) := by
  unfold rangingTaken
  extract_lets r t
  split
  · exact .refl s
  next other =>
    have ended : Owned s t := .onDrop_same rfl rfl rfl rfl
    have held : (t.drop f d).state ≠ .empty := by
      have ranging : r.state = .ranging := not_not.1 other
      unfold t
      rw [State.drop_onDrop_self]
      change r.state ≠ _
      rw [ranging]
      decide
    split
    · exact ended.trans (owned_rangeReceived _ _ held)
    · exact ended.trans (owned_rangeFailed held)
    · exact ended.trans (owned_rangeFailed held)
    · exact ended.trans (owned_rangeFailed held)
    · exact ended

theorem owned_markTransmitted (f : FeederId) (d : Nat) (m : CycleNo) (s : State) : Owned s (markTransmitted f d m s) := by
  refine .onFeeder ?_
  split
  · exact Feeder.keeps_setMark _ _ _
  · exact .refl _

theorem owned_equaliseReported (f : FeederId) (d : Nat) (m : CycleNo) (s : State) :
    Owned s (equaliseReported f d m s) := by
  unfold equaliseReported
  extract_lets t r
  have noted : Owned s t := by
    refine .onDrop_same ?_ ?_ ?_ ?_ <;> split <;> rfl
  split
  next last =>
    refine (noted.trans (.onDrop (fun e => ?_) fun h _ => h (.inr last))).trans (owned_notify _ _)
    rw [show (t.drop f d).state = _ from last.1] at e
    cases e
  next => exact noted

theorem owned_reportHandedOn (f : FeederId) (d : Nat) (kind : OrderKind) (m : CycleNo) (s : State) :
    Owned s (reportHandedOn f d kind m s) := by
  unfold reportHandedOn
  split
  · refine .onDrop (fun e => ?_) fun h => ?_
    · split <;> exact e
    · split
      next => simp [DropRecord.equalisedAt, DropState.equalised, *]
      next => exact h
  · exact owned_equaliseReported _ _ _ _
  · split
    · exact owned_isolationReport _ _ _ _ _
    · exact .refl s
  · exact owned_isolationReport _ _ _ _ _
  · exact (owned_markTransmitted _ _ _ _).trans (owned_isolationReport _ _ _ _ _)
  · exact (owned_markTransmitted _ _ _ _).trans (owned_isolationReport _ _ _ _ _)
  · exact owned_leavingTest _ _ _
  · exact .refl s

theorem owned_orderReport (f : FeederId) (m : CycleNo) (s : State) (o : LineOrder) : Owned s (orderReport f m s o) := by
  unfold orderReport
  split
  · dsimp only
    split
    · exact .refl s
    · exact (Owned.onDrop_same rfl rfl rfl rfl).trans ((owned_fillOrders _ _).trans (owned_reportHandedOn _ _ _ _ _))
  · exact .onFeeder (Feeder.Keeps.replies_filter _ _)

theorem owned_removeDecided (feeder index : Nat) (s : State) : Owned s (removeDecided feeder index s).1 := by
  unfold removeDecided
  split
  · exact .refl s
  · dsimp only
    split
    · exact .refl s
    next held =>
      split
      · exact .refl s
      · exact owned_enterLeaving _ (not_or.1 held).1

theorem owned_darkenDecided (feeder index : Nat) (s : State) : Owned s (darkenDecided feeder index s).1 := by
  unfold darkenDecided
  split
  · exact .refl s
  · dsimp only
    split
    · exact .refl s
    next dim =>
      split
      · exact .refl s
      · split
        · exact .refl s
        · exact ((Owned.onDrop_equalised (DropState.equalised_of_shining (by simpa using dim)) rfl rfl).trans
            (owned_createOrder _ _ _ _)).trans (owned_leaveShining _ _ _)

theorem owned_relightDecided (feeder index : Nat) (s : State) : Owned s (relightDecided feeder index s).1 := by
  unfold relightDecided
  split
  · exact .refl s
  · dsimp only
    split
    · exact .refl s
    next dark =>
      split
      · exact .refl s
      · split
        · exact .refl s
        · exact owned_relit (not_not.1 (not_or.1 dark).1)

theorem owned_releaseDecided (feeder index : Nat) (s : State) : Owned s (releaseDecided feeder index s).1 := by
  unfold releaseDecided
  split
  · exact .refl s
  · dsimp only
    split
    · exact .refl s
    next held =>
      split
      · exact .refl s
      · exact ((Owned.onDrop_equalised (by rw [not_not.1 held]; rfl) rfl rfl).trans (owned_createOrder _ _ _ _)).trans
          (owned_awaitResume _ _ _)

end Sys2Proof.Machine
end


section
/-! PROOFS. What the Light Monitor's work and the freeing of a record leave alone: one walk through the operations of an
isolation for every relation that their small changes keep. -/

namespace Sys2Proof.Machine

/-- A relation between states that each small change of an isolation's work on feeder `f` keeps. -/
structure MonitorClosed (f : FeederId) (R : State → State → Prop) : Prop where
  refl : ∀ s, R s s
  trans : ∀ {s t u}, R s t → R t u → R s u
  notify : ∀ n s, R s (notify n s)
  record : ∀ s d g, R s (s.onDrop f d g)
  fill : ∀ s, R s (fillOrders f s)
  discard : ∀ s d count, R s (s.onFeeder f fun x => laneNumbers.foldl (fun x l => discardPartial count d l x) x)
  mark : ∀ s d m, R s (s.onFeeder f fun x => x.setMark d m)
  light : ∀ s (rogue : Feeder → RogueState) (recent : Feeder → List CycleNo) (quiet : Feeder → Nat)
    (isolation : Feeder → Isolation) (count : Feeder → LightCounters), R s (s.onFeeder f fun x =>
    { x with rogue := rogue x, recent := recent x, quiet := quiet x, isolation := isolation x, lightCount := count x })

namespace MonitorClosed

variable {f : FeederId} {R : State → State → Prop} (h : MonitorClosed f R)
include h

theorem foldl {α : Type} {g : State → α → State} (hg : ∀ s a, R s (g s a)) (l : List α) (s : State) :
    R s (l.foldl g s) := by
  induction l generalizing s with
  | nil => exact h.refl s
  | cons a l ih => exact h.trans (hg s a) (ih (g s a))

theorem createOrder (d : Nat) (kind : OrderKind) (s : State) : R s (createOrder f d kind s) := by
  unfold Machine.createOrder
  split
  · exact h.trans (h.record _ _ _) (h.fill _)
  · exact h.record _ _ _

theorem leaveShining (d : Nat) (s : State) : R s (leaveShining f d s) := h.discard s d _

theorem awaitResume (d : Nat) (s : State) : R s (awaitResume f d s) := h.mark s d _

theorem onIsolation (g : Isolation → Isolation) (s : State) : R s (onIsolation f g s) :=
  h.light s Feeder.rogue Feeder.recent Feeder.quiet (fun x => g x.isolation) Feeder.lightCount

theorem isolationDarken (s : State) (d : Nat) : R s (isolationDarken f s d) := by
  unfold Machine.isolationDarken
  dsimp only
  split
  · exact h.trans (h.trans (h.record _ _ _) (h.leaveShining _ _)) (h.createOrder _ _ _)
  · exact h.refl s

theorem isolationRelight (s : State) (d : Nat) : R s (isolationRelight f s d) := by
  unfold Machine.isolationRelight
  split
  · exact h.trans (h.trans (h.record _ _ _) (h.createOrder _ _ _)) (h.awaitResume _ _)
  · exact h.refl s

theorem isolationQuarantine (s : State) (d : Nat) : R s (isolationQuarantine f s d) := by
  unfold Machine.isolationQuarantine
  split
  · exact h.trans (h.record _ _ _) (h.createOrder _ _ _)
  · exact h.refl s

theorem finishIsolation (e : IsolationEnding) (s : State) : R s (finishIsolation f e s) := by
  unfold Machine.finishIsolation
  cases e with
  | quarantine => exact h.light s (fun _ => .clear) (fun _ => []) (fun _ => 0) (fun _ => Isolation.none) Feeder.lightCount
  | unattributed =>
    exact h.trans (h.light s (fun _ => .unattributed) (fun _ => []) (fun _ => 0) (fun _ => Isolation.none)
      fun x => { x.lightCount with unattributed := x.lightCount.unattributed + 1 }) (h.notify _ _)

theorem reachEnd (e : IsolationEnding) (s : State) : R s (reachEnd f e s) := by
  unfold Machine.reachEnd
  split
  · exact h.finishIsolation _ s
  · exact h.onIsolation _ s

theorem beginStep (s : State) : R s (beginStep f s) := by
  unfold Machine.beginStep
  dsimp only
  split
  · exact h.reachEnd _ s
  · exact h.trans (h.onIsolation _ s) (h.foldl h.isolationDarken _ _)

theorem nextStep (s : State) : R s (nextStep f s) := h.trans (h.onIsolation _ s) (h.beginStep _)

theorem beginObservation (s : State) : R s (beginObservation f s) := by
  unfold Machine.beginObservation
  exact h.onIsolation _ s

theorem beginIsolation (kind : IsolationKind) (suspects : List Nat) (s : State) : R s (beginIsolation f kind suspects s) :=
  h.trans (h.light s (fun _ => .isolating) Feeder.recent Feeder.quiet
    (fun _ => { Isolation.none with kind := some kind, suspects := suspects, step := 1 })
    fun x => { x.lightCount with isolations := x.lightCount.isolations + 1 }) (h.beginStep _)

theorem afterDeparture (s : State) : R s (afterDeparture f s) := by
  unfold Machine.afterDeparture
  dsimp only
  split
  · exact h.reachEnd _ s
  · split
    · split
      · exact h.nextStep s
      · split
        · exact h.beginObservation s
        · exact h.refl s
    · split
      · exact h.nextStep s
      · exact h.refl s
    · split
      · exact h.nextStep s
      · exact h.refl s
    · exact h.refl s

theorem departure (d : Nat) (dark gone : Bool) (s : State) : R s (departure f d dark gone s) := by
  obtain same | ⟨g, y, rfl, -, e⟩ := departure_cases (f := f) (d := d) dark gone s
  · rw [same]
    exact h.refl s
  · refine h.trans (h.onIsolation g s) ?_
    obtain e | ⟨e', e⟩ | e := e <;> rw [e]
    · exact h.refl _
    · exact h.finishIsolation _ _
    · exact h.afterDeparture _

end MonitorClosed

/-- What a feeder holds beside records, lanes, queues of orders and replies, marks, the rogue state and reassembly. -/
def Feeder.aside (x : Feeder) :=
  (x.running, x.settings, x.sweep, x.discoveries, x.replyOverrun, x.enrolCount, x.sending, x.restartDue, x.pointer,
    x.overbooked, x.ring, x.reader, x.receptionCount, x.detector, x.stuck, x.decay, x.decayDue, x.downQueue, x.staging,
    x.downCount)

/-- What the part holds beside the feeders, the Usage Meter and the agent. -/
def State.aside (s : State) :=
  (s.resetHeld, s.cycle, s.serial, s.profiles, s.admission, s.tagMap, s.flows, s.uplink, s.pending)

/-- A reply entry but for where its DECLINE stands. -/
def ReplyEntry.undecided (e : ReplyEntry) : ReplyEntry := { e with decline := e.decline.map fun r => (r.1, .held) }

/-- From `s` to `t` only feeder `f`, the accounts and the notices move, and the feeder's line stays as it is. -/
structure LineKept (f : FeederId) (s t : State) : Prop where
  own : (t.feeder f).aside = (s.feeder f).aside
  replies : (t.feeder f).replies.map ReplyEntry.undecided = (s.feeder f).replies.map ReplyEntry.undecided
  others : ∀ g, g ≠ f → t.feeder g = s.feeder g
  part : t.aside = s.aside
  agent : AgentQuiet s t

theorem LineKept.refl (f : FeederId) (s : State) : LineKept f s s := ⟨rfl, rfl, fun _ _ => rfl, rfl, rfl⟩

theorem LineKept.trans {f : FeederId} {s t u : State} (h : LineKept f s t) (k : LineKept f t u) : LineKept f s u :=
  ⟨k.own.trans h.own, k.replies.trans h.replies, fun g hg => (k.others g hg).trans (h.others g hg), k.part.trans h.part,
    h.agent.trans k.agent⟩

theorem LineKept.onFeeder {f : FeederId} {s : State} {k : Feeder → Feeder} (own : (k (s.feeder f)).aside = (s.feeder f).aside)
    (replies : (k (s.feeder f)).replies.map ReplyEntry.undecided = (s.feeder f).replies.map ReplyEntry.undecided) :
    LineKept f s (s.onFeeder f k) :=
  ⟨by rwa [State.feeder_onFeeder_self], by rwa [State.feeder_onFeeder_self], fun _ hg => State.feeder_onFeeder_ne _ _ _ _ hg,
    rfl, rfl⟩

theorem placeDeclines_undecided (hold : Nat) (l : List ReplyEntry) (q : List LineOrder) :
    (placeDeclines hold l q).1.map ReplyEntry.undecided = l.map ReplyEntry.undecided := by
  induction l generalizing q with
  | nil => rfl
  | cons e l ih =>
    unfold placeDeclines
    split
    next reason pending =>
      split
      · simp [ih, ReplyEntry.undecided, pending]
      · simp [ih]
    next => simp [ih]

theorem Feeder.fillOrders_replies (x : Feeder) :
    x.fillOrders.replies.map ReplyEntry.undecided = x.replies.map ReplyEntry.undecided := by
  obtain ⟨y, hy, frame, -⟩ := foldl_placeDropOrder_spec dropIndices x
  unfold Feeder.fillOrders
  dsimp only
  rw [placeDeclines_undecided, hy, frame]

theorem Feeder.fillOrders_aside (x : Feeder) : x.fillOrders.aside = x.aside := by
  obtain ⟨y, hy, frame, -⟩ := foldl_placeDropOrder_spec dropIndices x
  have same : y.aside = x.aside := by rw [frame]; rfl
  unfold Feeder.fillOrders
  dsimp only
  rw [hy]
  exact same

theorem lineKept_notify (f : FeederId) (n : Notice) (s : State) : LineKept f s (notify n s) := by
  unfold notify
  split
  · exact .refl f s
  · split <;> exact ⟨rfl, rfl, fun _ _ => rfl, rfl, rfl⟩

theorem Feeder.discardPartials_frame (count : UpstreamCounters → UpstreamCounters) (d : Nat) (lanes : List Nat) (x : Feeder) :
    ∃ slots counts, lanes.foldl (fun x l => discardPartial count d l x) x =
      { x with reassembly := slots, upCount := counts } := by
  induction lanes generalizing x with
  | nil => exact ⟨_, _, rfl⟩
  | cons l lanes ih =>
    obtain ⟨slots, counts, h⟩ := ih (discardPartial count d l x)
    obtain ⟨-, e⟩ | ⟨-, e⟩ := discardPartial_cases count d l x <;> rw [List.foldl_cons, h, e] <;> exact ⟨_, _, rfl⟩

theorem Feeder.resetLanes_frame (d : Nat) (lanes : List Nat) (x : Feeder) :
    ∃ table, lanes.foldl (fun x l => x.setLane d l LaneRecord.zero) x = { x with lanes := table } := by
  induction lanes generalizing x with
  | nil => exact ⟨_, rfl⟩
  | cons l lanes ih =>
    obtain ⟨table, h⟩ := ih (x.setLane d l LaneRecord.zero)
    exact ⟨table, h⟩

theorem lineKept_closed (f : FeederId) : MonitorClosed f (LineKept f) where
  refl := .refl f
  trans := .trans
  notify := lineKept_notify f
  record _ _ _ := .onFeeder rfl rfl
  fill s := .onFeeder (Feeder.fillOrders_aside _) (Feeder.fillOrders_replies _)
  discard s d count := by
    obtain ⟨slots, counts, h⟩ := Feeder.discardPartials_frame count d laneNumbers (s.feeder f)
    exact .onFeeder (by rw [h]; rfl) (by rw [h])
  mark _ _ _ := .onFeeder rfl rfl
  light _ _ _ _ _ _ := .onFeeder rfl rfl

theorem lineKept_unbindAccount (f : FeederId) (d : Nat) (s : State) : LineKept f s (unbindAccount f d s) := by
  unfold unbindAccount
  split
  · exact .refl f s
  · exact ⟨rfl, rfl, fun _ _ => rfl, rfl, rfl⟩

theorem lineKept_resetLanes (f : FeederId) (d : Nat) (s : State) : LineKept f s (resetLanes f d s) := by
  obtain ⟨table, h⟩ := Feeder.resetLanes_frame d laneNumbers (s.feeder f)
  exact .onFeeder (by rw [h]; rfl) (by rw [h])

theorem lineKept_freeRecord (f : FeederId) (d : Nat) (reason : RemoveReason) (s : State) :
    LineKept f s (freeRecord f d reason s) := by
  have closed := lineKept_closed f
  unfold freeRecord
  extract_lets r t t' t''
  have cleared : LineKept f s t := (lineKept_unbindAccount f d s).trans (lineKept_resetLanes f d _)
  have discarded : LineKept f s t' := by
    unfold t'
    split
    · exact cleared.trans (closed.leaveShining _ _)
    · exact cleared
  have freed : LineKept f s t'' := discarded.trans (.onFeeder rfl rfl)
  exact (freed.trans (closed.departure _ _ _ _)).trans (lineKept_notify f _ _)

theorem LineKept.replies_length {f : FeederId} {s t : State} (h : LineKept f s t) :
    (t.feeder f).replies.length = (s.feeder f).replies.length := by
  simpa using congrArg List.length h.replies

theorem LineKept.running {f : FeederId} {s t : State} (h : LineKept f s t) :
    (t.feeder f).running = (s.feeder f).running := congrArg Prod.fst h.own

theorem LineKept.settings {f : FeederId} {s t : State} (h : LineKept f s t) :
    (t.feeder f).settings = (s.feeder f).settings := congrArg (fun p => p.2.1) h.own

end Sys2Proof.Machine
end


section
/-! PROOFS. The light detector, the ring, enrolment, the tariff clock, reassembly, the reader and the framer keep the
invariants. -/

namespace Sys2Proof.Machine

/-! ## The detector and the ring -/

theorem Feeder.keeps_detector {x : Feeder} {t : Detector} (h : x.equalised → x.running = false → t.inCycle = false) :
    x.Keeps { x with detector := t } where
  canonical a := a
  bounded a := a
  separated a := a
  equalised a := by
    obtain ⟨records, outside, stopped⟩ := id a
    refine ⟨records, outside, fun off => ?_⟩
    obtain ⟨h1, h2, h3, h4, -⟩ := stopped off
    exact ⟨h1, h2, h3, h4, h a off⟩

theorem Feeder.keeps_reader {x : Feeder} {r : Reader} (h : x.equalised → x.running = false → r = .idle) :
    x.Keeps { x with reader := r } where
  canonical a := a
  bounded a := a
  separated a := a
  equalised a := by
    obtain ⟨records, outside, stopped⟩ := id a
    refine ⟨records, outside, fun off => ?_⟩
    obtain ⟨h1, h2, h3, -, h5⟩ := stopped off
    exact ⟨h1, h2, h3, h a off, h5⟩

theorem Feeder.Keeps.feedLight (x : Feeder) (words : Nat) : x.Keeps (x.feedLight words) := by
  have moved : ∀ t : Detector, t.inCycle = x.detector.inCycle → x.Keeps { x with detector := t } := fun t ht =>
    .of_core (by simp only [Feeder.core, ht])
  unfold Feeder.feedLight
  extract_lets t w raw start before measured y z
  split
  · exact .refl x
  · split
    · exact (moved { t with raw := raw, pos := t.pos + w, measured := t.measured + w } rfl).trans
        (Feeder.keeps_onLight _ _ _)
    · split
      · refine .trans (y := y) (moved _ rfl) (.trans (y := z) ?_ (Feeder.keeps_onLight _ _ _))
        unfold z
        split
        · exact .refl y
        · exact Feeder.keeps_onLight _ _ _
      · exact moved _ rfl

theorem Feeder.Keeps.feedDark (x : Feeder) (words : Nat) : x.Keeps (x.feedDark words) := by
  unfold Feeder.feedDark
  extract_lets t w dark
  split
  · exact .refl x
  · exact .of_core rfl

theorem markStuck_entries {onset present : CycleNo} {o : Option Slot} {sl : Slot} (h : markStuck onset present o = some sl) :
    ∃ sl', o = some sl' ∧ sl.windows.map Window.entry = sl'.windows.map Window.entry := by
  obtain ⟨sl', rfl, e⟩ := Option.map_eq_some_iff.1 h
  refine ⟨sl', rfl, ?_⟩
  rw [← e]
  split <;> rfl

theorem Feeder.keeps_markRing (x : Feeder) (onset present : CycleNo) :
    x.Keeps { x with ring := markRing onset present x.ring } := by
  refine keeps_ring (fun _ empty => by rw [empty]; rfl) fun hs sl ht => ?_
  have held : ∃ o ∈ x.ring.list, markStuck onset present o = some sl := by
    simpa [markRing, Quad.list, eq_comm] using ht
  obtain ⟨o, ho, marked⟩ := held
  obtain ⟨sl', rfl, entries⟩ := markStuck_entries marked
  exact Slot.apart_congr entries (hs.2.2.2 _ ho _ rfl)

theorem owned_checkOnset (f : FeederId) (s : State) : Owned s (checkOnset f s) := by
  unfold checkOnset
  extract_lets x c t
  split
  · have active : Owned s t := .onFeeder ((Feeder.keeps_markRing _ _ _).trans (.of_core rfl))
    split
    · exact active.trans (.trans (.onFeeder (.of_core rfl)) (owned_notify _ _))
    · exact active
  · exact .refl s

theorem owned_feedRun (f : FeederId) (s : State) (r : LightRun) : Owned s (feedRun f s r) := by
  unfold feedRun
  split
  · exact .trans (.onFeeder (.feedLight _ _)) (owned_checkOnset _ _)
  · exact .onFeeder (.feedDark _ _)

theorem owned_judgeLight (f : FeederId) (sl : Slot) (s : State) : Owned s (judgeLight f sl s) := by
  unfold judgeLight
  extract_lets x dark strays stuck bore t
  have counted : Owned s t := .onFeeder (.of_core rfl)
  split
  · exact counted.trans (owned_observeCycle _ _ _ _)
  · exact counted.trans (owned_updateRogue _ _ _ _)

theorem owned_complete (f : FeederId) (sl : Slot) (s : State) : Owned s (complete f sl s) := by
  unfold complete
  extract_lets t
  have freed : Owned s t := .onFeeder
    (((Feeder.keeps_freeSlot _ _).trans (Feeder.keeps_clearMarks _ _)).trans (.of_core rfl))
  exact (freed.trans (owned_leavingTests _ _)).trans (owned_judgeLight _ _ _)

theorem owned_completeIfDrained (f : FeederId) (n : CycleNo) (s : State) : Owned s (completeIfDrained f n s) := by
  unfold completeIfDrained
  split
  · split
    · exact owned_complete _ _ s
    · exact .refl s
  · exact .refl s

theorem Feeder.keeps_enterCycle {x : Feeder} {n m : CycleNo} {sl : Slot} (h : x.slotOf m = some sl) :
    x.Keeps (x.enterCycle n) := by
  unfold Feeder.enterCycle
  refine .trans (Feeder.keeps_detector fun he off => ?_) (Feeder.keeps_onLight _ _ _)
  rw [Feeder.running_of_slotOf (.inl he) h] at off
  cases off

theorem Feeder.keeps_beginCycle (x : Feeder) (n : CycleNo) : x.Keeps (x.beginCycle n) := by
  unfold Feeder.beginCycle
  split
  next sl h =>
    split
    · extract_lets y
      have begun : x.Keeps y := Feeder.keeps_setSlot (sl' := { sl with state := .receiving }) h rfl
      split
      · exact begun
      · exact begun.trans (Feeder.keeps_enterCycle (m := n)
          (Feeder.slotOf_setSlot_self x (sl := { sl with state := .receiving }) (Feeder.cycle_of_slotOf h :)))
    · exact .refl x
  next => exact .refl x

theorem Feeder.keeps_leaveCycle (x : Feeder) : x.Keeps x.leaveCycle := by
  unfold Feeder.leaveCycle
  extract_lets next t y
  have left : x.Keeps y := Feeder.keeps_detector fun _ _ => rfl
  split
  next sl h =>
    split
    · exact left.trans (Feeder.keeps_enterCycle h)
    · exact left
  next => exact left

theorem owned_endCycle (f : FeederId) (n : CycleNo) (light : List LightRun) (s : State) :
    Owned s (endCycle f n light s) := by
  unfold endCycle
  split
  · exact .refl s
  · split
    · exact .refl s
    · extract_lets t t'
      have fed : Owned s t := (Owned.foldl (owned_feedRun f) _ _).trans (owned_feedRun _ _ _)
      have left : Owned s t' := fed.trans (.onFeeder (Feeder.keeps_leaveCycle _))
      split
      · exact left
      next sl h =>
        split
        · exact left.trans (owned_complete _ _ _)
        · exact left.trans (.onFeeder (Feeder.keeps_setSlot (sl' := { sl with state := .draining }) h rfl))

/-! ## Enrolment -/

theorem owned_onEnrolCount (f : FeederId) (g : EnrolCounters → EnrolCounters) (s : State) :
    Owned s (onEnrolCount f g s) := .onFeeder (.of_core rfl)

/-- The next identity may be counted on. -/
theorem owned_serial (s : State) (n : Nat) : Owned s { s with serial := n } := .outside rfl id id id rfl

/-- A reply may join a queue with a place free, of a feeder that runs. -/
theorem owned_joinReplies {f : FeederId} (n : CycleNo) (tag : FactoryTag) (lanes k : Nat) (b : Int) {s t : State}
    (h : Owned s t) (running : s.equalised → (t.feeder f).running = true)
    (room : (t.feeder f).replies.length < Config.replyPlaces) : Owned s (joinReplies f n tag lanes k b t) := by
  refine Owned.trans (h.then_onFeeder id (fun _ hb => ?_) (fun he hq => ?_) fun _ => id) (owned_serial _ _)
  · obtain ⟨orders, -, frames⟩ := (Feeder.bounded_iff _).1 hb
    exact (Feeder.bounded_iff _).2 ⟨orders, by simpa using Nat.succ_le_of_lt room, frames⟩
  · obtain ⟨records, outside, -⟩ := hq
    exact ⟨records, outside, fun off => absurd (running he) (by simp [show (t.feeder f).running = false from off])⟩

theorem owned_takeReply (f : FeederId) (n : CycleNo) (tag : FactoryTag) (lanes k : Nat) (b : Int) {s t : State}
    (h : Owned s t) (running : s.equalised → (t.feeder f).running = true) :
    Owned s (takeReply f n tag lanes k b t) := by
  unfold takeReply
  extract_lets x held heardOf
  split
  · exact h.trans (owned_onEnrolCount _ _ t)
  · split
    · exact h.trans (owned_onEnrolCount _ _ t)
    · split
      · exact h.trans ((owned_onEnrolCount _ _ t).trans (owned_notify _ _))
      · split
        · exact h.trans (owned_onEnrolCount _ _ t)
        · split
          · exact h.trans ((owned_onEnrolCount _ _ t).trans (owned_setReplyOverrun _ _))
          next full =>
            have room : (t.feeder f).replies.length < Config.replyPlaces := Nat.lt_of_not_le full
            cases held with
            | some d =>
              have line := lineKept_freeRecord f d .reappeared t
              exact owned_joinReplies n tag lanes k b (h.trans (owned_freeRecord f d .reappeared t))
                (fun he => line.running.trans (running he)) (line.replies_length ▸ room)
            | none => exact owned_joinReplies n tag lanes k b h running room

theorem owned_onEntry (f : FeederId) (serial : Nat) (g : ReplyEntry → ReplyEntry) (s : State) :
    Owned s (onEntry f serial g s) := .onFeeder (Feeder.Keeps.replies_map _ _)

theorem owned_declineEntry (f : FeederId) (e : ReplyEntry) (reason : DeclineReason) (s : State) :
    Owned s (declineEntry f e reason s) :=
  (((owned_onEntry _ _ _ s).trans (owned_notify _ _)).trans (owned_onEnrolCount _ _ _)).trans (owned_fillOrders _ _)

theorem Feeder.indexFree_of_chooseIndex {x : Feeder} {preferred : Option Nat} {d : Nat}
    (h : x.chooseIndex preferred = some d) : x.indexFree d = true := by
  unfold Feeder.chooseIndex at h
  split at h
  next e he =>
    obtain rfl := Option.some.inj h
    cases preferred with
    | none => cases he
    | some k =>
      by_cases ok : x.indexFree k = true
      · rw [Option.filter_some_pos ok] at he
        exact Option.some.inj he ▸ ok
      · rw [Option.filter_some_neg (by simpa using ok)] at he
        cases he
  next => exact List.find?_some h

theorem Feeder.indexFree_iff (x : Feeder) (d : Nat) :
    x.indexFree d = true ↔ 1 ≤ d ∧ d ≤ 64 ∧ (x.drop d).state = .empty ∧ x.ringHolds d = false := by
  simp [Feeder.indexFree, within, and_assoc]

/-- A free index of a RUNNING feeder may be given out. -/
theorem Feeder.keeps_create {x : Feeder} {d : Nat} {e : ReplyEntry} (t : AdmissionEntry) (n : CycleNo) (serial : Nat)
    (free : x.indexFree d = true) (queued : e ∈ x.replies) : x.Keeps (x.setDrop d (createdRecord e t n serial)) where
  canonical h := by
    simp only [Feeder.canonical, Feeder.setDrop, Bool.and_eq_true] at h ⊢
    exact ⟨⟨⟨Tbl.wf_set _ h.1.1.1 _ _, h.1.1.2⟩, h.1.2⟩, h.2⟩
  bounded h := h
  separated h := h
  equalised h := by
    obtain ⟨records, outside, stopped⟩ := h
    obtain ⟨h1, h2, -, -⟩ := (x.indexFree_iff d).1 free
    refine ⟨fun k => ?_, fun k hk => ?_, fun off => ?_⟩
    · rw [Feeder.drop_setDrop]
      split
      · simp [DropRecord.equalisedAt, createdRecord, DropState.equalised]
      · exact records k
    · rw [Feeder.drop_setDrop_ne _ _ _ _ (by rintro rfl; exact hk ⟨h1, h2⟩)]
      exact outside k hk
    · obtain ⟨-, empty, -⟩ := stopped off
      rw [empty] at queued
      cases queued

theorem owned_createRecord {f : FeederId} {d : Nat} {e : ReplyEntry} (t : AdmissionEntry) {s : State}
    (free : (s.feeder f).indexFree d = true) (queued : e ∈ (s.feeder f).replies) :
    Owned s (createRecord f d e t s) := by
  unfold createRecord
  extract_lets s'
  have created : Owned s s' :=
    .onFeeder ((Feeder.keeps_create t s.cycle s.serial free queued).trans (Feeder.Keeps.replies_filter _ _))
  exact (((created.trans (owned_serial _ _)).trans (.onAccount _ _ _)).trans (owned_resetLanes _ _ _)).trans
    (owned_fillOrders _ _)

theorem owned_permit {f : FeederId} {e : ReplyEntry} (t : AdmissionEntry) {s : State}
    (queued : e ∈ (s.feeder f).replies) : Owned s (permit f e t s).1 := by
  unfold permit
  split
  · exact owned_declineEntry _ _ _ s
  · split
    · exact owned_declineEntry _ _ _ s
    next d assigned =>
      refine owned_createRecord t ?_ queued
      unfold decideAssignment at assigned
      split at assigned
      · cases assigned
      · split at assigned
        · cases assigned
        · split at assigned
          · cases assigned
          next chosen =>
            cases assigned
            exact Feeder.indexFree_of_chooseIndex chosen

theorem owned_lookupEntry {f : FeederId} {e : ReplyEntry} {s : State} (queued : e ∈ (s.feeder f).replies) :
    Owned s (lookupEntry f e s) := by
  unfold lookupEntry
  split
  · split
    · exact owned_permit _ queued
    · exact owned_declineEntry _ _ _ s
  · exact (owned_onEntry _ _ _ s).trans (owned_notify _ _)

theorem owned_growQueryAges (f : FeederId) (s : State) : Owned s (growQueryAges f s) :=
  .onFeeder (Feeder.Keeps.replies_map _ _)

theorem owned_timeoutEntry (f : FeederId) (s : State) (e : ReplyEntry) : Owned s (timeoutEntry f s e) := by
  unfold timeoutEntry
  split
  · exact owned_declineEntry _ _ _ s
  · exact .refl s

theorem owned_queryTimeouts (f : FeederId) (s : State) : Owned s (queryTimeouts f s) :=
  .foldl (owned_timeoutEntry f) _ s

theorem owned_timeoutFirst (f : FeederId) (tag : FactoryTag) (s : State) : Owned s (timeoutFirst f tag s) := by
  unfold timeoutFirst
  split
  · exact .refl s
  · exact owned_timeoutEntry _ s _

theorem queued_of_answerable {x : Feeder} {tag : FactoryTag} {e : ReplyEntry} (h : answerable x tag = .ok e) :
    e ∈ x.replies := by
  unfold answerable at h
  split at h
  · cases h
  next e' named =>
    split at h
    · cases h
    · split at h
      · cases h
      · cases h
        exact List.mem_of_find?_eq_some named

theorem owned_answerQuery {f : FeederId} {tag : FactoryTag} {D : ReplyEntry → State → State × Verdict} (s : State)
    (hD : ∀ e t, e ∈ (t.feeder f).replies → Owned t (D e t).1) : Owned s (answerQuery f tag D s).1 := by
  unfold answerQuery
  extract_lets t
  split
  · exact owned_timeoutFirst _ _ s
  next e settled => exact (owned_timeoutFirst _ _ s).trans (hD e _ (queued_of_answerable settled))

theorem admitOutcome_fst (r : State × Except DeclineReason Nat) : (admitOutcome r).1 = r.1 := by
  obtain ⟨s, e | d⟩ := r <;> rfl

theorem owned_admitDecided (feeder : Nat) (r : AdmitFields) (s : State) : Owned s (admitDecided feeder r s).1 := by
  unfold admitDecided
  split
  · exact .refl s
  · split
    · exact .refl s
    · exact owned_answerQuery s fun e t queued => by
        rw [admitOutcome_fst]
        exact owned_permit _ queued

theorem owned_refuseDecided (feeder : Nat) (tag : FactoryTag) (s : State) : Owned s (refuseDecided feeder tag s).1 := by
  unfold refuseDecided
  split
  · exact .refl s
  · exact owned_answerQuery s fun e t _ => owned_declineEntry _ _ _ t

theorem owned_writeAdmission (place : Nat) (r : AdmissionFields) (s : State) : Owned s (writeAdmission place r s).1 := by
  unfold writeAdmission
  split
  · exact .refl s
  · split
    · exact .refl s
    next e _ =>
      refine .outside rfl (fun ⟨h1, h2, h3, h4, h5, h6⟩ => ⟨h1, ?_, h3, h4, h5, h6⟩) id id rfl
      change Tbl.wf none (admissionWrite place e s.admission) = true
      unfold admissionWrite
      split
      · exact Tbl.wf_set _ h2 _ _
      · exact Tbl.wf_set _ (Tbl.wf_update _ _ h2) _ _

theorem owned_discoveryDecided (feeder mode : Nat) (s : State) : Owned s (discoveryDecided feeder mode s).1 := by
  unfold discoveryDecided
  split
  · exact .refl s
  · split
    · exact .refl s
    next x swept =>
      refine .setFeeder (.of_core ?_)
      unfold Feeder.sweepMode at swept
      split at swept <;> cases swept <;> rfl

/-- Settings within R95's limits may be stored: a RUNNING feeder keeps its reach, and a STOPPED one has no record and no
plan that they could break. -/
theorem Feeder.keeps_store {x : Feeder} {t : Settings} (reach : x.running = true → sameReach t x.settings = true)
    (limits : t.dk ≤ 128 ∧ t.rtdMax - t.rtdMin ≤ 512000) : x.Keeps (x.store t) := by
  have rewritten : x.Keeps { x with drops := x.drops.update DropRecord.empty fun _ r => r.capRouse t.rouseLimit } :=
    Feeder.keeps_updateDrops (fun _ => DropRecord.capRouse_empty _) fun _ r => by
      rw [DropRecord.capRouse_eq]
      exact ⟨rfl, rfl, rfl, rfl⟩
  refine rewritten.trans ⟨id, id, fun h => ?_, fun h => ?_⟩
  · obtain ⟨records, outside, stopped⟩ := h
    refine ⟨fun k => ?_, outside, stopped⟩
    by_cases on : x.running = true
    · have td : t.td = x.settings.td := by
        have := reach on
        simp only [sameReach, Bool.and_eq_true, decide_eq_true_eq] at this
        exact this.1.1.1
      change DropRecord.equalisedAt _ t.td
      rw [td]
      exact records k
    · have empty := (stopped (by simpa using on)).1 k
      intro equal
      change (Feeder.drop _ k).state.equalised = true ∨ _ at equal
      simp only [Feeder.drop] at empty
      simp [Feeder.drop, Feeder.store, empty, DropState.equalised] at equal
  · obtain ⟨-, -, stopped, plans⟩ := h
    refine ⟨limits.1, limits.2, stopped, fun o ho sl e => ?_⟩
    by_cases on : x.running = true
    · have dk : t.dk = x.settings.dk := by
        have := reach on
        simp only [sameReach, Bool.and_eq_true, decide_eq_true_eq] at this
        exact this.2
      change sl.apart t.dk
      rw [dk]
      exact plans o ho sl e
    · have empty : x.ring = ⟨none, none, none, none⟩ := stopped (by simpa using on)
      change o ∈ x.ring.list at ho
      subst e
      simp [empty, Quad.list] at ho

theorem settingsOf_limits {r : FeederFields} {t : Settings} (h : settingsOf r = some t) :
    t.dk ≤ 128 ∧ t.rtdMax - t.rtdMin ≤ 512000 := by
  unfold settingsOf at h
  split at h
  next ok =>
    obtain rfl := Option.some.inj h
    have reach := ok.1
    simp only [reachOk, Bool.and_eq_true, Bool.or_eq_true, decide_eq_true_eq] at reach
    change r.dk ≤ 128 ∧ r.rtdMax - r.rtdMin ≤ 512000
    omega
  next => cases h

theorem owned_writeFeeder (feeder : Nat) (r : FeederFields) (s : State) : Owned s (writeFeeder feeder r s).1 := by
  unfold writeFeeder
  split
  · exact .refl s
  · split
    · exact .refl s
    next t given =>
      split
      · exact .refl s
      next keeps =>
        refine .trans (.onFeeder (Feeder.keeps_store (fun on => ?_) (settingsOf_limits given))) (owned_checkOnset _ _)
        simpa [on] using keeps

/-! ## The tariff clock and the close pass -/

theorem owned_countQuarter (s : State) : Owned s (countQuarter s) := by
  refine .onMeter ?_ ?_ ?_ ?_ <;> split <;> exact id

theorem owned_quarterBoundary (s : State) : Owned s (quarterBoundary s) := by
  unfold quarterBoundary
  split
  · exact .refl s
  · exact .onMeter id (fun h => by dsimp only; exact Tbl.wf_update _ _ h) id id

theorem owned_appendStatement {r : Statement} {s : State} (room : s.meter.queue.length < Config.statementPlaces) :
    Owned s (appendStatement r s) := by
  unfold appendStatement
  extract_lets t
  have joined : Owned s t := .onMeter id id (fun _ => by simpa using Nat.succ_le_of_lt room) id
  split
  · exact joined.trans (owned_exportAndSend _)
  · exact joined

theorem owned_closeAccount (slot : Nat) (stamp : CloseStamp) (s : State) : Owned s (closeAccount slot stamp s) := by
  unfold closeAccount
  split
  next room => exact (owned_appendStatement room).trans (.onAccount _ _ _)
  next => exact .trans (.onMeter id id id id) (.onAccount _ _ _)

theorem owned_closeStep (s : State) : Owned s (closeStep s) := by
  unfold closeStep
  split
  · exact .refl s
  next p _ =>
    extract_lets t
    have closed : Owned s t := by
      unfold t
      split
      · exact owned_closeAccount _ _ s
      · exact .refl s
    exact closed.trans (.onMeter id id id id)

theorem owned_closeSteps (n : Nat) (s : State) : Owned s (closeSteps n s) := by
  induction n generalizing s with
  | zero => exact .refl s
  | succ n ih =>
    unfold closeSteps
    split
    · exact (owned_closeStep s).trans (ih _)
    · exact .refl s

theorem owned_closeThrough (slot : Nat) (s : State) : Owned s (closeThrough slot s) := by
  unfold closeThrough
  split
  · exact .refl s
  · exact owned_closeSteps _ s

theorem owned_writeTariffPlan (n : Nat) (r : PlanFields) (s : State) : Owned s (writeTariffPlan n r s).1 := by
  unfold writeTariffPlan
  split
  · exact .refl s
  · split
    · exact .refl s
    · dsimp only
      exact .onMeter id (fun h => Tbl.wf_set _ h _ _) id id

theorem owned_setTariffClock (day quarter closeEvery : Nat) (s : State) :
    Owned s (setTariffClock day quarter closeEvery s).1 := by
  unfold setTariffClock
  split
  · exact .refl s
  · dsimp only
    exact (owned_quarterBoundary s).trans (.onMeter id id id id)

theorem owned_exportHold (s : State) : Owned s (exportHold s).1 := by
  unfold exportHold
  split
  · exact .refl s
  · dsimp only
    exact .onMeter id id id id

theorem owned_exportResume (s : State) : Owned s (exportResume s).1 := by
  unfold exportResume
  split
  · exact .refl s
  · dsimp only
    exact .trans (.onMeter id id id id) (owned_exportRecords _)

end Sys2Proof.Machine
end


section
/-! PROOFS. Reassembly, the reader, the resolution of windows, the framer, and the start and stop of a feeder keep the
invariants. -/

namespace Sys2Proof.Machine

/-! ## Reassembly -/

theorem owned_onUpCount (f : FeederId) (g : UpstreamCounters → UpstreamCounters) (s : State) :
    Owned s (onUpCount f g s) := .onFeeder (.of_core rfl)

theorem owned_writePartial (f : FeederId) (d lane : Nat) (p : Option Partial) (s : State) :
    Owned s (writePartial f d lane p s) := .onFeeder (Feeder.keeps_setPartial _ _ _ _)

theorem owned_offerUpstream (f : FeederId) (d tag : Nat) (bytes : List Byte) (s : State) :
    Owned s (offerUpstream f d tag bytes s) := by
  unfold offerUpstream
  split
  next room =>
    have joined : Owned s (s.onUplink fun u => { u with traffic := u.traffic ++ [⟨tag, bytes⟩] }) :=
      .outside rfl id (fun ⟨h1, h2, h3, _, h5, h6, h7, h8⟩ =>
        ⟨h1, h2, h3, by simpa using Nat.succ_le_of_lt room, h5, h6, h7, h8⟩) id rfl
    exact joined.trans (owned_meterFrame _ _ _ _ _)
  next => exact owned_onUpCount _ _ s

theorem owned_frameComplete (f : FeederId) (d lane flow : Nat) (bytes : List Byte) (s : State) :
    Owned s (frameComplete f d lane flow bytes s) := by
  unfold frameComplete
  split
  · exact owned_onUpCount _ _ s
  · dsimp only
    split
    · exact owned_onUpCount _ _ s
    · exact owned_offerUpstream _ _ _ _ s

theorem owned_displace (f : FeederId) (d lane : Nat) (s : State) : Owned s (displace f d lane s) :=
  .onFeeder (.discardPartial _ _ _ _)

theorem owned_continueFrame (f : FeederId) (d lane : Nat) (p : Partial) (g : Segment) (s : State) :
    Owned s (continueFrame f d lane p g s) := by
  unfold continueFrame
  split
  · exact (owned_onUpCount _ _ s).trans (owned_writePartial _ _ _ _ _)
  · split
    · exact (owned_onUpCount _ _ s).trans (owned_writePartial _ _ _ _ _)
    · dsimp only
      split
      · exact (owned_writePartial _ _ _ _ s).trans (owned_frameComplete _ _ _ _ _ _)
      · exact owned_writePartial _ _ _ _ s

theorem owned_commitSegment (f : FeederId) (n : CycleNo) (d lane : Nat) (g : Segment) (s : State) :
    Owned s (commitSegment f n d lane g s) := by
  unfold commitSegment
  split
  · refine (owned_displace f d lane s).trans ?_
    split
    · exact owned_frameComplete _ _ _ _ _ _
    · exact owned_writePartial _ _ _ _ _
  · split
    · exact owned_onUpCount _ _ s
    · exact owned_continueFrame _ _ _ _ _ s

theorem owned_commitStaged (f : FeederId) (s : State) (g : Staged) : Owned s (commitStaged f s g) := by
  unfold commitStaged
  split
  · exact (owned_displace _ _ _ s).trans (owned_onUpCount _ _ _)
  · exact owned_commitSegment _ _ _ _ _ s

theorem owned_commitWindow (f : FeederId) (n : CycleNo) (d : Nat) (s : State) : Owned s (commitWindow f n d s) :=
  .trans (.onFeeder (.of_core rfl)) (.foldl (owned_commitStaged f) _ _)

theorem owned_dropWindow (f : FeederId) (d : Nat) (lanes : List Nat) (s : State) : Owned s (dropWindow f d lanes s) :=
  .onFeeder (.trans (y := { s.feeder f with staging := [] }) (.of_core rfl)
    (.foldl (fun x _ => .discardPartial _ _ _ x) _ _))

theorem owned_ageOutSlot (f : FeederId) (s : State) (k : Nat × Nat) : Owned s (ageOutSlot f s k) := by
  refine .onFeeder ?_
  split
  · exact .refl _
  · split
    · exact .discardPartial _ _ _ _
    · exact .refl _

theorem owned_ageOuts (f : FeederId) (s : State) : Owned s (ageOuts f s) := .foldl (owned_ageOutSlot f) _ s

/-! ## The reader -/

/-- A feeder whose reader is under way runs. -/
theorem Feeder.running_of_reader {x : Feeder} (he : x.equalised) (h : x.reader ≠ .idle) : x.running = true := by
  by_contra off
  exact h (he.2.2 (by simpa using off)).2.2.2.1

theorem Feeder.keeps_serve {x : Feeder} {m : CycleNo} {sl : Slot} (held : x.slotOf m = some sl) (n : CycleNo)
    (w : WindowId) (b : Int) : x.Keeps (x.serve n w b) := by
  unfold Feeder.serve
  extract_lets y
  have served : x.Keeps y := .trans (Feeder.keeps_reader fun he off => by
    rw [Feeder.running_of_slotOf (.inl he) held] at off
    cases off) (.of_core rfl)
  split
  · exact served
  · exact served.trans (Feeder.keeps_setFound _ _ _ _)

theorem Feeder.slotOf_of_receiving {x : Feeder} {sl : Slot} (h : x.receiving = some sl) :
    x.slotOf x.detector.cycle = some sl := by
  unfold Feeder.receiving at h
  split at h
  · exact (Option.filter_eq_some_iff.1 h).1
  · cases h

theorem Feeder.keeps_firstTransition (x : Feeder) (ticks : Int) : x.Keeps (x.firstTransition ticks) := by
  unfold Feeder.firstTransition
  split
  next sl _ held =>
    have held := Feeder.slotOf_of_receiving held
    dsimp only
    split
    · exact Feeder.keeps_serve held _ _ _
    · split
      · exact .refl x
      · split
        · exact Feeder.keeps_serve held _ _ _
        · exact .refl x
  next => exact .refl x

theorem Feeder.keeps_idle (x : Feeder) : x.Keeps { x with reader := .idle } := Feeder.keeps_reader fun _ _ => rfl

theorem Feeder.keeps_measurementGarbled (x : Feeder) (n : CycleNo) (w : WindowId) :
    x.Keeps (x.measurementGarbled n w) := by
  unfold Feeder.measurementGarbled
  dsimp only
  split
  · exact x.keeps_idle.trans (.of_core rfl)
  · exact x.keeps_idle.trans (Feeder.keeps_setFound _ _ _ _)

/-- A reader under way may go on. -/
theorem Feeder.keeps_reading {x : Feeder} {r : Reader} (h : x.reader ≠ .idle) : x.Keeps { x with reader := r } :=
  Feeder.keeps_reader fun he off => by
    rw [Feeder.running_of_reader he h] at off
    cases off

theorem Feeder.keeps_markMeasured (x : Feeder) (span : Nat) : x.Keeps (x.markMeasured span) := by
  unfold Feeder.markMeasured
  split
  next h =>
    split
    · exact Feeder.keeps_reading (by simp [h])
    · exact x.keeps_measurementGarbled _ _
  next => exact .refl x

theorem Feeder.keeps_markOverlong (x : Feeder) : x.Keeps x.markOverlong := by
  unfold Feeder.markOverlong
  split
  next h => exact Feeder.keeps_reading (by simp [h])
  next => exact .refl x

theorem Feeder.keeps_markCutOff (x : Feeder) : x.Keeps x.markCutOff := by
  unfold Feeder.markCutOff
  split
  · exact x.keeps_measurementGarbled _ _
  · exact .refl x

theorem Feeder.keeps_decided (x : Feeder) (n : CycleNo) (w : WindowId) (g : Found) : x.Keeps (x.decided n w g) :=
  x.keeps_idle.trans (Feeder.keeps_setFound _ _ _ _)

theorem Feeder.keeps_readLabel (x : Feeder) (label : Word) : x.Keeps (x.readLabel label) := by
  unfold Feeder.readLabel
  split
  next h =>
    dsimp only
    split
    · exact x.keeps_decided _ _ _
    · exact Feeder.keeps_reading (by simp [h])
  next => exact .refl x

theorem Feeder.keeps_readWord (x : Feeder) (w : Word) : x.Keeps (x.readWord w) := by
  unfold Feeder.readWord
  split
  next h =>
    extract_lets r y
    have read : x.Keeps y := Feeder.keeps_reading (by simp [h])
    split
    · exact read
    · exact read.trans (.of_core rfl)
  next => exact .refl x

theorem Feeder.keeps_readEnd (x : Feeder) (endMark : Word) : x.Keeps (x.readEnd endMark) := by
  unfold Feeder.readEnd
  split
  · split
    · exact x.keeps_decided _ _ _
    · exact .refl x
  · exact .refl x

theorem Feeder.keeps_readRange (x : Feeder) (label echo endMark : Word) : x.Keeps (x.readRange label echo endMark) := by
  unfold Feeder.readRange
  split
  · exact x.keeps_decided _ _ _
  · exact .refl x

theorem owned_readReply (f : FeederId) (label tagHigh tagLow info endMark : Word) (s : State) :
    Owned s (readReply f label tagHigh tagLow info endMark s) := by
  unfold readReply
  split
  next reading =>
    extract_lets t
    have idle : Owned s t := .onFeeder (Feeder.keeps_idle _)
    split
    · exact idle.trans (.onFeeder (.of_core rfl))
    · exact (idle.trans (.onFeeder (.of_core rfl))).trans (owned_takeMislabel _ _ _)
    next tag lanes k _ =>
      have counted : Owned s (t.onFeeder f fun x => x.onReception fun c => { c with repliesTaken := c.repliesTaken + 1 }) :=
        idle.trans (.onFeeder (.of_core rfl))
      refine owned_takeReply f _ tag lanes k _ counted fun he => ?_
      rw [State.feeder_onFeeder_self, State.feeder_onFeeder_self]
      exact Feeder.running_of_reader (x := s.feeder f) (he f) (by simp [reading])
  next => exact .refl s

/-! ## Resolutions -/

theorem Feeder.keeps_abandon (x : Feeder) (n : CycleNo) (w : WindowId) : x.Keeps (x.abandon n w) := by
  unfold Feeder.abandon
  split
  · exact x.keeps_measurementGarbled _ _
  · exact .refl x

theorem Feeder.keeps_resolveLanes (n : CycleNo) (d : Nat) (allocs : List (Nat × Nat)) (reports : List (Option Nat))
    (x : Feeder) : x.Keeps (resolveLanes n d allocs reports x) := by
  induction allocs generalizing reports x with
  | nil => exact .refl x
  | cons a allocs ih => exact (Feeder.keeps_setLane _ _ _ _).trans (ih _ _)

theorem owned_carrySymptom (f : FeederId) (n : CycleNo) (d : Nat) (w : WindowId) (res : Resolution) (g : Found)
    (s : State) : Owned s (carrySymptom f n d w res g s) := by
  unfold carrySymptom
  split
  · exact owned_takeGarble _ _ s
  · exact owned_takeMislabel _ _ s
  · exact .refl s
  · exact .onFeeder (Feeder.keeps_onLight _ _ _)
  · exact .refl s

theorem owned_resolveBurst (f : FeederId) (n : CycleNo) (d start : Nat) (allocs : List (Nat × Nat))
    (flag : Option BurstFlag) (excused : Bool) (g : Found) (s : State) :
    Owned s (resolveBurst f n d start allocs flag excused g s) := by
  unfold resolveBurst
  extract_lets w res t1 t2 t3 t4
  have h1 : Owned s t1 := .onFeeder (Feeder.keeps_setResolution _ _ _ _ _)
  have h2 : Owned t1 t2 := by
    unfold t2
    split
    · exact owned_commitWindow _ _ _ _
    · exact owned_dropWindow _ _ _ _
  have h3 : Owned t2 t3 := .onFeeder (Feeder.keeps_resolveLanes _ _ _ _ _)
  have h4 : Owned t3 t4 := by
    unfold t4
    split
    · exact owned_burstExcused _ _ _ _ _
    · exact owned_burstTaken _ _ _ _ _ _ _
  exact (((h1.trans h2).trans h3).trans h4).trans (owned_carrySymptom _ _ _ _ _ _ _)

theorem owned_resolveRanging (f : FeederId) (n : CycleNo) (d : Nat) (excused : Bool) (g : Found) (s : State) :
    Owned s (resolveRanging f n d excused g s) := by
  unfold resolveRanging
  extract_lets w res t1 t2
  have h1 : Owned s t1 := .onFeeder (Feeder.keeps_setResolution _ _ _ _ _)
  have h2 : Owned t1 t2 := by
    unfold t2
    split
    · exact .refl _
    · exact owned_rangingTaken _ _ _ _ _
  exact (h1.trans h2).trans (owned_carrySymptom _ _ _ _ _ _ _)

theorem owned_resolveWindow (f : FeederId) (n : CycleNo) (w : WindowId) (s : State) : Owned s (resolveWindow f n w s) := by
  unfold resolveWindow
  split
  · exact .refl s
  next v _ =>
    extract_lets t x g u
    have abandoned : Owned s t := .onFeeder (Feeder.keeps_abandon _ _ _)
    have resolved : Owned t u := by
      unfold u
      split
      · exact owned_resolveBurst _ _ _ _ _ _ _ _ _
      · exact owned_resolveRanging _ _ _ _ _ _
      · exact .onFeeder (Feeder.keeps_setResolution _ _ _ _ _)
      · exact .refl _
    exact ((abandoned.trans resolved).trans (owned_completeIfDrained _ _ _)).trans (owned_arbitrate _)

/-! ## The framer -/

theorem Feeder.keeps_newCycle (x : Feeder) (n : CycleNo) : x.Keeps (x.newCycle n) := by
  unfold Feeder.newCycle
  split
  · exact .of_core rfl
  · exact .refl x

theorem owned_takeOrders (f : FeederId) (n : CycleNo) (s : State) : Owned s (takeOrders f n s) := by
  unfold takeOrders
  split
  · extract_lets taken t
    have took : Owned s t := .onFeeder ((Feeder.keeps_orderQueue _ (orders := (s.feeder f).orderQueue.drop _) fun h => by
      rw [List.length_drop]
      exact (Nat.sub_le _ _).trans ((Feeder.bounded_iff _).1 h).1).trans (.of_core rfl))
    exact (took.trans (owned_fillOrders _ _)).trans (.foldl (owned_orderReport f n) _ _)
  · exact .refl s

theorem owned_placeFrame (f : FeederId) (fr : DownFrame) (s : State) : Owned s (placeFrame f fr s) := by
  unfold placeFrame
  split
  · exact .trans (.onFeeder (.of_core rfl)) (owned_meterFrame _ _ _ _ _)
  · exact .onFeeder (.of_core rfl)

/-- No more frames are left than there were to take. -/
theorem takeFrames_downQueue_length (f : FeederId) (l : List DownFrame) (room : Nat) (s : State) :
    ((takeFrames f l room s).feeder f).downQueue.length ≤ l.length := by
  induction l generalizing room s with
  | nil => simp [takeFrames]
  | cons fr rest ih =>
    unfold takeFrames
    split
    · simp
    · exact (ih _ _).trans (Nat.le_succ _)

theorem Feeder.bounded_downQueue {x : Feeder} {q : List DownFrame} (h : x.bounded = true)
    (hq : q.length ≤ Config.downPlaces) : ({ x with downQueue := q } : Feeder).bounded = true := by
  obtain ⟨orders, replies, -⟩ := x.bounded_iff.1 h
  exact (Feeder.bounded_iff _).2 ⟨orders, replies, hq⟩

/-- Frames of a list within the queue's places may be taken. -/
theorem owned_takeFrames (f : FeederId) (l : List DownFrame) (room : Nat) {s t : State} (h : Owned s t)
    (places : s.bounded = true → l.length ≤ Config.downPlaces) : Owned s (takeFrames f l room t) := by
  induction l generalizing room t with
  | nil => exact h.then_onFeeder id (fun _ hb => Feeder.bounded_downQueue hb (Nat.zero_le _)) (fun _ => id) fun _ => id
  | cons fr rest ih =>
    unfold takeFrames
    split
    · exact h.then_onFeeder id (fun hs hb => Feeder.bounded_downQueue hb (places hs)) (fun _ => id) fun _ => id
    · exact ih _ (h.trans (owned_placeFrame f fr t)) fun hs => Nat.le_of_succ_le (places hs)

theorem State.downQueue_le {s : State} (h : s.bounded = true) (f : FeederId) :
    (s.feeder f).downQueue.length ≤ Config.downPlaces :=
  ((Feeder.bounded_iff _).1 (((State.bounded_iff s).1 h).2 f)).2.2

theorem owned_frameCycle (f : FeederId) (s : State) : Owned s (frameCycle f s) := by
  unfold frameCycle
  split
  · split
    · exact owned_takeFrames _ _ _ (.refl s) fun h => State.downQueue_le h f
    · exact .refl s
  · exact .refl s

theorem owned_framePart (f : FeederId) (n : CycleNo) (count : Nat) (s : State) : Owned s (framePart f n count s) := by
  unfold framePart
  extract_lets x
  split
  next c _ =>
    split
    · extract_lets front area
      have whole : front.length + (x.downQueue.drop front.length).length = x.downQueue.length := by
        have := congrArg List.length (frontHolding_append (fun fr => (s.drop f fr.index).state.delivering)
          (count - c.segments.length) x.downQueue)
        rwa [List.length_append] at this
      have places : s.bounded = true → x.downQueue.length ≤ Config.downPlaces := fun h => State.downQueue_le h f
      refine (owned_takeFrames f front _ (.refl s) fun h => by have := places h; omega).then_onFeeder id
        (fun h hb => Feeder.bounded_downQueue hb ?_) (fun _ => id) fun _ => id
      have left := takeFrames_downQueue_length f front (area - c.segmentBytes) s
      have := places h
      rw [List.length_append]
      omega
    · exact .refl s
  · exact .refl s

end Sys2Proof.Machine
end


section
/-! PROOFS. The start and stop of a feeder, PART_RESET, and the agent's taking of requests keep the invariants. -/

namespace Sys2Proof.Machine

/-! ## The freeing of a record outside an isolation (R75) -/

@[simp] theorem notify_feeder (n : Notice) (s : State) (f : FeederId) : (notify n s).feeder f = s.feeder f := by
  unfold notify
  split
  · rfl
  · split <;> rfl

@[simp] theorem notify_meter (n : Notice) (s : State) : (notify n s).meter = s.meter := by
  unfold notify
  split
  · rfl
  · split <;> rfl

@[simp] theorem unbindAccount_feeders (f : FeederId) (d : Nat) (s : State) : (unbindAccount f d s).feeders = s.feeders := by
  unfold unbindAccount
  split <;> rfl

@[simp] theorem unbindAccount_feeder (f g : FeederId) (d : Nat) (s : State) :
    (unbindAccount f d s).feeder g = s.feeder g := by rw [State.feeder, unbindAccount_feeders]; rfl

theorem resetLanes_eq (f : FeederId) (d : Nat) (s : State) :
    ∃ table, resetLanes f d s = s.onFeeder f fun x => { x with lanes := table } := by
  obtain ⟨table, h⟩ := Feeder.resetLanes_frame d laneNumbers (s.feeder f)
  exact ⟨table, by simp only [resetLanes, State.onFeeder, h]⟩

theorem leaveShining_frame (f : FeederId) (d : Nat) (s : State) :
    ∃ slots counts, leaveShining f d s = s.onFeeder f fun x => { x with reassembly := slots, upCount := counts } := by
  obtain ⟨slots, counts, h⟩ := Feeder.discardPartials_frame
    (fun c => { c with lostToState := c.lostToState + 1 }) d laneNumbers (s.feeder f)
  exact ⟨slots, counts, by simp only [leaveShining, State.onFeeder, h]⟩

@[simp] theorem resetLanes_isolation (f : FeederId) (d : Nat) (s : State) :
    ((resetLanes f d s).feeder f).isolation = (s.feeder f).isolation := by
  obtain ⟨table, h⟩ := resetLanes_eq f d s
  simp [h]

@[simp] theorem leaveShining_isolation (f : FeederId) (d : Nat) (s : State) :
    ((leaveShining f d s).feeder f).isolation = (s.feeder f).isolation := by
  obtain ⟨slots, counts, h⟩ := leaveShining_frame f d s
  simp [h]

/-- A record freed while no isolation is under way: it is EMPTY and unbound, its lanes are reset, and what its drop left in
reassembly is discarded where it was shining. -/
theorem freeRecord_of_no_isolation {f : FeederId} {s : State} (d : Nat) (why : RemoveReason)
    (h : (s.feeder f).isolation.kind = none) :
    freeRecord f d why s = notify (.dropRemoved f d (s.drop f d).tag (s.drop f d).account why)
      ((if (s.drop f d).state.shining then leaveShining f d (resetLanes f d (unbindAccount f d s))
        else resetLanes f d (unbindAccount f d s)).onFeeder f fun x => (x.setDrop d DropRecord.empty).setMark d none) := by
  unfold freeRecord
  dsimp only
  rw [departure_of_no_isolation d false true]
  have same : ∀ y : Feeder, ((y.setDrop d DropRecord.empty).setMark d none).isolation = y.isolation := fun _ => rfl
  rw [State.feeder_onFeeder_self, same]
  split <;> simp [h]

theorem freeRecord_frame_of_no_isolation {f : FeederId} {s : State} (d : Nat) (why : RemoveReason)
    (h : (s.feeder f).isolation.kind = none) :
    ∃ lanes slots counts, (freeRecord f d why s).feeder f = { s.feeder f with
      drops := (s.feeder f).drops.set DropRecord.empty d DropRecord.empty, marks := (s.feeder f).marks.set none d none
      lanes := lanes, reassembly := slots, upCount := counts } := by
  rw [freeRecord_of_no_isolation d why h, notify_feeder, State.feeder_onFeeder_self]
  obtain ⟨table, lanes⟩ := resetLanes_eq f d (unbindAccount f d s)
  split
  · obtain ⟨slots, counts, left⟩ := leaveShining_frame f d (resetLanes f d (unbindAccount f d s))
    exact ⟨table, slots, counts, by rw [left, lanes]; simp [Feeder.setDrop, Feeder.setMark]⟩
  · exact ⟨table, (s.feeder f).reassembly, (s.feeder f).upCount, by rw [lanes]; simp [Feeder.setDrop, Feeder.setMark]⟩

/-! ## FEEDER_STOP (R92) -/

theorem stopRecord_cases (f : FeederId) (d : Nat) (s : State) :
    ((s.drop f d).state = .empty ∧ stopRecord f s d = s) ∨
    ((s.drop f d).state ≠ .empty ∧ stopRecord f s d = freeRecord f d .feederStop s) := by
  unfold stopRecord
  split
  next h => exact .inl ⟨h, rfl⟩
  next h => exact .inr ⟨h, rfl⟩

/-- Freeing records of a stopped line: each is EMPTY then, and no other is touched. -/
theorem stopRecords_drop {f : FeederId} (l : List Nat) {s : State} (h : (s.feeder f).isolation.kind = none) :
    ((l.foldl (stopRecord f) s).feeder f).isolation = (s.feeder f).isolation ∧
    ∀ k, ((l.foldl (stopRecord f) s).drop f k) =
      if k ∈ l ∧ (s.drop f k).state ≠ .empty then DropRecord.empty else s.drop f k := by
  induction l generalizing s with
  | nil => exact ⟨rfl, fun k => by simp⟩
  | cons d l ih =>
    rw [List.foldl_cons]
    obtain ⟨empty, same⟩ | ⟨held, freed⟩ := stopRecord_cases f d s
    · rw [same]
      obtain ⟨isolation, records⟩ := ih h
      refine ⟨isolation, fun k => ?_⟩
      rw [records]
      by_cases e : k = d
      · subst e; simp [empty]
      · simp [e]
    · obtain ⟨lanes, slots, counts, frame⟩ := freeRecord_frame_of_no_isolation d .feederStop h
      rw [freed]
      have quiet : ((freeRecord f d .feederStop s).feeder f).isolation = (s.feeder f).isolation := by rw [frame]
      have record : ∀ k, (freeRecord f d .feederStop s).drop f k = if k = d then DropRecord.empty else s.drop f k := by
        intro k
        rw [State.drop, frame]
        exact Tbl.get_set DropRecord.empty DropRecord.empty _ _ _
      obtain ⟨isolation, records⟩ := ih (quiet ▸ h)
      refine ⟨isolation.trans quiet, fun k => ?_⟩
      rw [records, record]
      by_cases e : k = d
      · subst e; simp [held, DropRecord.empty]
      · simp [e]

theorem lineKept_stopRecords (f : FeederId) (l : List Nat) (s : State) : LineKept f s (l.foldl (stopRecord f) s) := by
  induction l generalizing s with
  | nil => exact .refl f s
  | cons d l ih =>
    refine .trans ?_ (ih _)
    obtain ⟨-, same⟩ | ⟨-, freed⟩ := stopRecord_cases f d s
    · rw [same]; exact .refl f s
    · rw [freed]; exact lineKept_freeRecord f d _ s

theorem owned_stopRecord (f : FeederId) (s : State) (d : Nat) : Owned s (stopRecord f s d) := by
  obtain ⟨-, same⟩ | ⟨-, freed⟩ := stopRecord_cases f d s
  · rw [same]; exact .refl s
  · rw [freed]; exact owned_freeRecord f d _ s

theorem mem_dropIndices {d : Nat} : d ∈ dropIndices ↔ 1 ≤ d ∧ d ≤ 64 := by
  simp only [dropIndices, List.mem_map, List.mem_range]
  constructor
  · rintro ⟨k, hk, rfl⟩; omega
  · intro h; exact ⟨d - 1, by omega, by omega⟩

/-- A feeder whose line is stopped, with every plan and window gone. -/
theorem Feeder.stopLine_keeps (x : Feeder) : (x.canonical = true → x.stopLine.canonical = true) ∧
    (x.bounded = true → x.stopLine.bounded = true) ∧ (x.separated → x.stopLine.separated) := by
  refine ⟨fun h => ?_, fun h => ?_, fun h => ⟨h.1, h.2.1, fun _ => rfl, fun o ho sl e => ?_⟩⟩
  · simp only [Feeder.canonical, Feeder.stopLine, Bool.and_eq_true] at h ⊢
    exact ⟨⟨h.1.1, rfl⟩, h.2⟩
  · obtain ⟨-, replies, frames⟩ := x.bounded_iff.1 h
    exact (Feeder.bounded_iff _).2 ⟨Nat.zero_le _, replies, frames⟩
  · subst e
    simp [Feeder.stopLine, Quad.list] at ho

/-- The whole stop: its first part breaks R103's clause on a STOPPED feeder, and the freeing of every record mends it. -/
theorem owned_stopFeeder (f : FeederId) (s : State) : Owned s (stopFeeder f s) := by
  have line := Feeder.stopLine_keeps (s.feeder f)
  have records := Owned.foldl (owned_stopRecord f) dropIndices (s.onFeeder f Feeder.stopLine)
  have kept := lineKept_stopRecords f dropIndices (s.onFeeder f Feeder.stopLine)
  obtain ⟨-, drops⟩ := stopRecords_drop (f := f) dropIndices (s := s.onFeeder f Feeder.stopLine)
    (by rw [State.feeder_onFeeder_self]; rfl)
  have own := kept.own
  rw [State.feeder_onFeeder_self] at own
  unfold stopFeeder
  generalize dropIndices.foldl (stopRecord f) (s.onFeeder f Feeder.stopLine) = t at *
  have tables : ∀ {p : Feeder → Prop}, (∀ g, p (s.feeder g)) → (p (s.feeder f) → p (s.feeder f).stopLine) →
      ∀ g, p ((s.onFeeder f Feeder.stopLine).feeder g) := by
    intro p all step g
    rw [State.feeder_onFeeder]
    split
    · exact step (all f)
    · exact all g
  have last : ∀ {p : Feeder → Prop}, (∀ g, p (t.feeder g)) → (p (t.feeder f) → p (t.feeder f).stopTables) →
      ∀ g, p ((t.onFeeder f Feeder.stopTables).feeder g) := by
    intro p all step g
    rw [State.feeder_onFeeder]
    split
    · exact step (all f)
    · exact all g
  refine ⟨fun h => ?_, fun h => ?_, fun h g => ?_, fun h => ?_, ?_⟩
  · have h := (State.canonical_iff s).1 h
    have h := (State.canonical_iff t).1 (records.canonical ((State.canonical_iff _).2
      ⟨h.1, tables (p := fun x => x.canonical = true) h.2 line.1⟩))
    refine (State.canonical_iff _).2 ⟨h.1, last (p := fun x => x.canonical = true) h.2 fun h => ?_⟩
    simp only [Feeder.canonical, Feeder.stopTables, Feeder.sweepOff, Bool.and_eq_true] at h ⊢
    exact ⟨⟨⟨h.1.1.1, rfl⟩, h.1.2⟩, h.2⟩
  · have h := (State.bounded_iff s).1 h
    have h := (State.bounded_iff t).1 (records.bounded ((State.bounded_iff _).2
      ⟨h.1, tables (p := fun x => x.bounded = true) h.2 line.2.1⟩))
    refine (State.bounded_iff _).2 ⟨h.1, last (p := fun x => x.bounded = true) h.2 fun h => ?_⟩
    obtain ⟨orders, -, frames⟩ := (Feeder.bounded_iff _).1 h
    exact (Feeder.bounded_iff _).2 ⟨orders, Nat.zero_le _, frames⟩
  · rw [State.feeder_onFeeder]
    split
    next e =>
      have empty : ∀ k, (t.drop f k).state = .empty := by
        intro k
        rw [drops]
        split
        · rfl
        next out =>
          by_contra held
          have inside : k ∈ dropIndices := by
            by_contra outside
            exact held (((h f).2.1) k (mem_dropIndices.not.1 outside) ▸ by rw [State.drop, State.feeder_onFeeder_self]; rfl)
          exact out ⟨inside, held⟩
      simp only [Feeder.aside, Prod.mk.injEq] at own
      refine ⟨fun k => ?_, fun k _ => empty k, fun _ => ⟨empty, rfl, own.2.2.2.2.2.2.2.2.2.2.1, own.2.2.2.2.2.2.2.2.2.2.2.1,
        congrArg Detector.inCycle own.2.2.2.2.2.2.2.2.2.2.2.2.2.1⟩⟩
      intro equal
      change (t.drop f k).state.equalised = true ∨ _ at equal
      have := empty k
      simp only [State.drop] at this
      simp [State.drop, Feeder.stopTables, Feeder.sweepOff, Feeder.drop] at equal this
      simp [this, DropState.equalised] at equal
    next other =>
      rw [kept.others g other, State.feeder_onFeeder_ne _ _ _ _ other]
      exact h g
  · have h := records.separated ⟨h.1, tables h.2 line.2.2⟩
    exact ⟨h.1, last h.2 id⟩
  · exact (records.agent : AgentQuiet _ _)

theorem owned_startDecided (feeder : Nat) (s : State) : Owned s (startDecided feeder s).1 := by
  unfold startDecided
  split
  · exact .refl s
  · split
    · exact .refl s
    next f _ _ =>
      have started : (s.feeder f).Keeps { s.feeder f with running := true, restartDue := true } :=
        ⟨id, id, fun h => ⟨h.1, h.2.1, fun off => by cases off⟩, fun h => ⟨h.1, h.2.1, (fun off => by cases off), h.2.2.2⟩⟩
      exact Owned.setFeeder started

theorem owned_stopDecided (feeder : Nat) (s : State) : Owned s (stopDecided feeder s).1 := by
  unfold stopDecided
  split
  · exact .refl s
  · split
    · exact .refl s
    · exact owned_stopFeeder _ s

end Sys2Proof.Machine
end


section
/-! PROOFS. The grants of a build (R22 to R34): what crediting, the mandatory bursts and the serving of one lane leave, and
the order in which the lanes are considered. -/

namespace Sys2Proof.Machine

/-! ## Credit (R22, R25) -/

/-- A lane's credit once it is bounded and accrued (R22, R25). -/
def Feeder.credited (x : Feeder) (force : Nat → Nat → Option Profile) (d l : Nat) : Nat :=
  if l ∈ (x.drop d).enabledLanes then
    match force d l with
    | none => 0
    | some p =>
      if (x.drop d).state = .active then min (256 * p.cap) (min (x.lane d l).credit (256 * p.cap) + p.rate)
      else min (x.lane d l).credit (256 * p.cap)
  else (x.lane d l).credit

theorem Feeder.lane_setLane {x : Feeder} {d e l j : Nat} {r : LaneRecord} (hd : 1 ≤ d) (he : 1 ≤ e) (hl : l < 4)
    (hj : j < 4) : (x.setLane d l r).lane e j = if e = d ∧ j = l then r else x.lane e j := by
  simp [Feeder.lane, Feeder.setLane, Tbl.get_set, laneKey_eq_iff he hd hj hl]

theorem mem_laneNumbers {l : Nat} : l ∈ laneNumbers ↔ l < 4 := by simp [laneNumbers]; omega

theorem DropRecord.mem_enabledLanes {r : DropRecord} {l : Nat} (h : l ∈ r.enabledLanes) : l < 4 := by
  unfold DropRecord.enabledLanes at h
  split at h
  · cases h
  · exact mem_laneNumbers.1 (List.mem_filter.1 h).1

theorem DropRecord.enabledLanes_nodup (r : DropRecord) : r.enabledLanes.Nodup := by
  unfold DropRecord.enabledLanes
  split
  · exact List.nodup_nil
  · exact List.Nodup.filter _ (by decide)

theorem DropRecord.enabledLanes_length (r : DropRecord) : r.enabledLanes.length ≤ 4 := by
  unfold DropRecord.enabledLanes
  split
  · exact Nat.zero_le _
  · exact List.length_filter_le _ _

/-- Crediting distinct lanes of a drop: each takes its new credit, and nothing else moves. -/
theorem creditLanes_spec (credit : Nat → LaneRecord → Nat) {d : Nat} (hd : 1 ≤ d) (lanes : List Nat) (hn : lanes.Nodup)
    (hl : ∀ l ∈ lanes, l < 4) (x : Feeder) :
    ∃ table, lanes.foldl (fun x l => x.setLane d l { x.lane d l with credit := credit l (x.lane d l) }) x =
        { x with lanes := table } ∧
      ∀ e j, 1 ≤ e → j < 4 → ({ x with lanes := table } : Feeder).lane e j =
        if e = d ∧ j ∈ lanes then { x.lane e j with credit := credit j (x.lane e j) } else x.lane e j := by
  induction lanes generalizing x with
  | nil => exact ⟨x.lanes, rfl, fun e j _ _ => by simp⟩
  | cons a lanes ih =>
    obtain ⟨fresh, hn⟩ := List.nodup_cons.1 hn
    have ha : a < 4 := hl a (by simp)
    obtain ⟨table, folded, read⟩ := ih hn (fun l h => hl l (by simp [h]))
      (x.setLane d a { x.lane d a with credit := credit a (x.lane d a) })
    refine ⟨table, folded, fun e j he hj => ?_⟩
    have read := read e j he hj
    rw [Feeder.lane_setLane hd he ha hj] at read
    refine Eq.trans (b := _) read ?_
    by_cases h1 : e = d <;> by_cases h2 : j = a <;> simp [h1, h2, fresh]

/-- Stages 2 and 3 for one drop. -/
theorem creditStage_spec (force : Nat → Nat → Option Profile) (x : Feeder) {d : Nat} (hd : 1 ≤ d) :
    ∃ table, creditStage force x d = { x with lanes := table } ∧
      ∀ e j, 1 ≤ e → j < 4 → ({ x with lanes := table } : Feeder).lane e j =
        if e = d then { x.lane e j with credit := x.credited force e j } else x.lane e j := by
  obtain ⟨table, folded, read⟩ := creditLanes_spec
    (fun l r => if (x.drop d).state = .active then accrue (force d l) (boundCredit (force d l) r.credit)
      else boundCredit (force d l) r.credit) hd _ (x.drop d).enabledLanes_nodup
    (fun l h => DropRecord.mem_enabledLanes h) x
  refine ⟨table, folded, fun e j he hj => ?_⟩
  rw [read e j he hj]
  by_cases h1 : e = d
  · subst h1
    unfold Feeder.credited
    by_cases h2 : j ∈ (x.drop e).enabledLanes
    · simp only [h2, and_self, if_true, boundCredit, accrue]
      cases force e j <;> simp
    · simp [h2]
  · simp [h1]

/-- Stages 2 and 3: the lanes of every drop are credited, and nothing else moves. -/
theorem creditStages_spec (force : Nat → Nat → Option Profile) (l : List Nat) (hn : l.Nodup) (hl : ∀ d ∈ l, 1 ≤ d)
    (x : Feeder) :
    ∃ table, l.foldl (creditStage force) x = { x with lanes := table } ∧
      ∀ e j, 1 ≤ e → j < 4 → ({ x with lanes := table } : Feeder).lane e j =
        if e ∈ l then { x.lane e j with credit := x.credited force e j } else x.lane e j := by
  induction l generalizing x with
  | nil => exact ⟨x.lanes, rfl, fun e j _ _ => by simp⟩
  | cons a l ih =>
    obtain ⟨fresh, hn⟩ := List.nodup_cons.1 hn
    obtain ⟨first, one, readOne⟩ := creditStage_spec force x (hl a (by simp))
    obtain ⟨table, folded, read⟩ := ih hn (fun d h => hl d (by simp [h])) { x with lanes := first }
    refine ⟨table, by rw [List.foldl_cons, one, folded], fun e j he hj => ?_⟩
    refine Eq.trans (b := _) (read e j he hj) ?_
    rw [readOne e j he hj]
    by_cases h1 : e = a
    · subst h1; simp [fresh]
    · have same : ({ x with lanes := first } : Feeder).credited force e j = x.credited force e j := by
        have lane := readOne e j he hj
        rw [if_neg h1] at lane
        simp only [Feeder.credited, lane]
        rfl
      simp [h1, same]

/-! ## Mandatory bursts (R26) -/

theorem sum_filter_or {L : List Nat} (hn : L.Nodup) {d : Nat} (hd : d ∈ L) {p : Nat → Bool} (hp : p d = false)
    (w : Nat → Nat) :
    ((L.filter fun e => p e || decide (e = d)).map w).sum = ((L.filter p).map w).sum + w d := by
  induction L with
  | nil => cases hd
  | cons a L ih =>
    obtain ⟨fresh, hn⟩ := List.nodup_cons.1 hn
    by_cases h : a = d
    · subst h
      have rest : (L.filter fun e => p e || decide (e = a)) = L.filter p :=
        List.filter_congr fun e he => by
          have : e ≠ a := by rintro rfl; exact fresh he
          simp [this]
      simp [hp, rest]
      omega
    · have hd : d ∈ L := by
        rcases List.mem_cons.1 hd with e | e
        · exact absurd e.symm h
        · exact e
      by_cases hpa : p a = true
      · simp [hpa, ih hn hd]
        omega
      · simp only [Bool.not_eq_true] at hpa
        simp [hpa, h, ih hn hd]

theorem dropIndices_nodup : dropIndices.Nodup := by decide

theorem laneKeys_nodup : laneKeys.Nodup := by decide +kernel

theorem overhead_eq (r : DropRecord) : overhead r = 44 + r.enabledLanes.length := rfl

theorem mandatoryFlag_eq_some (t : Settings) (n : CycleNo) (d : Nat) (r : DropRecord) (flag : BurstFlag) :
    mandatoryFlag t n d r = some flag ↔
      (r.state = .active ∧ flag = .poll ∧ t.poll ≤ (n - r.lastPlanned).toNat) ∨
      (r.state = .dozing ∧ flag = .poll ∧ ((n.toNat + d) % t.keepalive = 0 ∨ t.keepalive ≤ (n - r.lastPlanned).toNat)) ∨
      (r.state = .silent ∧ flag = .rouse ∧ t.rouseInterval ≤ (n - r.lastPlanned).toNat) := by
  unfold mandatoryFlag cyclesFrom
  have flags : ∀ (p : Prop) [Decidable p] (f : BurstFlag), (if p then some f else none) = some flag ↔ flag = f ∧ p :=
    fun p _ f => by rw [Option.ite_none_right_eq_some, Option.some.injEq, and_comm, eq_comm]
  dsimp only
  cases state : r.state <;>
    simp only [flags, reduceCtorEq, false_and, or_false, false_or, true_and]

/-- The build before stage 4 and between its drops: only mandatory bursts are open, each once, and the words used are their
overheads. -/
structure Mandatory (capacity : Nat) (x : Feeder) (b : Build) : Prop where
  feeder : b.feeder = x
  issued : b.issued = []
  cut : b.cut = false
  served : b.served = none
  once : (b.opened.map Prod.fst).Nodup
  flagged : ∀ o ∈ b.opened, o.2.isSome = true ∧ o.1 ∈ dropIndices
  used : b.used = ((dropIndices.filter b.isOpen).map fun d => overhead (x.drop d)).sum
  room : b.used ≤ capacity

theorem Build.isOpen_iff {b : Build} {d : Nat} : b.isOpen d = true ↔ d ∈ b.opened.map Prod.fst := by
  simp only [Build.isOpen, List.any_eq_true, decide_eq_true_eq, List.mem_map]

theorem Mandatory.open_one {capacity : Nat} {x : Feeder} {b : Build} (h : Mandatory capacity x b) {d : Nat}
    (hd : d ∈ dropIndices) (fresh : b.isOpen d = false) (flag : BurstFlag)
    (fits : overhead (x.drop d) ≤ capacity - b.used) :
    Mandatory capacity x { b with used := b.used + overhead (x.drop d), opened := b.opened ++ [(d, some flag)] } where
  feeder := h.feeder
  issued := h.issued
  cut := h.cut
  served := h.served
  once := by
    have : d ∉ b.opened.map Prod.fst := fun hd => by simp [Build.isOpen_iff.2 hd] at fresh
    simpa [List.nodup_append, h.once] using fun a flag ha (e : a = d) => this (by simpa using ⟨flag, e ▸ ha⟩)
  flagged o ho := by
    rcases List.mem_append.1 ho with ho | ho
    · exact h.flagged o ho
    · obtain rfl := List.mem_singleton.1 ho
      exact ⟨rfl, hd⟩
  used := by
    have opens : Build.isOpen { b with used := b.used + overhead (x.drop d), opened := b.opened ++ [(d, some flag)] } =
        fun e => b.isOpen e || decide (e = d) := by
      funext e
      simp [Build.isOpen, eq_comm]
    simp only [opens]
    rw [sum_filter_or dropIndices_nodup hd fresh, h.used]
  room := by
    have := h.room
    simp only [overhead_eq] at fits ⊢
    omega

/-- Stage 4 over the drops of a list that are not open yet. -/
theorem mandatoryStages_spec (capacity : Nat) (n : CycleNo) (x : Feeder) (l : List Nat) (hn : l.Nodup)
    (hl : ∀ d ∈ l, d ∈ dropIndices) {b : Build} (h : Mandatory capacity x b) (fresh : ∀ d ∈ l, b.isOpen d = false) :
    Mandatory capacity x (l.foldl (mandatoryStage capacity n) b) ∧
    (b.used + 48 * l.length ≤ capacity → ∀ d flag, (d, some flag) ∈ (l.foldl (mandatoryStage capacity n) b).opened ↔
      (d, some flag) ∈ b.opened ∨ (d ∈ l ∧ mandatoryFlag x.settings n d (x.drop d) = some flag)) := by
  induction l generalizing b with
  | nil => exact ⟨h, fun _ d flag => by simp⟩
  | cons a l ih =>
    obtain ⟨new, hn⟩ := List.nodup_cons.1 hn
    have hl' : ∀ d ∈ l, d ∈ dropIndices := fun d hd => hl d (by simp [hd])
    have small : overhead (x.drop a) ≤ 48 := by
      have := (x.drop a).enabledLanes_length
      simp only [overhead_eq]
      omega
    rw [List.foldl_cons]
    have cases := mandatoryStage_cases capacity n b a
    obtain rfl : b.feeder = x := h.feeder
    obtain ⟨none, same⟩ | ⟨flag, due, ⟨full, same⟩ | ⟨fits, opened⟩⟩ := cases
    · rw [same]
      obtain ⟨m, flags⟩ := ih hn hl' h fun d hd => fresh d (by simp [hd])
      refine ⟨m, fun room d flag => ?_⟩
      rw [flags (by simp only [List.length_cons] at room ⊢; omega)]
      have : d = a → mandatoryFlag b.feeder.settings n d (b.feeder.drop d) ≠ some flag := by rintro rfl; simp [none]
      simp only [List.mem_cons]
      tauto
    · rw [same]
      obtain ⟨m, -⟩ := ih hn hl' h fun d hd => fresh d (by simp [hd])
      refine ⟨m, fun room => ?_⟩
      simp only [List.length_cons] at room
      omega
    · rw [opened]
      obtain ⟨m, flags⟩ := ih hn hl' (h.open_one (hl a (by simp)) (fresh a (by simp)) flag fits) fun d hd => by
        have old := fresh d (by simp [hd])
        have : a ≠ d := by rintro rfl; exact new hd
        simp only [Build.isOpen, List.any_append, List.any_cons, List.any_nil, this] at old ⊢
        simpa using old
      refine ⟨m, fun room d flag' => ?_⟩
      rw [flags (by simp only [List.length_cons] at room ⊢; omega)]
      have : mandatoryFlag b.feeder.settings n d (b.feeder.drop d) = some flag' → d = a → flag' = flag := by
        rintro due' rfl
        exact Option.some.inj (due'.symm.trans due)
      rw [List.mem_append, List.mem_singleton, Prod.mk.injEq, Option.some.injEq, List.mem_cons]
      constructor
      · rintro ((old | ⟨rfl, rfl⟩) | ⟨later, flagged⟩)
        · exact .inl old
        · exact .inr ⟨.inl rfl, due⟩
        · exact .inr ⟨.inr later, flagged⟩
      · rintro (old | ⟨rfl | later, flagged⟩)
        · exact .inl (.inl old)
        · exact .inl (.inr ⟨rfl, this flagged rfl⟩)
        · exact .inr ⟨later, flagged⟩

/-! ## The order of the lanes (R29, R30, R32) -/

theorem filter_activeLanes (x : Feeder) (l : List Nat) (act : Nat → Bool)
    (h : ∀ d, act d = true → (x.drop d).state ≠ .empty) :
    ((l.filter act).flatMap fun d => (x.drop d).enabledLanes.map fun j => (d, j)) =
      (l.flatMap fun d => laneNumbers.map fun j => (d, j)).filter fun k =>
        act k.1 && decide (k.2 ∈ (x.drop k.1).enabledLanes) := by
  induction l with
  | nil => rfl
  | cons d l ih =>
    rw [List.flatMap_cons, List.filter_append, ← ih]
    by_cases ha : act d = true
    · rw [List.filter_cons_of_pos ha, List.flatMap_cons]
      congr 1
      rw [List.filter_map]
      congr 1
      have all : (x.drop d).enabledLanes = laneNumbers.filter fun j => decide ((x.drop d).profiles.get j ≠ 0) := by
        simp only [DropRecord.enabledLanes, if_neg (h d ha)]
      refine Eq.trans all (List.filter_congr fun j hj => ?_)
      simp only [Function.comp, ha, Bool.true_and, all, List.mem_filter, hj, true_and]
      simp
    · rw [List.filter_cons_of_neg ha]
      have : (laneNumbers.map fun j => (d, j)).filter (fun k => act k.1 && decide (k.2 ∈ (x.drop k.1).enabledLanes)) = [] :=
        List.filter_eq_nil_iff.2 fun k hk => by
          obtain ⟨j, -, rfl⟩ := List.mem_map.1 hk
          simp [ha]
      rw [this, List.nil_append]

theorem activeLanes_eq (x : Feeder) : x.activeLanes = laneKeys.filter fun k =>
    decide ((x.drop k.1).state = .active) && decide (k.2 ∈ (x.drop k.1).enabledLanes) :=
  filter_activeLanes x dropIndices (fun d => decide ((x.drop d).state = .active)) fun d h e => by simp [e] at h

/-- The lanes of a class, of those that the stages visit. -/
theorem activeLanes_filter (x : Feeder) (force : Nat → Nat → Option Profile) (c : LaneClass) :
    x.activeLanes.filter (fun k => decide ((force k.1 k.2).map Profile.cls = some c)) = laneKeys.filter (x.inClass force c) := by
  rw [activeLanes_eq, List.filter_filter]
  refine List.filter_congr fun k _ => ?_
  simp only [Feeder.inClass, Bool.and_comm]

theorem laneKeys_map : laneKeys.map (fun k => laneKey k.1 k.2) = List.range' 0 256 := by decide +kernel

theorem take_of_keys {L : List (Nat × Nat)} {s n : Nat} (h : L.map (fun k => laneKey k.1 k.2) = List.range' s n) (p : Nat) :
    L.filter (fun k => decide (laneKey k.1 k.2 < p)) = L.take (p - s) ∧
    L.filter (fun k => !decide (laneKey k.1 k.2 < p)) = L.drop (p - s) := by
  induction L generalizing s n with
  | nil => simp
  | cons k L ih =>
    cases n with
    | zero => simp at h
    | succ n =>
      rw [List.map_cons, List.range'_succ, List.cons.injEq] at h
      obtain ⟨first, rest⟩ := ih h.2
      by_cases hp : s < p
      · obtain ⟨m, hm⟩ : ∃ m, p - s = m + 1 := ⟨p - s - 1, by omega⟩
        have : p - (s + 1) = m := by omega
        simp [h.1, hp, hm, first, rest, this]
      · have zero : p - s = 0 := by omega
        have next : p - (s + 1) = 0 := by omega
        rw [next] at first rest
        simp [h.1, hp, zero, first, rest]

/-- The visit of stage 8, of the SHARED lanes alone. -/
theorem rotated_filter (x : Feeder) (force : Nat → Nat → Option Profile) (c : LaneClass) :
    (rotated x.pointer x.activeLanes).filter (fun k => decide ((force k.1 k.2).map Profile.cls = some c)) =
      (laneKeys.drop (laneKey x.pointer.1 x.pointer.2) ++ laneKeys.take (laneKey x.pointer.1 x.pointer.2)).filter
        (x.inClass force c) := by
  obtain ⟨first, rest⟩ := take_of_keys laneKeys_map (laneKey x.pointer.1 x.pointer.2)
  simp only [Nat.sub_zero] at first rest
  unfold rotated
  rw [← first, ← rest, List.filter_append, List.filter_append]
  congr 1
  all_goals
    rw [List.filter_comm, activeLanes_filter, List.filter_comm]

theorem considered_nodup (x : Feeder) (force : Nat → Nat → Option Profile) : (x.considered force).Nodup := by
  have class_unique : ∀ {c c' k}, x.inClass force c k = true → x.inClass force c' k = true → c = c' := by
    intro c c' k h h'
    simp only [Feeder.inClass, Bool.and_eq_true, decide_eq_true_eq] at h h'
    exact Option.some.inj (h.2.symm.trans h'.2)
  have split : (laneKeys.drop (laneKey x.pointer.1 x.pointer.2) ++
      laneKeys.take (laneKey x.pointer.1 x.pointer.2)).Nodup :=
    (List.perm_append_comm.trans (List.Perm.of_eq (List.take_append_drop _ _))).nodup_iff.2 laneKeys_nodup
  unfold Feeder.considered
  refine List.nodup_append.2 ⟨List.nodup_append.2 ⟨laneKeys_nodup.filter _, laneKeys_nodup.filter _, ?_⟩,
    split.filter _, ?_⟩
  · intro a ha b hb e
    subst e
    cases class_unique (List.mem_filter.1 ha).2 (List.mem_filter.1 hb).2
  · intro a ha b hb e
    subst e
    rcases List.mem_append.1 ha with ha | ha <;> cases class_unique (List.mem_filter.1 ha).2 (List.mem_filter.1 hb).2

theorem mem_laneKeys {k : Nat × Nat} : k ∈ laneKeys ↔ 1 ≤ k.1 ∧ k.1 ≤ 64 ∧ k.2 < 4 := by
  obtain ⟨d, l⟩ := k
  simp only [laneKeys, List.mem_flatMap, mem_dropIndices, List.mem_map, mem_laneNumbers, Prod.mk.injEq]
  constructor
  · rintro ⟨e, ⟨h1, h2⟩, j, hj, rfl, rfl⟩
    exact ⟨h1, h2, hj⟩
  · rintro ⟨h1, h2, h3⟩
    exact ⟨d, ⟨h1, h2⟩, l, h3, rfl, rfl⟩

theorem mem_considered {x : Feeder} {force : Nat → Nat → Option Profile} {k : Nat × Nat} :
    k ∈ x.considered force ↔ k ∈ laneKeys ∧ ∃ c, x.inClass force c k = true := by
  have either : ∀ p, k ∈ laneKeys.drop p ++ laneKeys.take p ↔ k ∈ laneKeys := fun p => by
    rw [List.mem_append, or_comm, ← List.mem_append, List.take_append_drop]
  simp only [Feeder.considered, List.mem_append, List.mem_filter]
  rw [← List.mem_append, either]
  constructor
  · rintro ((⟨h, c⟩ | ⟨h, c⟩) | ⟨h, c⟩) <;> exact ⟨h, _, c⟩
  · rintro ⟨h, c, hc⟩
    cases c
    · exact .inl (.inl ⟨h, hc⟩)
    · exact .inl (.inr ⟨h, hc⟩)
    · exact .inr ⟨h, hc⟩

end Sys2Proof.Machine
end


section
/-! PROOFS. The grants of a build, served lane by lane in the order in which the lanes are considered (R27 to R32). -/

namespace Sys2Proof.Machine

/-! ## One lane served -/

/-- A lane of profile `p` served: a cut noted where a FIXED or ASSURED lane finds less room than its candidate, and the
candidate within the room granted where it is issued. -/
def Build.serve (capacity : Nat) (p : Profile) (k : Nat × Nat) (b : Build) : Build :=
  let whole := (b.feeder.lane k.1 k.2).credit / 256
  let want := if p.cls = .fixed then whole else min (b.feeder.lane k.1 k.2).demand whole
  let g := min want (b.room capacity k.1)
  let c := { b with cut := b.cut || (decide (p.cls ≠ .shared) && decide (b.room capacity k.1 < want)) }
  if issues p (b.feeder.lane k.1 k.2).demand g then
    { c.issue k.1 k.2 g with served := if p.cls = .shared then some k else b.served }
  else c

theorem guaranteedStage_eq (cls : LaneClass) (hc : cls ≠ .shared) (capacity : Nat) (force : Nat → Nat → Option Profile)
    (b : Build) (k : Nat × Nat) :
    ((force k.1 k.2).map Profile.cls ≠ some cls ∧ guaranteedStage cls capacity force b k = b) ∨
    ∃ p, force k.1 k.2 = some p ∧ p.cls = cls ∧ guaranteedStage cls capacity force b k = b.serve capacity p k := by
  obtain ⟨other, same⟩ | ⟨p, whole, g, c, hp, rfl, rfl, rfl, rfl, taken⟩ := guaranteedStage_cases cls capacity force b k
  · refine .inl ⟨fun h => ?_, same⟩
    obtain ⟨p, hp, hc⟩ := Option.map_eq_some_iff.1 h
    exact other p hp hc
  · refine .inr ⟨p, hp, rfl, taken.trans ?_⟩
    simp only [Build.serve, hc, ne_eq, not_false_eq_true, decide_true, Bool.true_and, if_false]
    rfl

theorem sharedStage_eq (capacity : Nat) (force : Nat → Nat → Option Profile) (k : Nat × Nat) (rest : List (Nat × Nat))
    (b : Build) :
    ((force k.1 k.2).map Profile.cls ≠ some .shared ∧
      sharedStage capacity force (k :: rest) b = sharedStage capacity force rest b) ∨
    ∃ p, force k.1 k.2 = some p ∧ p.cls = .shared ∧
      ((b.room capacity k.1 = 0 ∧ sharedStage capacity force (k :: rest) b = b) ∨
       (b.room capacity k.1 ≠ 0 ∧
        sharedStage capacity force (k :: rest) b = sharedStage capacity force rest (b.serve capacity p k))) := by
  obtain ⟨other, same⟩ | ⟨p, hp, hs, none | ⟨g, room, rfl, taken⟩⟩ := sharedStage_cons capacity force k rest b
  · refine .inl ⟨fun h => ?_, same⟩
    obtain ⟨p, hp, hc⟩ := Option.map_eq_some_iff.1 h
    exact other p hp hc
  · exact .inr ⟨p, hp, hs, .inl none⟩
  · refine .inr ⟨p, hp, hs, .inr ⟨room, taken.trans ?_⟩⟩
    simp [Build.serve, hs]

/-! ## What the lanes considered so far determine -/

section
variable {b c : Build} {done : List (Nat × Nat)}

/-- Two builds agree on the lanes of a list: the same mandatory bursts, and the same grants to these lanes. -/
def Build.Agrees (b c : Build) (done : List (Nat × Nat)) : Prop :=
  (∀ d, (b.opened.any fun o => decide (o.1 = d) && o.2.isSome) = c.opened.any fun o => decide (o.1 = d) && o.2.isSome) ∧
  ∀ j ∈ done, b.grantOf j.1 j.2 = c.grantOf j.1 j.2

theorem Build.Agrees.mono {some all : List (Nat × Nat)} (h : b.Agrees c all) (sub : ∀ j ∈ some, j ∈ all) :
    b.Agrees c some :=
  ⟨h.1, fun j hj => h.2 j (sub j hj)⟩

theorem Build.Agrees.openAfter (h : b.Agrees c done) : b.openAfter done = c.openAfter done := by
  funext d
  simp only [Build.openAfter, h.1 d]
  congr 1
  rw [Bool.eq_iff_iff, List.any_eq_true, List.any_eq_true]
  exact exists_congr fun j => and_congr_right fun hj => by rw [h.2 j hj]

theorem Build.Agrees.usedAfter (h : b.Agrees c done) (x : Feeder) : b.usedAfter x done = c.usedAfter x done := by
  simp only [Build.usedAfter, h.openAfter]
  congr 2
  exact List.map_congr_left h.2

theorem Build.Agrees.roomAfter (h : b.Agrees c done) (capacity : Nat) (x : Feeder) (k : Nat × Nat) :
    b.roomAfter capacity x done k = c.roomAfter capacity x done k := by
  simp only [Build.roomAfter, h.usedAfter, h.openAfter]

/-- One lane more opens its drop's burst where it is granted. -/
theorem Build.openAfter_snoc (b : Build) (done : List (Nat × Nat)) (k : Nat × Nat) (d : Nat) :
    b.openAfter (done ++ [k]) d = (b.openAfter done d || (decide (k.1 = d) && decide (b.grantOf k.1 k.2 ≠ 0))) := by
  simp only [Build.openAfter, List.any_append, List.any_cons, List.any_nil, Bool.or_false, Bool.or_assoc]

theorem Build.usedAfter_snoc_zero {k : Nat × Nat} (h : b.grantOf k.1 k.2 = 0) (x : Feeder) :
    b.usedAfter x (done ++ [k]) = b.usedAfter x done := by
  have opens : b.openAfter (done ++ [k]) = b.openAfter done := by
    funext d
    simp [Build.openAfter_snoc, h]
  simp [Build.usedAfter, opens, h]

theorem Build.usedAfter_snoc {k : Nat × Nat} (h : b.grantOf k.1 k.2 ≠ 0) (hk : k.1 ∈ dropIndices) (x : Feeder) :
    b.usedAfter x (done ++ [k]) = b.usedAfter x done +
      (if b.openAfter done k.1 then 0 else 44 + (x.drop k.1).enabledLanes.length) + b.grantOf k.1 k.2 := by
  have opens : b.openAfter (done ++ [k]) = fun d => b.openAfter done d || decide (d = k.1) := by
    funext d
    simp [Build.openAfter_snoc, h, eq_comm]
  simp only [Build.usedAfter, opens, List.map_append, List.map_cons, List.map_nil, List.sum_append, List.sum_singleton]
  cases hd : b.openAfter done k.1
  · rw [sum_filter_or dropIndices_nodup hk hd]
    simp
    omega
  · have same : (fun d => b.openAfter done d || decide (d = k.1)) = b.openAfter done := by
      funext d
      by_cases e : d = k.1
      · subst e; simp [hd]
      · simp [e]
    rw [same]
    simp
    omega

theorem snoc_split {α : Type} {l before after : List α} {a k : α} (h : l ++ [a] = before ++ k :: after) :
    (before = l ∧ k = a ∧ after = []) ∨ ∃ mid, l = before ++ k :: mid ∧ after = mid ++ [a] := by
  rcases List.eq_nil_or_concat after with rfl | ⟨mid, z, rfl⟩
  · obtain ⟨rfl, e⟩ := List.append_inj' h rfl
    exact .inl ⟨rfl, (List.singleton_inj.1 e).symm, rfl⟩
  · rw [List.concat_eq_append] at h ⊢
    rw [← List.cons_append, ← List.append_assoc] at h
    obtain ⟨rfl, e⟩ := List.append_inj' h rfl
    exact .inr ⟨mid, rfl, by rw [List.singleton_inj.1 e]⟩

end

/-! ## The lanes served so far -/

/-- A build after the lanes `done` have been served on a credited feeder with the mandatory bursts of `m`: what it holds
is what these lanes determine. -/
structure Granting (capacity : Nat) (force : Nat → Nat → Option Profile) (x : Feeder) (m : Build)
    (done : List (Nat × Nat)) (b : Build) : Prop where
  feeder : b.feeder = { x with lanes := b.feeder.lanes }
  flags : ∀ d flag, (d, some flag) ∈ b.opened ↔ (d, some flag) ∈ m.opened
  keys : ∀ e ∈ b.issued, e.1 ∈ done
  lanes : ∀ d l, 1 ≤ d → d ≤ 64 → l < 4 → b.feeder.lane d l =
    { x.lane d l with credit := x.credited force d l - 256 * b.grantOf d l
                      outstanding := (x.lane d l).outstanding + b.grantOf d l }
  within : ∀ d l, 256 * b.grantOf d l ≤ x.credited force d l
  opens : ∀ d, b.isOpen d = b.openAfter done d
  used : b.used = b.usedAfter x done
  room : b.used ≤ capacity
  once : (b.opened.map Prod.fst).Nodup
  grants : ∀ before k after p, done = before ++ k :: after → force k.1 k.2 = some p →
    b.grantOf k.1 k.2 = x.grantIn p k (b.roomAfter capacity x before k)
  lit : ∀ before k after, done = before ++ k :: after → x.inClass force .shared k = true →
    b.roomAfter capacity x before k ≠ 0
  cut : b.cut = true ↔ ∃ before k after p, done = before ++ k :: after ∧ force k.1 k.2 = some p ∧ p.cls ≠ .shared ∧
    b.roomAfter capacity x before k < x.candidate p k
  served : (b.served = none ∧ ∀ k ∈ done, x.inClass force .shared k = true → b.grantOf k.1 k.2 = 0) ∨
    ∃ before k after, b.served = some k ∧ done = before ++ k :: after ∧ x.inClass force .shared k = true ∧
      b.grantOf k.1 k.2 ≠ 0 ∧ ∀ j ∈ after, x.inClass force .shared j = true → b.grantOf j.1 j.2 = 0

section
variable {capacity : Nat} {force : Nat → Nat → Option Profile} {x : Feeder} {m : Build} {done : List (Nat × Nat)} {b : Build}

theorem Granting.drop (h : Granting capacity force x m done b) (d : Nat) : b.feeder.drop d = x.drop d := by
  rw [h.feeder]; rfl

/-- The room that a lane finds is what the lanes before it leave. -/
theorem Granting.room_eq (h : Granting capacity force x m done b) (k : Nat × Nat) :
    b.room capacity k.1 = b.roomAfter capacity x done k := by
  simp only [Build.room, Build.roomAfter, h.opens, h.used, h.drop, overhead_eq]

theorem inClass_iff {c : LaneClass} {k : Nat × Nat} : x.inClass force c k = true ↔
    (x.drop k.1).state = .active ∧ k.2 ∈ (x.drop k.1).enabledLanes ∧ ∃ p, force k.1 k.2 = some p ∧ p.cls = c := by
  simp [Feeder.inClass, and_assoc]

/-- A lane not granted yet has its credited credit and its demand. -/
theorem Granting.fresh (h : Granting capacity force x m done b) {k : Nat × Nat} (hk : k ∈ laneKeys) (new : k ∉ done) :
    b.grantOf k.1 k.2 = 0 ∧ (b.feeder.lane k.1 k.2).credit = x.credited force k.1 k.2 ∧
      (b.feeder.lane k.1 k.2).demand = x.demandOf k := by
  have none : b.grantOf k.1 k.2 = 0 := Build.grantOf_of_not_issued fun e he hek => new (by simpa [hek] using h.keys e he)
  obtain ⟨h1, h64, h2⟩ := mem_laneKeys.1 hk
  refine ⟨none, ?_, ?_⟩ <;> simp [h.lanes k.1 k.2 h1 h64 h2, none, LaneRecord.demand, Feeder.demandOf]

/-- What a served lane wants is its candidate. -/
theorem Granting.want_eq (h : Granting capacity force x m done b) {k : Nat × Nat} {p : Profile} (hk : k ∈ laneKeys)
    (new : k ∉ done) (active : (x.drop k.1).state = .active) (enabled : k.2 ∈ (x.drop k.1).enabledLanes)
    (hp : force k.1 k.2 = some p) :
    (if p.cls = .fixed then (b.feeder.lane k.1 k.2).credit / 256
      else min (b.feeder.lane k.1 k.2).demand ((b.feeder.lane k.1 k.2).credit / 256)) = x.candidate p k := by
  obtain ⟨-, credit, demand⟩ := h.fresh hk new
  rw [credit, demand]
  simp [Feeder.candidate, Feeder.credited, enabled, hp, active]

/-- What is issued of a candidate within a room is R31's grant. -/
theorem grantIn_eq (x : Feeder) (p : Profile) (k : Nat × Nat) (room : Nat) :
    x.grantIn p k room = if issues p (x.demandOf k) (min (x.candidate p k) room) then min (x.candidate p k) room else 0 := by
  simp only [Feeder.grantIn, issues]
  by_cases fixed : p.cls = .fixed
  · simp only [fixed, true_or, if_true, decide_eq_true_eq]
    split <;> omega
  · simp only [fixed, false_or, if_false, Bool.or_eq_true, decide_eq_true_eq, Bool.and_eq_true]
    refine if_congr (or_congr Iff.rfl (and_congr_right fun e => by omega)) rfl rfl

/-- A grant that is issued is not 0, with minimum grants of 1 at least (R16, R31). -/
theorem issues_pos {p : Profile} {q g : Nat} (min : 1 ≤ p.minGrant) (h : issues p q g = true) : 1 ≤ g := by
  unfold issues at h
  split at h <;> simp at h <;> omega

theorem candidate_le_credited {k : Nat × Nat} {p : Profile} (active : (x.drop k.1).state = .active)
    (enabled : k.2 ∈ (x.drop k.1).enabledLanes) (hp : force k.1 k.2 = some p) :
    256 * x.candidate p k ≤ x.credited force k.1 k.2 := by
  simp only [Feeder.candidate, Feeder.credited, enabled, hp, active, if_true]
  split <;> omega

/-- What serving lane `k` with `g` words granted, 0 where none are, does to a build. -/
structure ServesOne (g : Nat) (p : Profile) (k : Nat × Nat) (short : Bool) (b c : Build) : Prop where
  feeder : c.feeder = { b.feeder with lanes := c.feeder.lanes }
  keys : ∀ e ∈ c.issued, e ∈ b.issued ∨ e.1 = k
  grantOf : ∀ d l, c.grantOf d l = if d = k.1 ∧ l = k.2 then g else b.grantOf d l
  lanes : ∀ d l, 1 ≤ d → l < 4 → c.feeder.lane d l = if d = k.1 ∧ l = k.2 then
    { b.feeder.lane d l with credit := (b.feeder.lane d l).credit - 256 * g
                             outstanding := (b.feeder.lane d l).outstanding + g } else b.feeder.lane d l
  opens : ∀ d, c.isOpen d = (b.isOpen d || (decide (k.1 = d) && decide (g ≠ 0)))
  flagged : ∀ d, (c.opened.any fun o => decide (o.1 = d) && o.2.isSome) =
    b.opened.any fun o => decide (o.1 = d) && o.2.isSome
  flags : ∀ d flag, (d, some flag) ∈ c.opened ↔ (d, some flag) ∈ b.opened
  once : (b.opened.map Prod.fst).Nodup → (c.opened.map Prod.fst).Nodup
  used : c.used = if g = 0 then b.used else
    b.used + (if b.isOpen k.1 then 0 else overhead (b.feeder.drop k.1)) + g
  cut : c.cut = (b.cut || (decide (p.cls ≠ .shared) && short))
  served : c.served = if g ≠ 0 ∧ p.cls = .shared then some k else b.served

theorem Granting.serves (h : Granting capacity force x m done b) {c : LaneClass} {k : Nat × Nat} {p : Profile}
    (hk : k ∈ laneKeys) (new : k ∉ done) (hc : x.inClass force c k = true) (hp : force k.1 k.2 = some p)
    (min : 1 ≤ p.minGrant) :
    ServesOne (x.grantIn p k (b.room capacity k.1)) p k (decide (b.room capacity k.1 < x.candidate p k)) b
      (b.serve capacity p k) := by
  obtain ⟨active, enabled, -⟩ := inClass_iff.1 hc
  obtain ⟨none, -, demand⟩ := h.fresh hk new
  obtain ⟨h1, -, h4⟩ := mem_laneKeys.1 hk
  have unissued : ∀ e ∈ b.issued, e.1 ≠ (k.1, k.2) := fun e he hek => new (by simpa [hek] using h.keys e he)
  unfold Build.serve
  dsimp only
  rw [h.want_eq hk new active enabled hp, demand, grantIn_eq]
  generalize hg : Min.min (x.candidate p k) (b.room capacity k.1) = g
  by_cases issued : issues p (x.demandOf k) g = true
  · have pos : g ≠ 0 := by have := issues_pos min issued; omega
    rw [if_pos issued, if_pos issued]
    constructor
    case feeder => rfl
    case keys => simp +contextual [or_imp]
    case grantOf => exact fun d l => Build.grantOf_issue b k.1 k.2 g d l unissued
    case lanes =>
      intro d l hd hl
      refine (Build.issue_lane b k.1 k.2 g d l).trans ?_
      simp only [laneKey_eq_iff hd h1 hl h4]
      by_cases e : d = k.1 ∧ l = k.2
      · simp [e]
      · simp [e]
    case opens => exact fun d => (Build.isOpen_issue b k.1 k.2 g d).trans (by simp [pos, eq_comm])
    case flagged =>
      intro d
      simp only [Build.issue_opened]
      split <;> simp
    case flags =>
      intro d flag
      simp only [Build.issue_opened]
      split <;> simp
    case once =>
      intro old
      simp only [Build.issue_opened]
      split
      · exact old
      next closed =>
        have : k.1 ∉ b.opened.map Prod.fst := fun hd => closed (Build.isOpen_iff.2 hd)
        simpa [List.nodup_append, old] using fun a flag ha (e : a = k.1) => this (by simpa using ⟨flag, e ▸ ha⟩)
    case used => rw [if_neg pos]; exact Build.issue_used b k.1 k.2 g
    case cut => rfl
    case served => simp [pos]
  · rw [if_neg issued, if_neg issued]
    constructor
    case feeder => rfl
    case keys => exact fun e he => .inl he
    case grantOf =>
      intro d l
      split
      next e => rw [e.1, e.2]; exact none
      next => rfl
    case lanes => intro d l _ _; simp
    case opens => simp [Build.isOpen]
    case flagged => exact fun _ => rfl
    case flags => exact fun _ _ => Iff.rfl
    case once => exact id
    case used => rfl
    case cut => rfl
    case served => simp

/-- Serving the next lane adds it to the lanes served. -/
theorem Granting.serve (h : Granting capacity force x m done b) {c : LaneClass} {k : Nat × Nat} {p : Profile}
    (hk : k ∈ laneKeys) (new : k ∉ done) (hc : x.inClass force c k = true) (hp : force k.1 k.2 = some p)
    (min : 1 ≤ p.minGrant) (lit : p.cls = .shared → b.room capacity k.1 ≠ 0) :
    Granting capacity force x m (done ++ [k]) (b.serve capacity p k) := by
  have step := h.serves hk new hc hp min
  obtain ⟨active, enabled, -⟩ := inClass_iff.1 hc
  obtain ⟨h1, h64, h4⟩ := mem_laneKeys.1 hk
  obtain ⟨none, -, -⟩ := h.fresh hk new
  have index : k.1 ∈ dropIndices := mem_dropIndices.2 ⟨h1, h64⟩
  have shared_iff : x.inClass force .shared k = true ↔ p.cls = .shared := by simp [inClass_iff, active, enabled, hp]
  rw [h.room_eq] at step lit
  generalize hg : x.grantIn p k (b.roomAfter capacity x done k) = g at step
  generalize b.serve capacity p k = b' at step
  have mine : b'.grantOf k.1 k.2 = g := by simp [step.grantOf]
  have others : ∀ j, j ≠ k → b'.grantOf j.1 j.2 = b.grantOf j.1 j.2 := fun j hj => by
    rw [step.grantOf, if_neg fun e => hj (Prod.ext e.1 e.2)]
  have agrees : b'.Agrees b done := ⟨step.flagged, fun j hj => others j fun e => new (e ▸ hj)⟩
  have before_agrees : ∀ {before mid j}, done = before ++ j :: mid → b'.Agrees b before := fun e =>
    agrees.mono fun a ha => by simp [e, ha]
  have fits : g ≠ 0 → b.used + (if b.isOpen k.1 then 0 else overhead (b.feeder.drop k.1)) + g ≤ capacity := by
    have room := h.room_eq (capacity := capacity) k
    have bound : g ≤ b.room capacity k.1 := by
      rw [← hg, room, grantIn_eq]
      split <;> omega
    unfold Build.room at bound
    omega
  constructor
  case feeder =>
    refine step.feeder.trans ?_
    rw [h.feeder]
  case flags => exact fun d flag => (step.flags d flag).trans (h.flags d flag)
  case keys =>
    intro e he
    rcases step.keys e he with he | he
    · exact List.mem_append_left _ (h.keys e he)
    · simp [he]
  case lanes =>
    intro d l hd hd' hl
    rw [step.lanes d l hd hl, step.grantOf, h.lanes d l hd hd' hl]
    by_cases e : d = k.1 ∧ l = k.2
    · rw [if_pos e, if_pos e, e.1, e.2, none]
      simp
    · rw [if_neg e, if_neg e]
  case within =>
    intro d l
    rw [step.grantOf]
    by_cases e : d = k.1 ∧ l = k.2
    · rw [if_pos e, e.1, e.2]
      have := candidate_le_credited active enabled hp
      have : g ≤ x.candidate p k := by
        rw [← hg, grantIn_eq]
        split <;> omega
      omega
    · rw [if_neg e]
      exact h.within d l
  case opens =>
    intro d
    rw [step.opens, h.opens, Build.openAfter_snoc, mine, agrees.openAfter]
  case used =>
    rw [step.used]
    by_cases zero : g = 0
    · rw [if_pos zero, Build.usedAfter_snoc_zero (by rw [mine, zero]), agrees.usedAfter, h.used]
    · rw [if_neg zero, Build.usedAfter_snoc (by rw [mine]; exact zero) index, agrees.usedAfter, agrees.openAfter, mine,
        h.used, h.opens, h.drop, overhead_eq]
  case room =>
    rw [step.used]
    split
    · exact h.room
    next pos => exact fits pos
  case once => exact step.once h.once
  case grants =>
    intro before j after q split hq
    obtain ⟨rfl, rfl, rfl⟩ | ⟨mid, rfl, rfl⟩ := snoc_split split
    · obtain rfl : p = q := Option.some.inj (hp.symm.trans hq)
      rw [mine, agrees.roomAfter, hg]
    · rw [others j fun e => new (by simp [e]), (before_agrees rfl).roomAfter]
      exact h.grants before j mid q rfl hq
  case lit =>
    intro before j after split hj
    obtain ⟨rfl, rfl, rfl⟩ | ⟨mid, rfl, rfl⟩ := snoc_split split
    · rw [agrees.roomAfter]
      exact lit (shared_iff.1 hj)
    · rw [(before_agrees rfl).roomAfter]
      exact h.lit before j mid rfl hj
  case cut =>
    rw [step.cut, Bool.or_eq_true, h.cut]
    constructor
    · rintro (⟨before, j, mid, q, rfl, hq, hs, short⟩ | short)
      · exact ⟨before, j, mid ++ [k], q, by simp, hq, hs, by rwa [(before_agrees rfl).roomAfter]⟩
      · simp only [Bool.and_eq_true, decide_eq_true_eq] at short
        exact ⟨done, k, [], p, rfl, hp, short.1, by rw [agrees.roomAfter]; exact short.2⟩
    · rintro ⟨before, j, after, q, split, hq, hs, short⟩
      obtain ⟨rfl, rfl, rfl⟩ | ⟨mid, rfl, rfl⟩ := snoc_split split
      · obtain rfl : p = q := Option.some.inj (hp.symm.trans hq)
        rw [agrees.roomAfter] at short
        exact .inr (by simp [hs, short])
      · rw [(before_agrees rfl).roomAfter] at short
        exact .inl ⟨before, j, mid, q, rfl, hq, hs, short⟩
  case served =>
    rw [step.served]
    by_cases last : g ≠ 0 ∧ p.cls = .shared
    · rw [if_pos last]
      exact .inr ⟨done, k, [], rfl, rfl, shared_iff.2 last.2, by rw [mine]; exact last.1, by simp⟩
    · rw [if_neg last]
      have idle : x.inClass force .shared k = true → b'.grantOf k.1 k.2 = 0 := fun s => by
        rw [mine]
        by_contra pos
        exact last ⟨pos, shared_iff.1 s⟩
      obtain ⟨hn, zero⟩ | ⟨before, j, after, hs, rfl, shared, pos, zero⟩ := h.served
      · refine .inl ⟨hn, fun a ha s => ?_⟩
        rcases List.mem_append.1 ha with ha | ha
        · rw [others a fun e => new (e ▸ ha)]
          exact zero a ha s
        · obtain rfl := List.mem_singleton.1 ha
          exact idle s
      · refine .inr ⟨before, j, after ++ [k], hs, by simp, shared, ?_, fun a ha s => ?_⟩
        · rwa [others j fun e => new (by simp [e])]
        · rcases List.mem_append.1 ha with ha | ha
          · rw [others a fun e => new (by simp [← e, ha])]
            exact zero a ha s
          · obtain rfl := List.mem_singleton.1 ha
            exact idle s

end

end Sys2Proof.Machine
end


section
/-! PROOFS. The grants of a whole build (R22 to R34). -/

namespace Sys2Proof.Machine

section
variable {capacity : Nat} {force : Nat → Nat → Option Profile} {x : Feeder} {m : Build} {done : List (Nat × Nat)} {b : Build}

/-- The lanes of a class that a list names. -/
def ofClass (force : Nat → Nat → Option Profile) (c : LaneClass) (l : List (Nat × Nat)) : List (Nat × Nat) :=
  l.filter fun k => decide ((force k.1 k.2).map Profile.cls = some c)

theorem inClass_of_active {c : LaneClass} {k : Nat × Nat} (hk : k ∈ x.activeLanes)
    (hc : (force k.1 k.2).map Profile.cls = some c) : x.inClass force c k = true := by
  rw [activeLanes_eq, List.mem_filter] at hk
  simpa [Feeder.inClass, hc] using hk.2

/-- Stage 6 or 7 over the lanes of a list serves those of its class. -/
theorem Granting.guaranteed (min : ∀ d l p, force d l = some p → 1 ≤ p.minGrant) (cls : LaneClass) (hc : cls ≠ .shared)
    (l : List (Nat × Nat)) (hl : ∀ k ∈ l, k ∈ x.activeLanes ∧ k ∈ laneKeys) (h : Granting capacity force x m done b)
    (new : (done ++ ofClass force cls l).Nodup) :
    Granting capacity force x m (done ++ ofClass force cls l) (l.foldl (guaranteedStage cls capacity force) b) := by
  induction l generalizing done b with
  | nil => simpa [ofClass] using h
  | cons k l ih =>
    have hl' : ∀ k ∈ l, k ∈ x.activeLanes ∧ k ∈ laneKeys := fun j hj => hl j (by simp [hj])
    rw [List.foldl_cons]
    obtain ⟨other, same⟩ | ⟨p, hp, rfl, served⟩ := guaranteedStage_eq cls hc capacity force b k
    · have skip : ofClass force cls (k :: l) = ofClass force cls l := List.filter_cons_of_neg (by simpa using other)
      rw [skip] at new ⊢
      rw [same]
      exact ih hl' h new
    · have cls : (force k.1 k.2).map Profile.cls = some p.cls := by rw [hp]; rfl
      have take : ofClass force p.cls (k :: l) = k :: ofClass force p.cls l := List.filter_cons_of_pos (by simpa using cls)
      rw [take, List.append_cons] at new ⊢
      have fresh : k ∉ done := fun hk => by
        have := (List.nodup_append.1 (List.nodup_append.1 new).1).2.2 k hk k (by simp)
        exact this rfl
      rw [served]
      exact ih hl' (h.serve (hl k (by simp)).2 fresh (inClass_of_active (hl k (by simp)).1 cls) hp (min _ _ p hp)
        fun s => absurd s hc) new

/-- Stage 8 over a visit serves its SHARED lanes up to the first that finds no room. -/
theorem Granting.shared (min : ∀ d l p, force d l = some p → 1 ≤ p.minGrant)
    (l : List (Nat × Nat)) (hl : ∀ k ∈ l, k ∈ x.activeLanes ∧ k ∈ laneKeys) (h : Granting capacity force x m done b)
    (new : (done ++ ofClass force .shared l).Nodup) :
    ∃ first rest, ofClass force .shared l = first ++ rest ∧
      Granting capacity force x m (done ++ first) (sharedStage capacity force l b) ∧
      ∀ j ∈ rest.head?, (sharedStage capacity force l b).roomAfter capacity x (done ++ first) j = 0 := by
  induction l generalizing done b with
  | nil => exact ⟨[], [], rfl, by simpa [sharedStage] using h, by simp⟩
  | cons k l ih =>
    have hl' : ∀ k ∈ l, k ∈ x.activeLanes ∧ k ∈ laneKeys := fun j hj => hl j (by simp [hj])
    obtain ⟨other, same⟩ | ⟨p, hp, shared, stops⟩ := sharedStage_eq capacity force k l b
    · have skip : ofClass force .shared (k :: l) = ofClass force .shared l :=
        List.filter_cons_of_neg (by simpa using other)
      rw [skip] at new ⊢
      rw [same]
      exact ih hl' h new
    · have cls : (force k.1 k.2).map Profile.cls = some .shared := by rw [hp, ← shared]; rfl
      have take : ofClass force .shared (k :: l) = k :: ofClass force .shared l :=
        List.filter_cons_of_pos (by simpa using cls)
      rw [take] at new ⊢
      obtain ⟨full, same⟩ | ⟨room, served⟩ := stops
      · refine ⟨[], _, rfl, by simpa [same] using h, ?_⟩
        simpa [same, ← h.room_eq] using full
      · rw [List.append_cons] at new
        have fresh : k ∉ done := fun hk => by
          have := (List.nodup_append.1 (List.nodup_append.1 new).1).2.2 k hk k (by simp)
          exact this rfl
        obtain ⟨first, rest, split, granting, stop⟩ := ih hl' (h.serve (hl k (by simp)).2 fresh
          (inClass_of_active (hl k (by simp)).1 cls) hp (min _ _ p hp) fun _ => room) new
        rw [served]
        exact ⟨k :: first, rest, by rw [split]; rfl, by simpa using granting, by simpa using stop⟩

/-! ## The stages of a build in turn -/

/-- The feeder once stages 2 and 3 have credited its lanes. -/
def Feeder.creditAll (force : Nat → Nat → Option Profile) (x : Feeder) : Feeder := dropIndices.foldl (creditStage force) x

theorem Feeder.creditAll_spec (force : Nat → Nat → Option Profile) (x : Feeder) :
    ∃ table, x.creditAll force = { x with lanes := table } ∧
      ∀ e j, 1 ≤ e → e ≤ 64 → j < 4 → ({ x with lanes := table } : Feeder).lane e j =
        { x.lane e j with credit := x.credited force e j } := by
  obtain ⟨table, folded, read⟩ := creditStages_spec force dropIndices dropIndices_nodup
    (fun d hd => (mem_dropIndices.1 hd).1) x
  refine ⟨table, folded, fun e j h1 h2 hj => ?_⟩
  rw [read e j h1 hj, if_pos (mem_dropIndices.2 ⟨h1, h2⟩)]

/-- The build once stage 4 has opened the mandatory bursts. -/
def mandatoryBuild (capacity : Nat) (n : CycleNo) (x : Feeder) : Build :=
  dropIndices.foldl (mandatoryStage capacity n) ⟨x, 0, [], [], false, none⟩

theorem mandatoryBuild_spec (capacity : Nat) (n : CycleNo) (x : Feeder) :
    Mandatory capacity x (mandatoryBuild capacity n x) ∧
    (3072 ≤ capacity → ∀ d flag, (d, some flag) ∈ (mandatoryBuild capacity n x).opened ↔
      d ∈ dropIndices ∧ mandatoryFlag x.settings n d (x.drop d) = some flag) := by
  have start : Mandatory capacity x ⟨x, 0, [], [], false, none⟩ :=
    ⟨rfl, rfl, rfl, rfl, List.nodup_nil, by simp,
      by rw [List.filter_eq_nil_iff.2 (by simp [Build.isOpen])]; rfl, Nat.zero_le _⟩
  obtain ⟨m, flags⟩ := mandatoryStages_spec capacity n x dropIndices dropIndices_nodup (fun d h => h) start
    (by simp [Build.isOpen])
  exact ⟨m, fun room d flag => (flags (by simpa [dropIndices] using room) d flag).trans (by simp)⟩

/-- The feeder's lanes credited and its mandatory bursts open, no lane is served yet. -/
theorem granting_start (capacity : Nat) (n : CycleNo) (force : Nat → Nat → Option Profile) (x : Feeder) :
    Granting capacity force x (mandatoryBuild capacity n (x.creditAll force)) []
      (mandatoryBuild capacity n (x.creditAll force)) := by
  obtain ⟨table, credited, read⟩ := x.creditAll_spec force
  have h := (mandatoryBuild_spec capacity n (x.creditAll force)).1
  generalize mandatoryBuild capacity n (x.creditAll force) = b at h
  have zero : ∀ d l, b.grantOf d l = 0 := fun d l => Build.grantOf_of_not_issued (by simp [h.issued])
  have opens : ∀ d, b.isOpen d = b.openAfter [] d := fun d => by
    simp only [Build.isOpen, Build.openAfter, List.any_nil, Bool.or_false]
    rw [Bool.eq_iff_iff, List.any_eq_true, List.any_eq_true]
    exact exists_congr fun o => and_congr_right fun ho => by simp [(h.flagged o ho).1]
  constructor
  case feeder => rw [h.feeder, credited]
  case flags => exact fun _ _ => Iff.rfl
  case keys => simp [h.issued]
  case lanes =>
    intro d l h1 h2 hl
    rw [h.feeder, credited, read d l h1 h2 hl, zero]
    simp
  case within => simp [zero]
  case opens => exact opens
  case used =>
    rw [h.used, show b.isOpen = b.openAfter [] from funext opens, credited]
    simp [Build.usedAfter, overhead_eq]
    rfl
  case room => exact h.room
  case once => exact h.once
  case grants => intro before k after p split; simp at split
  case lit => intro before k after split; simp at split
  case cut => simp [h.cut]
  case served => exact .inl ⟨h.served, by simp⟩

/-- The build with the rotation pointer behind the last SHARED lane granted (R33). -/
def Build.pointed (c : Build) : Build :=
  { c with feeder := { c.feeder with pointer := (c.served.map nextLaneKey).getD c.feeder.pointer } }

theorem Build.pointed_none {c : Build} (h : c.served = none) : c.pointed = c := by
  cases c; cases h; rfl

theorem Build.pointed_some {c : Build} {k : Nat × Nat} (h : c.served = some k) :
    c.pointed = { c with feeder := { c.feeder with pointer := nextLaneKey k } } := by
  cases c; cases h; rfl

/-- The stages of a build, one after another. -/
def stagesOf (capacity : Nat) (n : CycleNo) (force : Nat → Nat → Option Profile) (x : Feeder) : Build :=
  sharedStage capacity force (rotated x.pointer x.activeLanes)
    (x.activeLanes.foldl (guaranteedStage .assured capacity force)
      (x.activeLanes.foldl (guaranteedStage .fixed capacity force) (mandatoryBuild capacity n (x.creditAll force))))

theorem buildGrants_stages (capacity : Nat) (n : CycleNo) (force : Nat → Nat → Option Profile) (x : Feeder) :
    buildGrants capacity n force x = (stagesOf capacity n force x).pointed := by
  obtain ⟨table, credited, -⟩ := x.creditAll_spec force
  have lanes : (x.creditAll force).activeLanes = x.activeLanes := by rw [credited]; rfl
  have pointer : (x.creditAll force).pointer = x.pointer := by rw [credited]
  unfold buildGrants stagesOf
  dsimp only
  rw [show dropIndices.foldl (creditStage force) x = x.creditAll force from rfl, lanes, pointer]
  rw [show dropIndices.foldl (mandatoryStage capacity n) ⟨x.creditAll force, 0, [], [], false, none⟩ =
    mandatoryBuild capacity n (x.creditAll force) from rfl]
  split
  · next none => exact (Build.pointed_none none).symm
  · next some => exact (Build.pointed_some some).symm

/-- The grants of a build: the lanes considered are served in their order up to the first SHARED lane that finds no room,
and the pointer follows the last SHARED lane granted. -/
theorem buildGrants_spec (capacity : Nat) (n : CycleNo) (force : Nat → Nat → Option Profile) (x : Feeder)
    (min : ∀ d l p, force d l = some p → 1 ≤ p.minGrant) :
    ∃ (done rest : List (Nat × Nat)) (c : Build), x.considered force = done ++ rest ∧
      (∀ j ∈ rest, x.inClass force .shared j = true) ∧
      Granting capacity force x (mandatoryBuild capacity n (x.creditAll force)) done c ∧
      (∀ j ∈ rest.head?, c.roomAfter capacity x done j = 0) ∧
      buildGrants capacity n force x = c.pointed := by
  have start := granting_start capacity n force x
  have known : ∀ k ∈ x.activeLanes, k ∈ x.activeLanes ∧ k ∈ laneKeys := fun k hk =>
    ⟨hk, by rw [activeLanes_eq] at hk; exact (List.mem_filter.1 hk).1⟩
  have visited : ∀ k ∈ rotated x.pointer x.activeLanes, k ∈ x.activeLanes ∧ k ∈ laneKeys := fun k hk => by
    refine known k ?_
    rcases List.mem_append.1 hk with hk | hk <;> exact (List.mem_filter.1 hk).1
  have order : x.considered force = ofClass force .fixed x.activeLanes ++ ofClass force .assured x.activeLanes ++
      ofClass force .shared (rotated x.pointer x.activeLanes) := by
    simp only [ofClass, activeLanes_filter, rotated_filter, Feeder.considered]
  have once := considered_nodup x force
  rw [order] at once
  have guaranteed := (start.guaranteed min .fixed (by decide) x.activeLanes known
    (by simpa using (List.nodup_append.1 (List.nodup_append.1 once).1).1)).guaranteed min .assured (by decide)
    x.activeLanes known (by simpa using (List.nodup_append.1 once).1)
  obtain ⟨first, rest, split, granting, stop⟩ := guaranteed.shared min (rotated x.pointer x.activeLanes) visited
    (by simpa using once)
  rw [List.nil_append] at granting stop
  refine ⟨_, rest, _, by rw [order, split, ← List.append_assoc], fun j hj => ?_, granting, stop, ?_⟩
  · have mem : j ∈ ofClass force .shared (rotated x.pointer x.activeLanes) := by rw [split]; simp [hj]
    obtain ⟨mem, cls⟩ := List.mem_filter.1 mem
    exact inClass_of_active (visited j mem).1 (by simpa using cls)
  · exact buildGrants_stages capacity n force x

end

end Sys2Proof.Machine
end


section
/-! PROOFS. What the grants of a build keep to (R22 to R34): credit, demand, minimum grant, room, order and pointer. -/

namespace Sys2Proof.Machine

/-! ## The lanes considered, and those that stage 8 did not come to -/

/-- A finished build's grants: the lanes considered are served up to the first SHARED lane that finds no room. -/
structure Granted (capacity : Nat) (force : Nat → Nat → Option Profile) (x : Feeder) (m : Build)
    (done rest : List (Nat × Nat)) (c : Build) : Prop where
  considered : x.considered force = done ++ rest
  left : ∀ j ∈ rest, x.inClass force .shared j = true
  granting : Granting capacity force x m done c
  stop : ∀ j ∈ rest.head?, c.roomAfter capacity x done j = 0

section
variable {capacity : Nat} {force : Nat → Nat → Option Profile} {x : Feeder} {m : Build} {done rest : List (Nat × Nat)}
  {c : Build}

theorem Granted.nodup (h : Granted capacity force x m done rest c) : (done ++ rest).Nodup :=
  h.considered ▸ considered_nodup x force

theorem Granted.left_zero (h : Granted capacity force x m done rest c) : ∀ j ∈ rest, c.grantOf j.1 j.2 = 0 := fun j hj =>
  Build.grantOf_of_not_issued fun e he hej =>
    (List.nodup_append.1 h.nodup).2.2 e.1 (h.granting.keys e he) j hj (by rw [hej])

theorem Build.openAfter_append_zero {c : Build} {done rest : List (Nat × Nat)} (h : ∀ j ∈ rest, c.grantOf j.1 j.2 = 0) :
    c.openAfter (done ++ rest) = c.openAfter done := by
  induction rest generalizing done with
  | nil => rw [List.append_nil]
  | cons j rest ih =>
    rw [List.append_cons, ih fun i hi => h i (by simp [hi])]
    funext d
    simp [Build.openAfter_snoc, h j (by simp)]

theorem Build.usedAfter_append_zero {c : Build} {done rest : List (Nat × Nat)} (h : ∀ j ∈ rest, c.grantOf j.1 j.2 = 0)
    (x : Feeder) : c.usedAfter x (done ++ rest) = c.usedAfter x done := by
  induction rest generalizing done with
  | nil => rw [List.append_nil]
  | cons j rest ih =>
    rw [List.append_cons, ih fun i hi => h i (by simp [hi]), Build.usedAfter_snoc_zero (h j (by simp))]

/-- A place in the lanes considered is one in those served, or behind all of these. -/
theorem Granted.place (h : Granted capacity force x m done rest c) {before after : List (Nat × Nat)} {k : Nat × Nat}
    (split : x.considered force = before ++ k :: after) :
    (∃ mid, done = before ++ k :: mid ∧ after = mid ++ rest) ∨ (∃ mid, before = done ++ mid ∧ rest = mid ++ k :: after) := by
  rw [h.considered] at split
  obtain ⟨mid, h1, h2⟩ | ⟨mid, h1, h2⟩ := List.append_eq_append_iff.1 split
  · exact .inr ⟨mid, h1, h2⟩
  · cases mid with
    | nil => exact .inr ⟨[], by simpa using h1.symm, by simpa using h2.symm⟩
    | cons j mid =>
      obtain ⟨rfl, rfl⟩ := List.cons.inj h2
      exact .inl ⟨mid, h1, rfl⟩

/-- A SHARED lane up to here found no room: those from it on are given nothing. -/
def Build.ended (c : Build) (capacity : Nat) (force : Nat → Nat → Option Profile) (x : Feeder) (upTo : List (Nat × Nat)) :
    Prop :=
  ∃ before after j, upTo = before ++ j :: after ∧ x.inClass force .shared j = true ∧ c.roomAfter capacity x before j = 0

/-- The lanes served are those before any end of stage 8. -/
theorem Granted.ended_iff (h : Granted capacity force x m done rest c) {before after : List (Nat × Nat)} {k : Nat × Nat}
    (split : x.considered force = before ++ k :: after) :
    (c.ended capacity force x (before ++ [k]) ∧ k ∈ rest) ∨
    (¬ c.ended capacity force x (before ++ [k]) ∧ ∃ mid, done = before ++ k :: mid) := by
  obtain ⟨mid, rfl, -⟩ | ⟨mid, rfl, rfl⟩ := h.place split
  · refine .inr ⟨?_, mid, rfl⟩
    rintro ⟨first, later, j, at_j, shared, full⟩
    refine h.granting.lit first j (later ++ mid) ?_ shared full
    rw [List.append_cons, at_j, List.append_assoc, List.cons_append]
  · refine .inl ⟨?_, by simp⟩
    cases mid with
    | nil => exact ⟨done, [], k, by simp, h.left k (by simp), h.stop k (by simp)⟩
    | cons j mid => exact ⟨done, mid ++ [k], j, by simp, h.left j (by simp), h.stop j (by simp)⟩

/-- A lane's grant is what the room before it gives, or nothing once stage 8 has ended. -/
theorem Granted.grant (h : Granted capacity force x m done rest c) {before after : List (Nat × Nat)} {k : Nat × Nat}
    {p : Profile} (split : x.considered force = before ++ k :: after) (hp : force k.1 k.2 = some p) :
    (c.ended capacity force x (before ++ [k]) ∧ p.cls = .shared ∧ c.grantOf k.1 k.2 = 0) ∨
    (¬ c.ended capacity force x (before ++ [k]) ∧ c.grantOf k.1 k.2 = x.grantIn p k (c.roomAfter capacity x before k)) := by
  obtain ⟨ended, left⟩ | ⟨lit, mid, served⟩ := h.ended_iff split
  · refine .inl ⟨ended, ?_, h.left_zero k left⟩
    obtain ⟨-, -, q, hq, shared⟩ := inClass_iff.1 (h.left k left)
    rwa [← Option.some.inj (hp.symm.trans hq)] at shared
  · exact .inr ⟨lit, h.granting.grants before k mid p served hp⟩

theorem Granted.cut_iff (h : Granted capacity force x m done rest c) :
    c.cut = true ↔ ∃ (before after : List (Nat × Nat)) (k : Nat × Nat) (p : Profile),
      x.considered force = before ++ k :: after ∧ force k.1 k.2 = some p ∧ p.cls ≠ .shared ∧
      c.roomAfter capacity x before k < x.candidate p k := by
  rw [h.granting.cut]
  constructor
  · rintro ⟨before, k, after, p, split, hp, guaranteed, short⟩
    exact ⟨before, after ++ rest, k, p, by rw [h.considered, split]; simp, hp, guaranteed, short⟩
  · rintro ⟨before, after, k, p, split, hp, guaranteed, short⟩
    obtain ⟨mid, served, -⟩ | ⟨mid, -, behind⟩ := h.place split
    · exact ⟨before, k, mid, p, served, hp, guaranteed, short⟩
    · obtain ⟨-, -, q, hq, shared⟩ := inClass_iff.1 (h.left k (by simp [behind]))
      rw [← Option.some.inj (hp.symm.trans hq)] at shared
      exact absurd shared guaranteed

/-- Only a lane considered is granted. -/
theorem Granted.of_grant (h : Granted capacity force x m done rest c) {d l : Nat} (pos : c.grantOf d l ≠ 0) :
    (d, l) ∈ x.considered force := by
  by_contra none
  refine pos (Build.grantOf_of_not_issued fun e he hel => none ?_)
  rw [h.considered, List.mem_append]
  exact .inl (hel ▸ h.granting.keys e he)

/-- What a considered lane's grant can be. -/
theorem Granted.grant_cases (h : Granted capacity force x m done rest c) {k : Nat × Nat} {p : Profile}
    (hk : k ∈ x.considered force) (hp : force k.1 k.2 = some p) :
    (p.cls = .shared ∧ c.grantOf k.1 k.2 = 0) ∨ ∃ before after, x.considered force = before ++ k :: after ∧
      c.grantOf k.1 k.2 = x.grantIn p k (c.roomAfter capacity x before k) := by
  obtain ⟨before, after, split⟩ := List.append_of_mem hk
  obtain ⟨-, shared, zero⟩ | ⟨-, grant⟩ := h.grant split hp
  · exact .inl ⟨shared, zero⟩
  · exact .inr ⟨before, after, split, grant⟩

/-! ## Stage 8 and the pointer (R32, R33) -/

/-- How far a lane key lies behind the pointer in the visit of stage 8. -/
def visitPos (pointer : Nat × Nat) (k : Nat × Nat) : Nat :=
  (4 * (k.1 - 1) + k.2 + 256 - (4 * (pointer.1 - 1) + pointer.2)) % 256

theorem laneKeys_pairwise : laneKeys.Pairwise fun a b => laneKey a.1 a.2 < laneKey b.1 b.2 := by
  have sorted : (laneKeys.map fun k => laneKey k.1 k.2).Pairwise (· < ·) := by
    rw [laneKeys_map]
    exact List.pairwise_lt_range'
  exact List.pairwise_map.1 sorted

/-- The visit goes up in position from the pointer on. -/
theorem visit_pairwise {pointer : Nat × Nat} (h1 : 1 ≤ pointer.1) (h2 : pointer.1 ≤ 64) (h3 : pointer.2 < 4) :
    (laneKeys.drop (laneKey pointer.1 pointer.2) ++ laneKeys.take (laneKey pointer.1 pointer.2)).Pairwise
      fun a b => visitPos pointer a < visitPos pointer b := by
  obtain ⟨first, behind⟩ := take_of_keys laneKeys_map (laneKey pointer.1 pointer.2)
  rw [Nat.sub_zero] at first behind
  rw [← first, ← behind]
  refine List.pairwise_append.2 ⟨?_, ?_, ?_⟩
  · refine (List.Pairwise.and_mem.1 (laneKeys_pairwise.filter _)).imp fun ⟨ha, hb, lt⟩ => ?_
    simp only [List.mem_filter, mem_laneKeys, Bool.not_eq_true', decide_eq_false_iff_not] at ha hb
    simp only [laneKey, visitPos] at *
    omega
  · refine (List.Pairwise.and_mem.1 (laneKeys_pairwise.filter _)).imp fun ⟨ha, hb, lt⟩ => ?_
    simp only [List.mem_filter, mem_laneKeys, decide_eq_true_eq] at ha hb
    simp only [laneKey, visitPos] at *
    omega
  · intro a ha b hb
    simp only [List.mem_filter, mem_laneKeys, Bool.not_eq_true', decide_eq_false_iff_not, decide_eq_true_eq] at ha hb
    simp only [laneKey, visitPos] at *
    omega

/-- Behind a SHARED lane stand only SHARED lanes, each further on in the visit; those further on in the visit stand
behind it. -/
theorem considered_shared (h1 : 1 ≤ x.pointer.1) (h2 : x.pointer.1 ≤ 64) (h3 : x.pointer.2 < 4)
    {before after : List (Nat × Nat)} {k : Nat × Nat} (split : x.considered force = before ++ k :: after)
    (shared : x.inClass force .shared k = true) :
    (∀ j ∈ after, x.inClass force .shared j = true ∧ visitPos x.pointer k < visitPos x.pointer j) ∧
    (∀ j ∈ x.considered force, x.inClass force .shared j = true → visitPos x.pointer k < visitPos x.pointer j →
      j ∈ after) := by
  have order := (visit_pairwise h1 h2 h3).filter (x.inClass force .shared)
  have only : ∀ j ∈ (laneKeys.drop (laneKey x.pointer.1 x.pointer.2) ++
      laneKeys.take (laneKey x.pointer.1 x.pointer.2)).filter (x.inClass force .shared),
      x.inClass force .shared j = true := fun j hj => (List.mem_filter.1 hj).2
  have not_shared : ∀ j ∈ laneKeys.filter (x.inClass force .fixed) ++ laneKeys.filter (x.inClass force .assured),
      x.inClass force .shared j = true → False := by
    intro j hj s
    obtain ⟨-, -, p, hp, cls⟩ := inClass_iff.1 s
    rcases List.mem_append.1 hj with hj | hj <;>
    · obtain ⟨-, -, q, hq, other⟩ := inClass_iff.1 (List.mem_filter.1 hj).2
      rw [← Option.some.inj (hp.symm.trans hq), cls] at other
      cases other
  have parts : x.considered force = (laneKeys.filter (x.inClass force .fixed) ++
      laneKeys.filter (x.inClass force .assured)) ++ (laneKeys.drop (laneKey x.pointer.1 x.pointer.2) ++
      laneKeys.take (laneKey x.pointer.1 x.pointer.2)).filter (x.inClass force .shared) := rfl
  generalize laneKeys.filter (x.inClass force .fixed) ++ laneKeys.filter (x.inClass force .assured) = guaranteed
    at parts not_shared
  generalize (laneKeys.drop (laneKey x.pointer.1 x.pointer.2) ++
      laneKeys.take (laneKey x.pointer.1 x.pointer.2)).filter (x.inClass force .shared) = visit at parts order only
  rw [parts] at split ⊢
  obtain ⟨mid, rfl, rfl⟩ : ∃ mid, before = guaranteed ++ mid ∧ visit = mid ++ k :: after := by
    obtain ⟨mid, e1, e2⟩ | ⟨mid, e1, e2⟩ := List.append_eq_append_iff.1 split
    · exact ⟨mid, e1, e2⟩
    · cases mid with
      | nil => exact ⟨[], by simpa using e1.symm, by simpa using e2.symm⟩
      | cons j mid =>
        obtain ⟨rfl, -⟩ := List.cons.inj e2
        exact (not_shared k (by simp [e1]) shared).elim
  obtain ⟨-, later, earlier⟩ := List.pairwise_append.1 order
  obtain ⟨behind, -⟩ := List.pairwise_cons.1 later
  refine ⟨fun j hj => ⟨only j (by simp [hj]), behind j hj⟩, fun j hj s lt => ?_⟩
  simp only [List.mem_append, List.mem_cons] at hj
  rcases hj with hj | hj | rfl | hj
  · exact (not_shared j hj s).elim
  · have := earlier j hj k (by simp)
    omega
  · omega
  · exact hj

/-- Each SHARED lane visited before one that is granted had its whole candidate or nothing. -/
theorem Granted.whole_or_nothing (h : Granted capacity force x m done rest c) (h1 : 1 ≤ x.pointer.1)
    (h2 : x.pointer.1 ≤ 64) (h3 : x.pointer.2 < 4) {k j : Nat × Nat} {p : Profile} (hk : k ∈ x.considered force)
    (hp : force k.1 k.2 = some p) (shared : p.cls = .shared) (pos : c.grantOf j.1 j.2 ≠ 0)
    (shared' : x.inClass force .shared j = true) (lt : visitPos x.pointer k < visitPos x.pointer j) :
    c.grantOf k.1 k.2 = x.candidate p k ∨ c.grantOf k.1 k.2 = 0 := by
  obtain ⟨keys, cls, hcls⟩ := mem_considered.1 hk
  have mine : x.inClass force .shared k = true := by
    obtain ⟨active, enabled, -⟩ := inClass_iff.1 hcls
    exact inClass_iff.2 ⟨active, enabled, p, hp, shared⟩
  obtain ⟨before, after, split⟩ := List.append_of_mem hk
  obtain ⟨follow, behind⟩ := considered_shared h1 h2 h3 split mine
  have hj := behind j (h.of_grant pos) shared' lt
  obtain ⟨-, -, zero⟩ | ⟨-, grant⟩ := h.grant split hp
  · exact .inr zero
  · rw [grantIn_eq] at grant
    by_contra neither
    rw [not_or] at neither
    obtain ⟨not_whole, not_zero⟩ := neither
    have room : c.grantOf k.1 k.2 = c.roomAfter capacity x before k := by
      split at grant <;> omega
    have full : capacity ≤ c.usedAfter x (before ++ [k]) := by
      obtain ⟨i1, i2, -⟩ := mem_laneKeys.1 keys
      rw [Build.usedAfter_snoc not_zero (mem_dropIndices.2 ⟨i1, i2⟩), room]
      simp only [Build.roomAfter]
      omega
    obtain ⟨mid, later, rfl⟩ := List.append_of_mem hj
    obtain ⟨q, hq⟩ : ∃ q, force j.1 j.2 = some q := by
      obtain ⟨-, -, q, hq, -⟩ := inClass_iff.1 shared'
      exact ⟨q, hq⟩
    have split' : x.considered force = (before ++ k :: mid) ++ j :: later := by rw [split]; simp
    obtain ⟨-, -, zero⟩ | ⟨lit, -⟩ := h.grant split' hq
    · exact pos zero
    · refine lit ?_
      have next : ∃ i r, mid ++ [j] = i :: r ∧ x.inClass force .shared i = true := by
        cases mid with
        | nil => exact ⟨j, [], rfl, shared'⟩
        | cons i mid => exact ⟨i, mid ++ [j], rfl, (follow i (by simp)).1⟩
      obtain ⟨i, r, at_i, shared_i⟩ := next
      refine ⟨before ++ [k], r, i, ?_, shared_i, ?_⟩
      · rw [← at_i]; simp
      · simp only [Build.roomAfter]; omega

/-- The pointer goes behind the last SHARED lane granted in the visit, or stays (R33). -/
theorem Granted.pointer_cases (h : Granted capacity force x m done rest c) (h1 : 1 ≤ x.pointer.1)
    (h2 : x.pointer.1 ≤ 64) (h3 : x.pointer.2 < 4) :
    ((∀ k, x.inClass force .shared k = true → c.grantOf k.1 k.2 = 0) ∧ c.pointed.feeder.pointer = x.pointer) ∨
    ∃ k, x.inClass force .shared k = true ∧ c.grantOf k.1 k.2 ≠ 0 ∧ c.pointed.feeder.pointer = nextLaneKey k ∧
      ∀ j, x.inClass force .shared j = true → c.grantOf j.1 j.2 ≠ 0 → j ≠ k →
        visitPos x.pointer j < visitPos x.pointer k := by
  have served : ∀ k, c.grantOf k.1 k.2 ≠ 0 → k ∈ done := fun k pos => by
    have hk := h.of_grant pos
    rw [h.considered] at hk
    rcases List.mem_append.1 hk with hk | hk
    · exact hk
    · exact absurd (h.left_zero k hk) pos
  obtain ⟨none, zero⟩ | ⟨before, k, after, last, split, shared, pos, zero⟩ := h.granting.served
  · refine .inl ⟨fun k s => ?_, ?_⟩
    · by_contra pos
      exact pos (zero k (served k pos) s)
    · rw [Build.pointed_none none, h.granting.feeder]
  · refine .inr ⟨k, shared, pos, by rw [Build.pointed_some last], fun j s hj ne => ?_⟩
    have whole : x.considered force = before ++ k :: (after ++ rest) := by rw [h.considered, split]; simp
    have place : j ∈ before := by
      have hj' := served j hj
      rw [split] at hj'
      simp only [List.mem_append, List.mem_cons] at hj'
      rcases hj' with hj' | hj' | hj'
      · exact hj'
      · exact absurd hj' ne
      · exact absurd (zero j hj' s) hj
    obtain ⟨first, mid, rfl⟩ := List.append_of_mem place
    have at_j : x.considered force = first ++ j :: (mid ++ k :: (after ++ rest)) := by rw [whole]; simp
    exact ((considered_shared h1 h2 h3 at_j s).1 k (by simp)).2

/-! ## The obligation -/

/-- A lane's record in the finished build, and what its grant keeps to (R22, R28, R31). -/
theorem Granted.lane (h : Granted capacity force x m done rest c) {d l : Nat} (h1 : 1 ≤ d) (h2 : d ≤ 64) (hl : l < 4) :
    (c.feeder.lane d l).credit + 256 * c.grantOf d l = x.credited force d l ∧
    (c.feeder.lane d l).outstanding = (x.lane d l).outstanding + c.grantOf d l ∧
    (c.feeder.lane d l).backlog = (x.lane d l).backlog ∧ (c.feeder.lane d l).lastReport = (x.lane d l).lastReport := by
  have within := h.granting.within d l
  rw [h.granting.lanes d l h1 h2 hl]
  exact ⟨Nat.sub_add_cancel within, rfl, rfl, rfl⟩

/-- A grant stays within the demand unless FIXED, at the minimum grant or the whole demand (R28, R31). -/
theorem Granted.demand (h : Granted capacity force x m done rest c) {d l : Nat} (pos : c.grantOf d l ≠ 0) :
    (x.drop d).state = .active ∧ l ∈ (x.drop d).enabledLanes ∧ ∃ p, force d l = some p ∧
      (p.cls = .fixed ∨ (c.grantOf d l ≤ x.demandOf (d, l) ∧
        (p.minGrant ≤ c.grantOf d l ∨ c.grantOf d l = x.demandOf (d, l)))) := by
  have hk := h.of_grant pos
  obtain ⟨-, cls, hcls⟩ := mem_considered.1 hk
  obtain ⟨active, enabled, p, hp, -⟩ := inClass_iff.1 hcls
  refine ⟨active, enabled, p, hp, ?_⟩
  obtain ⟨-, zero⟩ | ⟨before, after, -, grant⟩ := h.grant_cases hk hp
  · exact absurd zero pos
  · by_cases fixed : p.cls = .fixed
    · exact .inl fixed
    · refine .inr ?_
      dsimp only at grant
      simp only [Feeder.grantIn, Feeder.candidate, fixed, false_or, if_false] at grant
      split at grant <;> omega

/-- Where no grant was cut a FIXED or ASSURED lane has its whole candidate where that is issued (R29, R30, R34). -/
theorem Granted.uncut (h : Granted capacity force x m done rest c) (uncut : c.cut = false) {d l : Nat} {p : Profile}
    (hk : (d, l) ∈ x.considered force) (hp : force d l = some p) (guaranteed : p.cls ≠ .shared) :
    c.grantOf d l = x.grantIn p (d, l) (x.candidate p (d, l)) := by
  obtain ⟨shared, -⟩ | ⟨before, after, split, grant⟩ := h.grant_cases hk hp
  · exact absurd shared guaranteed
  · have room : x.candidate p (d, l) ≤ c.roomAfter capacity x before (d, l) := by
      by_contra short
      have := h.cut_iff.2 ⟨before, after, (d, l), p, split, hp, guaranteed, by omega⟩
      rw [uncut] at this
      cases this
    rw [grant, grantIn_eq, grantIn_eq, Nat.min_eq_left room, Nat.min_self]

end

/-- Settles O50: the grants are those of the lanes served in their order, each within the room that those before it
leave. -/
theorem grantsKeepToCreditDemandAndCapacity : Obligations.GrantsKeepToCreditDemandAndCapacity := by
  unfold Obligations.GrantsKeepToCreditDemandAndCapacity
  intro capacity n force x b min is_build
  obtain ⟨done, rest, c, considered, left, granting, stop, built⟩ := buildGrants_spec capacity n force x min
  have h : Granted capacity force x (mandatoryBuild capacity n (x.creditAll force)) done rest c :=
    ⟨considered, left, granting, stop⟩
  obtain ⟨table, credited, -⟩ := x.creditAll_spec force
  have mem : ∀ d l p, 1 ≤ d → d ≤ 64 → l < 4 → (x.drop d).state = .active → l ∈ (x.drop d).enabledLanes →
      force d l = some p → (d, l) ∈ x.considered force := fun d l p h1 h2 hl active enabled hp =>
    mem_considered.2 ⟨mem_laneKeys.2 ⟨h1, h2, hl⟩, p.cls, inClass_iff.2 ⟨active, enabled, p, hp, rfl⟩⟩
  rw [built] at is_build
  subst is_build
  refine ⟨granting.room, ?_, granting.once, ?_, ?_, ?_, h.cut_iff, ?_, ?_⟩
  · intro room d flag h1 h2
    rw [show (d, some flag) ∈ c.pointed.opened ↔ _ from granting.flags d flag,
      (mandatoryBuild_spec capacity n (x.creditAll force)).2 room, credited, mem_dropIndices]
    simp only [h1, h2, and_self, true_and]
    exact (mandatoryFlag_eq_some x.settings n d (x.drop d) flag).symm
  · intro d
    refine (granting.opens d).trans (congrFun ?_ d)
    rw [considered]
    exact (Build.openAfter_append_zero h.left_zero).symm
  · refine granting.used.trans ?_
    rw [considered]
    exact (Build.usedAfter_append_zero h.left_zero x).symm
  · intro before after k p ended split hp is_ended
    have ends : ended ↔ p.cls = .shared ∧ c.ended capacity force x (before ++ [k]) := is_ended
    rw [ends]
    obtain ⟨yes, shared, zero⟩ | ⟨no, grant⟩ := h.grant split hp
    · exact ⟨fun _ => zero, fun not => absurd ⟨shared, yes⟩ not⟩
    · exact ⟨fun e => absurd e.2 no, fun _ => grant⟩
  · rintro d l _ _ h1 h2 hl rfl rfl
    obtain ⟨credit, outstanding, backlog, report⟩ := h.lane h1 h2 hl
    refine ⟨credit, outstanding, backlog, report, h.demand, fun p uncut active enabled hp => ?_⟩
    have hk := mem d l p h1 h2 hl active enabled hp
    have grant : p.cls ≠ .shared → c.grantOf d l = _ := h.uncut uncut hk hp
    simp only [enabled, hp, active, if_true]
    refine ⟨fun fixed => ?_, fun assured => ?_⟩
    · refine (grant (by simp [fixed])).trans ?_
      simp [Feeder.grantIn, Feeder.candidate, fixed]
    · refine (grant (by simp [assured])).trans ?_
      simp only [Feeder.grantIn, Feeder.candidate, Feeder.demandOf, assured, reduceCtorEq, false_or, if_false, Nat.min_self]
      split <;> split <;> omega
  · intro pos shared h1 h2 h3 hpos hshared
    have at_pos : ∀ d l, pos d l = visitPos x.pointer (d, l) := hpos
    have granted : ∀ d l, shared d l ↔ x.inClass force .shared (d, l) = true ∧ c.grantOf d l ≠ 0 := by
      intro d l
      rw [hshared, inClass_iff]
      constructor
      · rintro ⟨-, -, -, grant, p, hp, cls⟩
        obtain ⟨active, enabled, -⟩ := h.demand grant
        exact ⟨⟨active, enabled, p, hp, cls⟩, grant⟩
      · rintro ⟨⟨-, -, p, hp, cls⟩, grant⟩
        obtain ⟨i1, i2, i3⟩ := mem_laneKeys.1 (mem_considered.1 (h.of_grant grant)).1
        exact ⟨i1, i2, i3, grant, p, hp, cls⟩
    refine ⟨?_, fun none => ?_, fun d l hs most => ?_⟩
    · rintro d l k j p _ _ i1 i2 i3 hp cls active enabled hs lt rfl rfl
      obtain ⟨shared', grant'⟩ := (granted k j).1 hs
      rw [at_pos, at_pos] at lt
      have := h.whole_or_nothing h1 h2 h3 (mem d l p i1 i2 i3 active enabled hp) hp cls grant' shared' lt
      simp only [Feeder.candidate, Feeder.demandOf, cls, reduceCtorEq, if_false] at this
      exact this
    · obtain ⟨-, stays⟩ | ⟨k, s, grant, -⟩ := h.pointer_cases h1 h2 h3
      · exact stays
      · exact absurd ((granted k.1 k.2).2 ⟨s, grant⟩) (none k.1 k.2)
    · obtain ⟨s, grant⟩ := (granted d l).1 hs
      obtain ⟨zero, -⟩ | ⟨⟨e, i⟩, sk, grantk, next, last⟩ := h.pointer_cases h1 h2 h3
      · exact absurd (zero (d, l) s) grant
      · have same : (d, l) = (e, i) := by
          by_contra ne
          have lt := last (d, l) s grant ne
          have le := most e i ((granted e i).2 ⟨sk, grantk⟩)
          rw [at_pos, at_pos] at le
          omega
        rw [← same] at next
        exact next

end Sys2Proof.Machine
end


section
/-! PROOFS. The layout of a plan and its handing on (R35 to R42): the plan's windows stand apart, and a build keeps the
invariants. -/

namespace Sys2Proof.Machine

/-! ## Windows apart -/

/-- Entries in ascending start word from `lo` on, each with 16 words behind it before the next and before `hi`. -/
def Spaced (lo hi : Nat) (l : List Entry) : Prop :=
  l.Pairwise (fun a b => a.start + a.len + 16 ≤ b.start) ∧ ∀ e ∈ l, lo ≤ e.start ∧ e.start + e.len + 16 ≤ hi

theorem Spaced.nil (lo hi : Nat) : Spaced lo hi [] := ⟨.nil, by simp⟩

theorem Spaced.append {lo mid hi : Nat} {a b : List Entry} (ha : Spaced lo mid a) (hb : Spaced mid hi b) (h1 : lo ≤ mid)
    (h2 : mid ≤ hi) : Spaced lo hi (a ++ b) := by
  obtain ⟨pa, ba⟩ := ha
  obtain ⟨pb, bb⟩ := hb
  refine ⟨List.pairwise_append.2 ⟨pa, pb, fun x hx y hy => ?_⟩, fun e he => ?_⟩
  · have := ba x hx; have := bb y hy; omega
  · rcases List.mem_append.1 he with he | he
    · have := ba e he; omega
    · have := bb e he; omega

theorem Spaced.mono {lo hi hi' : Nat} {a : List Entry} (h : Spaced lo hi a) (le : hi ≤ hi') : Spaced lo hi' a :=
  ⟨h.1, fun e he => by have := h.2 e he; omega⟩

theorem Spaced.single {lo hi : Nat} {e : Entry} (h1 : lo ≤ e.start) (h2 : e.start + e.len + 16 ≤ hi) : Spaced lo hi [e] :=
  ⟨List.pairwise_singleton _ _, by simpa using ⟨h1, h2⟩⟩

/-- The words a burst takes with its guard (R8, R38). -/
def burstCost (o : Nat × List (Nat × Nat) × Option BurstFlag) : Nat := 44 + o.2.1.length + (o.2.1.map Prod.snd).sum

theorem layBursts_end (w : Nat) (l : List (Nat × List (Nat × Nat) × Option BurstFlag)) :
    (layBursts w l).2 = w + (l.map burstCost).sum := by
  induction l generalizing w with
  | nil => rfl
  | cons o l ih =>
    obtain ⟨d, allocs, flag⟩ := o
    simp only [layBursts, ih, List.map_cons, List.sum_cons, burstCost, burstLength, Config.guardWords]
    omega

theorem layBursts_spaced (w : Nat) (l : List (Nat × List (Nat × Nat) × Option BurstFlag)) :
    Spaced w (layBursts w l).2 (layBursts w l).1 := by
  induction l generalizing w with
  | nil => exact .nil _ _
  | cons o l ih =>
    obtain ⟨d, allocs, flag⟩ := o
    have le : w + burstLength allocs + Config.guardWords ≤ (layBursts (w + burstLength allocs + Config.guardWords) l).2 := by
      rw [layBursts_end]; omega
    exact (Spaced.single (e := .burst d w (burstLength allocs) allocs flag) (Nat.le_refl _) (Nat.le_refl _)).append
      (ih _) (by omega) le

theorem layRanging_spaced (t : Settings) (rtd : Nat → Nat) (w : Nat) (l : List Nat) :
    Spaced w (w + 64 * l.length) (layRanging t rtd w l) := by
  induction l generalizing w with
  | nil => exact .nil _ _
  | cons d l ih =>
    have := (Spaced.single (e := .ranging d w (t.rangingDelay w (rtd d))) (lo := w) (hi := w + 64) (Nat.le_refl _)
      (Nat.le_refl _)).append (ih (w + 64)) (by omega) (by omega)
    exact this.mono (by simp only [List.length_cons]; omega)

/-- The windows of a plan whose bursts keep to the capacity stand apart and out of the dark slot (R24, R38 to R41). -/
theorem layPlan_apart {t : Settings} (dk : t.dk ≤ 128) (reach : t.rtdMax - t.rtdMin ≤ 512000) (rtd : Nat → Nat)
    {bursts : List (Nat × List (Nat × Nat) × Option BurstFlag)} {ranging : List Nat} {discovery : Bool}
    (few : ranging.length ≤ 64) (fits : (bursts.map burstCost).sum ≤ capacityOf t discovery ranging.length)
    {sl : Slot} (plan : sl.windows.map Window.entry = layPlan t rtd bursts ranging discovery) : sl.apart t.dk := by
  have dw : t.dw ≤ 17008 := by simp only [Settings.dw, ceilDiv]; omega
  have room : (bursts.map burstCost).sum + 64 * ranging.length + (if discovery then t.dw else 0) ≤ 25000 - t.dk := by
    simp only [capacityOf, Config.cycleWords] at fits
    split at fits <;> simp_all <;> omega
  have bursts_ranging := (layBursts_spaced 0 bursts).append (layRanging_spaced t rtd (layBursts 0 bursts).2 ranging)
    (Nat.zero_le _) (by omega)
  rw [layBursts_end, Nat.zero_add] at bursts_ranging
  have whole : Spaced 0 (25016 - t.dk) ((layBursts 0 bursts).1 ++ layRanging t rtd (bursts.map burstCost).sum ranging ++
      if discovery then [.discovery t.w0 t.dw t.s] else []) := by
    split at room
    next some =>
      rw [if_pos some]
      refine bursts_ranging.append (.single ?_ ?_) (Nat.zero_le _) (by omega)
      · simp only [Entry.start, Settings.w0, Config.cycleWords]; omega
      · simp only [Entry.start, Entry.len, Settings.w0, Config.cycleWords]; omega
    next none =>
      rw [if_neg none, List.append_nil]
      exact bursts_ranging.mono (by omega)
  have windows : (layPlan t rtd bursts ranging discovery).filter (fun e => e.windowId.isSome) =
      ((layBursts 0 bursts).1 ++ layRanging t rtd (bursts.map burstCost).sum ranging ++
        if discovery then [Entry.discovery t.w0 t.dw t.s] else []).filter fun e => e.windowId.isSome := by
    have dark : (if t.dk = 0 then [] else [Entry.dark (Config.cycleWords - t.dk) t.dk]).filter
        (fun e => e.windowId.isSome) = [] := by split <;> rfl
    simp only [layPlan, layTail, layBursts_end, Nat.zero_add, ← List.append_assoc, List.filter_append, dark,
      List.append_nil]
  unfold Slot.apart
  rw [plan, windows]
  refine ⟨whole.1.filter _, fun e he => ?_⟩
  have := whole.2 e (List.mem_filter.1 he).1
  omega

/-! ## The bursts of a build keep to its capacity -/

theorem sum_eq_of_subset {α : Type} [DecidableEq α] {a b : List α} (ha : a.Nodup) (hb : b.Nodup) (sub : ∀ k ∈ a, k ∈ b)
    {w : α → Nat} (zero : ∀ k ∈ b, k ∉ a → w k = 0) : (a.map w).sum = (b.map w).sum := by
  rw [← List.sum_toFinset w ha, ← List.sum_toFinset w hb]
  refine Finset.sum_subset (fun k hk => ?_) fun k hk new => ?_
  · exact List.mem_toFinset.2 (sub k (List.mem_toFinset.1 hk))
  · exact zero k (List.mem_toFinset.1 hk) fun h => new (List.mem_toFinset.2 h)

theorem sum_flatMap_pairs (w : Nat → Nat → Nat) (l : List Nat) (m : Nat → List Nat) :
    ((l.flatMap fun d => (m d).map fun j => (d, j)).map fun k => w k.1 k.2).sum =
      (l.map fun d => ((m d).map (w d)).sum).sum := by
  induction l with
  | nil => rfl
  | cons d l ih => simp [ih, Function.comp_def]

theorem Granted.bursts_cost {capacity : Nat} {force : Nat → Nat → Option Profile} {x : Feeder} {m : Build}
    {done rest : List (Nat × Nat)} {c : Build} (h : Granted capacity force x m done rest c) :
    (c.pointed.bursts.map burstCost).sum = c.used := by
  have drop : ∀ d, c.pointed.feeder.drop d = x.drop d := h.granting.drop
  have cost : c.pointed.bursts.map burstCost = (dropIndices.filter c.isOpen).map fun d =>
      (44 + (x.drop d).enabledLanes.length) + (((x.drop d).enabledLanes).map (c.grantOf d)).sum := by
    simp only [Build.bursts, List.map_map]
    refine List.map_congr_left fun d _ => ?_
    simp only [Function.comp, burstCost, List.length_map, List.map_map, drop]
    rfl
  have once := (List.nodup_append.1 h.nodup).1
  have known : ∀ k ∈ done, k ∈ laneKeys := fun k hk =>
    (mem_considered.1 (h.considered ▸ List.mem_append_left _ hk)).1
  have zero : ∀ k ∈ laneKeys, k ∉ done → c.grantOf k.1 k.2 = 0 := fun k _ new =>
    Build.grantOf_of_not_issued fun e he hek => new (by simpa [hek] using h.granting.keys e he)
  have opens : ∀ d l, c.grantOf d l ≠ 0 → c.isOpen d = true ∧ l ∈ (x.drop d).enabledLanes := fun d l pos => by
    refine ⟨?_, (h.demand pos).2.1⟩
    rw [h.granting.opens]
    have : (d, l) ∈ done := by
      by_contra new
      exact pos (Build.grantOf_of_not_issued fun e he hek => new (by simpa [hek] using h.granting.keys e he))
    simp only [Build.openAfter, Bool.or_eq_true, List.any_eq_true]
    exact .inr ⟨(d, l), this, by simpa using pos⟩
  have grants : (done.map fun j => c.grantOf j.1 j.2).sum =
      ((dropIndices.filter c.isOpen).map fun d => ((x.drop d).enabledLanes.map (c.grantOf d)).sum).sum := by
    rw [sum_eq_of_subset once laneKeys_nodup known zero, laneKeys, sum_flatMap_pairs]
    rw [sum_eq_of_subset (dropIndices_nodup.filter c.isOpen) dropIndices_nodup (fun d hd => (List.mem_filter.1 hd).1)
      fun d hd closed => ?_]
    · refine congrArg List.sum (List.map_congr_left fun d _ => ?_)
      refine (sum_eq_of_subset (x.drop d).enabledLanes_nodup (by decide) (fun l hl => mem_laneNumbers.2
        (DropRecord.mem_enabledLanes hl)) fun _ _ off => ?_).symm
      by_contra pos
      exact off (opens d _ pos).2
    · refine List.sum_eq_zero fun w hw => ?_
      obtain ⟨l, -, rfl⟩ := List.mem_map.1 hw
      by_contra pos
      exact closed (List.mem_filter.2 ⟨hd, (opens d l pos).1⟩)
  have same : c.isOpen = c.openAfter done := funext h.granting.opens
  rw [cost, List.sum_map_add, h.granting.used, Build.usedAfter, ← same, grants]

/-! ## A build keeps the invariants -/

section
variable {R : Feeder → Feeder → Prop} (refl : ∀ x, R x x) (trans : ∀ {x y z}, R x y → R y z → R x z)
  (lane : ∀ x d l r, R x (x.setLane d l r))
include refl trans lane

theorem creditStage_closed (force : Nat → Nat → Option Profile) (x : Feeder) (d : Nat) : R x (creditStage force x d) := by
  unfold creditStage
  dsimp only
  generalize (x.drop d).enabledLanes = lanes
  generalize (x.drop d).state = state
  induction lanes generalizing x with
  | nil => exact refl x
  | cons l lanes ih => exact trans (lane x _ _ _) (ih _)

omit trans in
theorem guaranteedStage_closed (cls : LaneClass) (capacity : Nat) (force : Nat → Nat → Option Profile) (b : Build)
    (k : Nat × Nat) : R b.feeder (guaranteedStage cls capacity force b k).feeder := by
  obtain ⟨-, same⟩ | ⟨p, whole, g, c, -, -, -, -, rfl, taken⟩ := guaranteedStage_cases cls capacity force b k
  · rw [same]; exact refl _
  · rw [taken]
    split
    · exact lane _ _ _ _
    · exact refl _

theorem sharedStage_closed (capacity : Nat) (force : Nat → Nat → Option Profile) (l : List (Nat × Nat)) (b : Build) :
    R b.feeder (sharedStage capacity force l b).feeder := by
  induction l generalizing b with
  | nil => exact refl _
  | cons k l ih =>
    obtain ⟨-, same⟩ | ⟨p, -, -, ⟨-, same⟩ | ⟨g, -, -, same⟩⟩ := sharedStage_cons capacity force k l b
    · rw [same]; exact ih b
    · rw [same]; exact refl _
    · rw [same]
      refine trans ?_ (ih _)
      split
      · exact lane _ _ _ _
      · exact refl _

/-- What every write of a lane record keeps, the stages of a build keep. -/
theorem stagesOf_closed (capacity : Nat) (n : CycleNo) (force : Nat → Nat → Option Profile) (x : Feeder) :
    R x (stagesOf capacity n force x).feeder := by
  have folds : ∀ {α : Type} {g : Build → α → Build} (_ : ∀ (b : Build) (a : α), R b.feeder (g b a).feeder) (l : List α)
      (b : Build), R b.feeder (l.foldl g b).feeder := by
    intro α g hg l
    induction l with
    | nil => exact fun b => refl _
    | cons a l ih => exact fun b => trans (hg b a) (ih _)
  have credit : ∀ (l : List Nat) (x : Feeder), R x (l.foldl (creditStage force) x) := by
    intro l
    induction l with
    | nil => exact refl
    | cons d l ih => exact fun x => trans (creditStage_closed refl trans lane force x d) (ih _)
  have mandatory : R x (mandatoryBuild capacity n (x.creditAll force)).feeder := by
    rw [(mandatoryBuild_spec capacity n (x.creditAll force)).1.feeder]
    exact credit dropIndices x
  exact trans (trans (trans mandatory (folds (guaranteedStage_closed refl lane .fixed capacity force) _ _))
    (folds (guaranteedStage_closed refl lane .assured capacity force) _ _))
    (sharedStage_closed refl trans lane capacity force _ _)

end

theorem keeps_buildGrants (capacity : Nat) (n : CycleNo) (force : Nat → Nat → Option Profile) (x : Feeder) :
    x.Keeps (buildGrants capacity n force x).feeder := by
  rw [buildGrants_stages]
  exact (stagesOf_closed Feeder.Keeps.refl .trans Feeder.keeps_setLane capacity n force x).trans (.of_core rfl)

theorem keeps_reportEntry (n : CycleNo) (x : Feeder) (e : Entry) : x.Keeps (reportEntry n x e) := by
  unfold reportEntry
  split
  · exact Feeder.keeps_setDrop_same rfl rfl rfl rfl
  · exact Feeder.keeps_setDrop_same rfl rfl rfl rfl
  · exact .refl x

theorem Feeder.decideDiscovery_core (x : Feeder) (n : CycleNo) : (x.decideDiscovery n).core = x.core := by
  unfold Feeder.decideDiscovery
  split
  · rfl
  · split <;> rfl

/-- The plan of a build: its windows stand apart (R41). -/
theorem Feeder.build_apart {x : Feeder} (h : x.separated) (n : CycleNo) {force : Nat → Nat → Option Profile}
    (min : ∀ d l p, force d l = some p → 1 ≤ p.minGrant) {discovery : Bool} {ranging : List Nat}
    (few : ranging.length ≤ 64) (rtd : Nat → Nat) {sl : Slot}
    (plan : sl.windows.map Window.entry = layPlan x.settings rtd
      (buildGrants (capacityOf x.settings discovery ranging.length) n force x).bursts ranging discovery) :
    sl.apart x.settings.dk := by
  obtain ⟨done, rest, c, considered, left, granting, stop, built⟩ :=
    buildGrants_spec (capacityOf x.settings discovery ranging.length) n force x min
  have granted : Granted _ force x _ done rest c := ⟨considered, left, granting, stop⟩
  refine layPlan_apart h.1 h.2.1 rtd few ?_ plan
  rw [built, granted.bursts_cost]
  exact granting.room

/-- A plan whose windows stand apart may be handed on to the ring of a RUNNING feeder. -/
theorem Feeder.keeps_handOn {x : Feeder} (running : x.running = true) (n : CycleNo) (plan : List Entry)
    (apart : x.separated → ∀ sl : Slot, sl.windows.map Window.entry = plan → sl.apart x.settings.dk) :
    x.Keeps (x.handOn n plan) := by
  refine Feeder.Keeps.trans (y := x.setSlot n (some ⟨.waiting, n, plan.map fun e => ⟨e, .nothing, .unresolved⟩,
    LightRecord.dark⟩)) (keeps_ring (fun off => by simp [running] at off) fun hs sl hsl => ?_) (.of_core rfl)
  obtain hsl | hsl := Quad.mem_list_set hsl
  · obtain rfl := Option.some.inj hsl
    exact apart hs _ (by simp [Function.comp_def])
  · exact hs.2.2.2 _ hsl _ rfl

theorem State.inForce_min {s : State} (h : ∀ n, 1 ≤ (s.profile n).minGrant) (f : FeederId) (d l : Nat) (p : Profile)
    (hp : s.inForce f d l = some p) : 1 ≤ p.minGrant := by
  unfold State.inForce at hp
  dsimp only at hp
  split at hp
  · obtain rfl := Option.some.inj hp; exact h _
  · split at hp
    · obtain rfl := Option.some.inj hp; exact h _
    · split at hp
      · cases hp
      · obtain rfl := Option.some.inj hp; exact h _
    · cases hp

theorem Feeder.rangingList_length (x : Feeder) (n : CycleNo) : (x.rangingList n).length ≤ 64 :=
  (List.length_filter_le _ _).trans (by decide)

theorem Feeder.foldl_reportEntry_frame (n : CycleNo) (l : List Entry) (x : Feeder) :
    ∃ drops, l.foldl (reportEntry n) x = { x with drops := drops } := by
  induction l generalizing x with
  | nil => exact ⟨x.drops, rfl⟩
  | cons e l ih =>
    obtain ⟨drops, folded⟩ := ih (reportEntry n x e)
    rw [List.foldl_cons, folded]
    exact ⟨drops, by cases e <;> rfl⟩

theorem buildGrants_frame (capacity : Nat) (n : CycleNo) (force : Nat → Nat → Option Profile) (x : Feeder) :
    ∃ lanes pointer, (buildGrants capacity n force x).feeder = { x with lanes := lanes, pointer := pointer } := by
  have stages : ∃ lanes, (stagesOf capacity n force x).feeder = { x with lanes := lanes } := by
    refine stagesOf_closed (R := fun x y => ∃ lanes, y = { x with lanes := lanes }) (fun x => ⟨x.lanes, rfl⟩) ?_
      (fun x d l r => ⟨_, rfl⟩) capacity n force x
    rintro x y z ⟨a, rfl⟩ ⟨b, rfl⟩
    exact ⟨b, rfl⟩
  obtain ⟨lanes, stages⟩ := stages
  refine ⟨lanes, (buildGrants capacity n force x).feeder.pointer, ?_⟩
  rw [buildGrants_stages, Build.pointed, stages]

/-- The build of a RUNNING feeder keeps the invariants, and the windows apart where those of its plan are. -/
theorem Feeder.keeps_build {x : Feeder} (running : x.running = true) (force : Nat → Nat → Option Profile) (n : CycleNo)
    {min : Prop} (apart : min → x.separated → ∀ sl : Slot, sl.windows.map Window.entry = layPlan x.settings (fun d => (x.drop d).rtd)
      (buildGrants (capacityOf x.settings (x.plansDiscovery n) ((x.decideDiscovery n).rangingList n).length) n force
        (x.decideDiscovery n)).bursts ((x.decideDiscovery n).rangingList n) (x.plansDiscovery n) →
      sl.apart x.settings.dk) :
    (x.canonical = true → (x.build force n).1.canonical = true) ∧
    (x.bounded = true → (x.build force n).1.bounded = true) ∧ (x.equalised → (x.build force n).1.equalised) ∧
    (min → x.separated → (x.build force n).1.separated) := by
  obtain ⟨y, hy, settings, drops, runs⟩ : ∃ y, y = x.decideDiscovery n ∧ y.settings = x.settings ∧
      y.drops = x.drops ∧ y.running = x.running := by
    have core := x.decideDiscovery_core n
    simp only [Feeder.core, Prod.mk.injEq] at core
    obtain ⟨h1, -, -, -, -, -, -, h8, h9, -⟩ := core
    exact ⟨_, rfl, h8, h1, h9⟩
  have rtd : (fun d => (y.drop d).rtd) = fun d => (x.drop d).rtd := by simp only [Feeder.drop, drops]
  unfold Feeder.build
  dsimp only
  rw [← hy] at apart ⊢
  rw [settings, rtd]
  obtain ⟨lanes, pointer, grants⟩ := buildGrants_frame (capacityOf x.settings (x.plansDiscovery n)
    (y.rangingList n).length) n force y
  have kept := keeps_buildGrants (capacityOf x.settings (x.plansDiscovery n) (y.rangingList n).length) n force y
  generalize buildGrants (capacityOf x.settings (x.plansDiscovery n) (y.rangingList n).length) n force y = b
    at apart grants kept ⊢
  generalize layPlan x.settings (fun d => (x.drop d).rtd) b.bursts (y.rangingList n) (x.plansDiscovery n) = plan
    at apart ⊢
  have decided : x.Keeps y := hy ▸ .of_core (x.decideDiscovery_core n)
  have before := (decided.trans kept).trans (Feeder.Keeps.foldl (keeps_reportEntry n) plan b.feeder)
  obtain ⟨table, reported⟩ := Feeder.foldl_reportEntry_frame n plan b.feeder
  have same : (plan.foldl (reportEntry n) b.feeder).running = x.running ∧
      (plan.foldl (reportEntry n) b.feeder).settings = x.settings := by
    rw [reported, grants]
    exact ⟨runs, settings⟩
  generalize plan.foldl (reportEntry n) b.feeder = z at before same ⊢
  obtain ⟨runs, settings⟩ := same
  refine ⟨before.canonical, before.bounded, fun h => ?_, fun hmin h => ?_⟩
  · obtain ⟨records, outside, -⟩ := before.equalised h
    exact ⟨records, outside, fun off => by simp [Feeder.handOn, Feeder.setSlot, runs, running] at off⟩
  · refine (keeps_handOn (runs.trans running) n plan fun _ sl windows => ?_).separated (before.separated h)
    rw [settings]
    exact apart hmin h sl windows

theorem owned_setFeeder_build (f : FeederId) (n : CycleNo) {s : State} (running : (s.feeder f).running = true) :
    Owned s (s.setFeeder f ((s.feeder f).build (s.inForce f) n).1) := by
  have settings : ((s.feeder f).decideDiscovery n).settings = (s.feeder f).settings := by
    have core := (s.feeder f).decideDiscovery_core n
    simp only [Feeder.core, Prod.mk.injEq] at core
    exact core.2.2.2.2.2.2.2.1
  obtain ⟨canonical, bounded, equalised, separated⟩ := Feeder.keeps_build running (s.inForce f) n
    (min := ∀ m, 1 ≤ (s.profile m).minGrant) fun hmin hs sl windows => by
      rw [← settings] at windows ⊢
      exact Feeder.build_apart ((Feeder.Keeps.of_core ((s.feeder f).decideDiscovery_core n)).separated hs) n
        (State.inForce_min hmin f) (Feeder.rangingList_length _ n) _ windows
  exact (Owned.refl s).then_onFeeder (k := fun _ => ((s.feeder f).build (s.inForce f) n).1) canonical (fun _ => bounded)
    (fun _ => equalised) fun hs => separated hs.1

theorem owned_buildPlan (f : FeederId) (n : CycleNo) (s : State) : Owned s (buildPlan f n s) := by
  unfold buildPlan
  split
  next running =>
    dsimp only
    split
    · exact (owned_setFeeder_build f n running).trans (owned_setOverbooked f n _)
    · exact owned_setFeeder_build f n running
  next => exact .refl s

theorem owned_framesBeforePlan (f : FeederId) (n : CycleNo) (s : State) : Owned s (framesBeforePlan f n s) := by
  have planFirst := (owned_buildPlan f n s).trans (owned_frameCycle f _)
  have framed : ∀ room, Owned s (takeFrames f (s.feeder f).downQueue room s) := fun room =>
    owned_takeFrames _ _ _ (.refl s) fun h => State.downQueue_le h f
  unfold framesBeforePlan
  dsimp only
  split
  · split
    · exact (framed _).trans (owned_buildPlan f n _)
    · exact planFirst
  · exact planFirst

end Sys2Proof.Machine
end


section
/-! PROOFS. What the agent and the resets do to the invariants and to the binding (R93, R176 to R182). -/

namespace Sys2Proof.Machine

/-! ## The agent's own state -/

/-- A change outside the feeders that may move the agent. -/
theorem Keeps.outside {s t : State} (feeders : t.feeders = s.feeders) (tables : s.tablesCanonical → t.tablesCanonical)
    (classes : s.classesBounded → t.classesBounded)
    (grants : (∀ n, 1 ≤ (s.profile n).minGrant) → ∀ n, 1 ≤ (t.profile n).minGrant)
    (binding : s.agent.bind = .bound → t.binding = s.binding) : Keeps s t := by
  have same : ∀ f, t.feeder f = s.feeder f := fun f => by rw [State.feeder, State.feeder, feeders]
  refine ⟨fun a => ?_, fun a => ?_, fun a f => same f ▸ a f, fun a => ⟨grants a.1, fun f => same f ▸ a.2 f⟩, binding⟩
  · rw [State.canonical_iff] at a ⊢
    exact ⟨tables a.1, fun f => same f ▸ a.2 f⟩
  · rw [State.bounded_iff] at a ⊢
    exact ⟨classes a.1, fun f => same f ▸ a.2 f⟩

theorem Keeps.onAgent {s : State} {g : Agent → Agent}
    (hold : s.agent.hold.length ≤ Config.holdPlaces → (g s.agent).hold.length ≤ Config.holdPlaces)
    (notices : s.agent.notices.length ≤ Config.noticePlaces → (g s.agent).notices.length ≤ Config.noticePlaces)
    (binding : s.agent.bind = .bound → (s.onAgent g).binding = s.binding) : Keeps s (s.onAgent g) :=
  .outside rfl id (fun ⟨h1, h2, h3, h4, h5, h6, h7, h8⟩ => ⟨h1, h2, h3, h4, hold h5, notices h6, h7, h8⟩) id binding

theorem keeps_onAgentCount (g : AgentCounters → AgentCounters) (s : State) : Keeps s (onAgentCount g s) :=
  .onAgent id id fun _ => rfl

theorem keeps_dropRequest (s : State) : Keeps s (dropRequest s) := .onAgent id id fun _ => rfl

/-! ## Answers (R178, R179) -/

theorem keeps_offerResponse (r : Response) {s : State} (room : holdFull s = false) : Keeps s (offerResponse r s) := by
  simp only [holdFull, decide_eq_false_iff_not, Nat.not_le] at room
  unfold offerResponse
  split
  next free =>
    refine .outside rfl id (fun ⟨_, h2, h3, h4, h5, h6, h7, h8⟩ => ⟨?_, h2, h3, h4, h5, h6, h7, h8⟩) id fun _ => rfl
    simpa using Nat.succ_le_of_lt free.2
  next => exact .onAgent (fun _ => by simpa using Nat.succ_le_of_lt room) id fun _ => rfl

theorem keeps_respond (tag : BitVec 16) (kind : Nat) (v : Verdict) {s : State} (room : holdFull s = false) :
    Keeps s (respond tag kind v s) := by
  cases v <;> exact keeps_offerResponse _ room

theorem keeps_answer (tag : BitVec 16) (kind : Nat) (v : Verdict) {s : State} (room : holdFull s = false) :
    Keeps s (answer tag kind v s) :=
  (keeps_onAgentCount (fun c => { c with taken := c.taken + 1 }) s).trans (keeps_respond tag kind v room)

theorem keeps_answerWaiting (l : List Inbound) (s : State) : Keeps s (answerWaiting l s) := by
  fun_induction answerWaiting l s with
  | case1 tag kind reason rest s ih =>
    refine .trans ?_ ih
    split
    · exact keeps_dropRequest s
    next room => exact keeps_answer _ _ _ (Bool.eq_false_iff.2 room)
  | case2 => exact .onAgent id id fun _ => rfl

theorem keeps_requestDone (s : State) : Keeps s (requestDone s) :=
  (keeps_answerWaiting _ s).trans (owned_arbitrate _).keeps

theorem keeps_inTurn (c : Instr) {take : State → State} (s : State) (h : Keeps s (take s)) : Keeps s (inTurn c take s) := by
  unfold inTurn
  split
  · exact h.trans (keeps_requestDone _)
  · exact .refl s

theorem keeps_whenBound (h : MgmtHead) {take : State → State} (s : State)
    (taken : holdFull s = false → Keeps s (take s)) : Keeps s (whenBound h take s) := by
  unfold whenBound
  split
  · exact keeps_onAgentCount (fun c => { c with notBound := c.notBound + 1 }) s
  · split
    · exact keeps_onAgentCount (fun c => { c with foreign := c.foreign + 1 }) s
    · split
      · exact keeps_dropRequest s
      next room => exact taken (Bool.eq_false_iff.2 room)

/-- A request decided by an owner and answered. -/
theorem keeps_takeRequest (c : Instr) (h : MgmtHead) (kind : Nat) {decideBy : State → State × Verdict} (s : State)
    (owned : Owned s (decideBy s).1) : Keeps s (takeRequest c h kind decideBy s) := by
  refine keeps_inTurn c s (keeps_whenBound h s fun room => owned.keeps.trans (keeps_answer _ _ _ ?_))
  rw [holdFull, owned.agent.hold]
  exact room

/-! ## Binding (R176) -/

theorem keeps_growBindAge (s : State) : Keeps s (growBindAge s) := by
  unfold growBindAge
  refine .onAgent (fun h => ?_) (fun h => ?_) fun bound => ?_
  · split <;> exact h
  · split <;> exact h
  · simp [State.onAgent, State.binding, bound]

theorem keeps_bindTimeout (s : State) : Keeps s (bindTimeout s) := by
  unfold bindTimeout
  refine .onAgent (fun h => ?_) (fun h => ?_) fun bound => ?_
  · split <;> exact h
  · split <;> exact h
  · simp [State.onAgent, State.binding, bound]

theorem keeps_beginBinding (h : MgmtHead) (number : Nat) {s : State} (room : holdFull s = false)
    (unbound : s.agent.bind ≠ .bound) : Keeps s (beginBinding h number s) :=
  .trans (.onAgent id id fun bound => absurd bound unbound) (keeps_answer _ _ _ room)

theorem keeps_bindDecided (h : MgmtHead) (number : Nat) (s : State) : Keeps s (bindDecided h number s) := by
  unfold bindDecided
  split
  next state =>
    split
    · exact keeps_dropRequest s
    next room => exact keeps_beginBinding h number (Bool.eq_false_iff.2 room) (by simp [state])
  next state =>
    split
    · exact keeps_dropRequest s
    next room =>
      split
      · exact .trans (.onAgent id id fun bound => by simp [state] at bound) (keeps_answer _ _ _ (Bool.eq_false_iff.2 room))
      · exact keeps_beginBinding h number (Bool.eq_false_iff.2 room) (by simp [state])
  next =>
    split
    · exact keeps_onAgentCount (fun c => { c with foreign := c.foreign + 1 }) s
    · split
      · exact keeps_dropRequest s
      next room => exact keeps_answer _ _ _ (Bool.eq_false_iff.2 room)

theorem keeps_takeBind (h : MgmtHead) (number : Nat) (s : State) : Keeps s (takeBind h number s) :=
  (keeps_bindTimeout s).trans (keeps_bindDecided h number _)

/-! ## What joins the classes (R179, R183) -/

theorem keeps_releaseHeld (s : State) : Keeps s (releaseHeld s) := by
  unfold releaseHeld
  split
  · exact .refl s
  next r rest hold =>
    split
    next room =>
      refine Keeps.trans ?_ (owned_arbitrate _).keeps
      refine .outside rfl id (fun ⟨h1, h2, h3, h4, h5, h6, h7, h8⟩ => ⟨?_, h2, h3, h4, ?_, h6, h7, h8⟩) id fun _ => rfl
      · simpa using Nat.succ_le_of_lt room
      · rw [hold] at h5
        exact Nat.le_of_succ_le h5
    next => exact .refl s

theorem keeps_offerNotice (s : State) : Keeps s (offerNotice s) := by
  unfold offerNotice
  split
  · exact .refl s
  next n rest queue =>
    split
    next room =>
      refine Keeps.trans ?_ (owned_arbitrate _).keeps
      refine .outside rfl id (fun ⟨h1, h2, h3, h4, h5, h6, h7, h8⟩ => ⟨h1, ?_, h3, h4, h5, ?_, h7, h8⟩) id fun _ => rfl
      · simpa using Nat.succ_le_of_lt room
      · rw [queue] at h6
        exact Nat.le_of_succ_le h6
    next => exact .refl s

theorem Keeps.repeat {g : State → State} (hg : ∀ s, Keeps s (g s)) (n : Nat) (s : State) : Keeps s (Nat.repeat g n s) := by
  induction n with
  | zero => exact .refl s
  | succ n ih => exact ih.trans (hg _)

theorem keeps_handOver (s : State) : Keeps s (handOver s) :=
  ((Keeps.repeat keeps_releaseHeld _ s).trans (Keeps.repeat keeps_offerNotice _ _)).trans (owned_exportAndSend _).keeps

/-! ## The uplink's frames (R141, R144, R177) -/

theorem keeps_takeManagement (bytes : List Byte) (s : State) : Keeps s (takeManagement bytes s) := by
  unfold takeManagement
  split
  · exact keeps_onAgentCount (fun c => { c with malformed := c.malformed + 1 }) s
  · split
    · unfold takeUnbound
      split
      · exact keeps_answerWaiting _ s
      · exact keeps_onAgentCount (fun c => { c with malformed := c.malformed + 1 }) s
      · exact keeps_onAgentCount (fun c => { c with notBound := c.notBound + 1 }) s
    · split
      · exact keeps_onAgentCount (fun c => { c with foreign := c.foreign + 1 }) s
      · unfold takeBound
        split
        · exact keeps_dropRequest s
        · split <;> exact keeps_answerWaiting _ s

theorem owned_onClassifier (g : ClassifierCounters → ClassifierCounters) (s : State) : Owned s (onClassifier g s) :=
  .outside rfl id id id rfl

theorem owned_onDownCount (f : FeederId) (g : DownstreamCounters → DownstreamCounters) (s : State) :
    Owned s (onDownCount f g s) := .onFeeder (.of_core rfl)

theorem owned_joinDownQueue (f : FeederId) (slot : Option Nat) (fr : DownFrame) (len : Nat) (s : State) :
    Owned s (joinDownQueue f slot fr len s) := by
  unfold joinDownQueue
  split
  next room =>
    have joined : Owned s (s.onFeeder f fun x => { x with downQueue := x.downQueue ++ [fr] }) := by
      refine (Owned.refl s).then_onFeeder id (fun _ hb => Feeder.bounded_downQueue hb ?_) (fun _ => id) fun _ => id
      simpa using Nat.succ_le_of_lt room
    dsimp only
    split
    · exact joined.trans (owned_onDownCount _ _ _)
    · exact (joined.trans (owned_onDownCount _ _ _)).trans (.onAccount _ _ _)
  next => exact owned_onDownCount _ _ s

theorem owned_admitDownstream (tag : Nat) (data : List Byte) (len : Nat) (s : State) :
    Owned s (admitDownstream tag data len s) := by
  unfold admitDownstream
  split
  · exact owned_onClassifier _ s
  · split
    · exact owned_onClassifier _ s
    · dsimp only
      split
      · exact owned_onDownCount _ _ s
      · split
        · exact owned_onDownCount _ _ s
        · unfold admitToDrop
          dsimp only
          split
          · exact owned_onDownCount _ _ s
          · split
            · exact owned_onDownCount _ _ s
            · exact owned_joinDownQueue _ _ _ _ s

theorem keeps_classify (bytes : List Byte) (fcsOk : Bool) (s : State) : Keeps s (classify bytes fcsOk s) := by
  unfold classify
  split
  · exact (owned_onClassifier _ s).keeps
  · split
    · exact keeps_takeManagement _ s
    · split
      · exact (owned_onClassifier _ s).keeps
      · split
        · exact (owned_onClassifier _ s).keeps
        · exact (owned_admitDownstream _ _ _ s).keeps

/-! ## The tables of the traffic path (R17, R142, R143) -/

theorem profileOf_min {r : ProfileFields} {p : Profile} (h : profileOf r = some p) : 1 ≤ p.minGrant := by
  unfold profileOf at h
  split at h
  · cases h
  · split at h
    · cases h
    next ok =>
      cases h
      simp only [within, not_or, not_not, Bool.and_eq_true, decide_eq_true_eq] at ok
      exact ok.2.1

theorem owned_writeProfile (entry : Nat) (r : ProfileFields) (s : State) : Owned s (writeProfile entry r s).1 := by
  unfold writeProfile
  split
  · exact .refl s
  · split
    · exact .refl s
    next p written =>
      refine .outside rfl (fun ⟨h1, h2, h3, h4, h5, h6⟩ => ⟨Tbl.wf_set _ h1 _ _, h2, h3, h4, h5, h6⟩) id (fun h n => ?_) rfl
      simp only [State.profile, Tbl.get_set]
      split
      · exact profileOf_min written
      · exact h n

theorem owned_writeTagMap (tag : Nat) (flow : Option Nat) (s : State) : Owned s (writeTagMap tag flow s).1 := by
  unfold writeTagMap
  split
  · exact .refl s
  · split
    · exact .refl s
    · split
      · exact .refl s
      · exact .outside rfl (fun ⟨h1, h2, h3, h4, h5, h6⟩ => ⟨h1, h2, Tbl.wf_set _ h3 _ _, h4, h5, h6⟩) id id rfl

theorem owned_writeFlow (n : Nat) (r : FlowFields) (s : State) : Owned s (writeFlow n r s).1 := by
  unfold writeFlow
  split
  · exact .refl s
  · split
    · exact .refl s
    · exact .outside rfl (fun ⟨h1, h2, h3, h4, h5, h6⟩ => ⟨h1, h2, h3, Tbl.wf_set _ h4 _ _, h5, h6⟩) id id rfl

theorem owned_clearFlagsDecided (flags : List Nat) (s : State) : Owned s (clearFlagsDecided flags s).1 := by
  unfold clearFlagsDecided
  split
  · exact .refl s
  · exact Owned.foldl (fun s n => owned_clearFlag s n) flags s

end Sys2Proof.Machine
end


section
/-! PROOFS. Every command keeps the invariants and a binding: the resets, the cycle start, and the arms of `exec`. -/

namespace Sys2Proof.Machine

/-! ## Resets (R93, R182) -/

theorem Feeder.reset_invariants :
    Feeder.reset.canonical = true ∧ Feeder.reset.bounded = true ∧ Feeder.reset.equalised ∧ Feeder.reset.separated := by
  have empty : ∀ d, Feeder.reset.drop d = DropRecord.empty := fun d => rfl
  refine ⟨by decide, by decide, ⟨fun d h => ?_, fun d _ => rfl, fun _ => ⟨fun d => rfl, rfl, rfl, rfl, rfl⟩⟩,
    by decide, by decide, fun _ => rfl, fun o ho sl hsl => ?_⟩
  · rw [empty] at h
    simp [DropRecord.empty, DropState.equalised] at h
  · subst hsl
    simp [Feeder.reset, Quad.list] at ho

/-- Settles O3. -/
theorem resetMeetsInvariants : Obligations.ResetMeetsInvariants := by
  unfold Obligations.ResetMeetsInvariants
  obtain ⟨canonical, bounded, equalised, separated⟩ := Feeder.reset_invariants
  have each : ∀ f, State.reset.feeder f = Feeder.reset := fun f => by cases f <;> rfl
  refine ⟨(State.canonical_iff _).2 ⟨⟨rfl, rfl, rfl, rfl, rfl, rfl⟩, fun f => each f ▸ canonical⟩,
    (State.bounded_iff _).2 ⟨by simp [State.classesBounded, State.reset, Uplink.reset, Agent.reset, Meter.reset],
      fun f => each f ▸ bounded⟩,
    fun f => each f ▸ equalised, fun n => Nat.le_refl 1, fun f => each f ▸ separated⟩

/-- A feeder after PART_RESET keeps what its settings keep. -/
theorem Feeder.keeps_partReset (x : Feeder) : x.Keeps x.partReset where
  canonical _ := Feeder.reset_invariants.1
  bounded _ := Feeder.reset_invariants.2.1
  equalised _ := by
    obtain ⟨-, outside, stopped⟩ := Feeder.reset_invariants.2.2.1
    refine ⟨fun d h => ?_, outside, stopped⟩
    have empty : (x.partReset.drop d).state = .empty := (stopped rfl).1 d
    have phase : (x.partReset.drop d).phase = none := rfl
    simp [empty, phase, DropState.equalised] at h
  separated h := by
    refine ⟨h.1, h.2.1, fun _ => rfl, fun o ho sl hsl => ?_⟩
    subst hsl
    simp [Feeder.partReset, Feeder.reset, Quad.list] at ho

/-- A change of every part, judged part by part. -/
theorem Keeps.parts {s t : State} (feeders : ∀ f, (s.feeder f).Keeps (t.feeder f))
    (tables : s.tablesCanonical → t.tablesCanonical) (classes : s.classesBounded → t.classesBounded)
    (grants : (∀ n, 1 ≤ (s.profile n).minGrant) → ∀ n, 1 ≤ (t.profile n).minGrant)
    (binding : s.agent.bind = .bound → t.binding = s.binding) : Keeps s t := by
  refine ⟨fun a => ?_, fun a => ?_, fun a f => (feeders f).equalised (a f),
    fun a => ⟨grants a.1, fun f => (feeders f).separated (a.2 f)⟩, binding⟩
  · rw [State.canonical_iff] at a ⊢
    exact ⟨tables a.1, fun f => (feeders f).canonical (a.2 f)⟩
  · rw [State.bounded_iff] at a ⊢
    exact ⟨classes a.1, fun f => (feeders f).bounded (a.2 f)⟩

theorem State.feeder_map (s : State) (g : Feeder → Feeder) (f : FeederId) :
    ({ s with feeders := s.feeders.map g } : State).feeder f = g (s.feeder f) := PerFeeder.get_map g s.feeders f

theorem Meter.partReset_accounts {m : Meter} (h : Tbl.wf Account.reset m.accounts = true) :
    Tbl.wf Account.reset m.partReset.accounts = true := by
  have abandoned : Tbl.wf Account.reset m.abandonPass.accounts = true := by
    unfold Meter.abandonPass
    split
    · exact h
    · dsimp only
      exact Tbl.wf_update _ _ h
  unfold Meter.partReset
  dsimp only
  exact Tbl.wf_update _ _ abandoned

theorem Meter.abandonPass_frame (m : Meter) :
    m.abandonPass = { m with pass := none, accounts := m.abandonPass.accounts } := by
  unfold Meter.abandonPass
  split
  next none => cases m; cases none; rfl
  next => rfl

theorem Meter.partReset_frame (m : Meter) :
    m.partReset = { m with pass := none, unbilled := 0, accounts := m.partReset.accounts } := by
  unfold Meter.partReset
  rw [m.abandonPass_frame]

theorem keeps_partReset (s : State) : Keeps s (partReset s) := by
  refine (owned_quarterBoundary s).keeps.trans ?_
  unfold partReset
  generalize quarterBoundary s = t
  have meter := t.meter.partReset_frame
  refine .parts (fun f => ?_) (fun ⟨h1, h2, h3, h4, h5, h6⟩ => ⟨h1, h2, h3, h4, Meter.partReset_accounts h5, ?_⟩)
    (fun ⟨h1, h2, h3, h4, h5, h6, h7, h8⟩ => ?_) id fun _ => rfl
  · exact (show _ = (t.feeder f).partReset from t.feeder_map _ f) ▸ (t.feeder f).keeps_partReset
  · dsimp only
    rw [meter]
    exact h6
  · refine ⟨Nat.zero_le _, Nat.zero_le _, Nat.zero_le _, Nat.zero_le _, Nat.zero_le _, Nat.zero_le _, ?_, ?_⟩ <;>
      dsimp only <;> rw [meter] <;> assumption

/-! ## The cycle start (R1) -/

theorem keeps_runWork (n : CycleNo) (s : State) (w : CycleWork) : Keeps s (runWork n s w) := by
  cases w with
  | build f => exact (owned_buildPlan f n s).keeps
  | orders f => exact (owned_takeOrders f n s).keeps
  | frames f => exact (owned_frameCycle f s).keeps
  | framesFirst f => exact (owned_framesBeforePlan f n s).keeps
  | framesTo f count => exact (owned_framePart f n count s).keeps
  | idle f => exact (owned_countIdle f s).keeps
  | doze f => exact (owned_dozeTests f s).keeps
  | queryAge f => exact (owned_growQueryAges f s).keeps
  | queryTimeout f => exact (owned_queryTimeouts f s).keeps
  | decay f => exact (owned_countDecay f s).keeps
  | strikeDecay f => exact (owned_strikeDecay f s).keeps
  | autoIsolate f => exact (owned_autoIsolate f s).keeps
  | refill => exact (owned_updateAccounts s _).keeps
  | outage => exact (owned_updateAccounts s _).keeps
  | quarter => exact (owned_countQuarter s).keeps
  | boundary => exact (owned_quarterBoundary s).keeps
  | closeThrough slot => exact (owned_closeThrough slot s).keeps
  | exportCount => exact (Owned.trans (.onMeter id id id fun _ => Nat.zero_le _) (owned_exportAndSend _)).keeps
  | bindAge => exact keeps_growBindAge s
  | bindTimeout => exact keeps_bindTimeout s
  | ageOut => exact (Owned.foldl (fun s f => owned_ageOuts f s) _ s).keeps

theorem owned_settleFeeder (s : State) (f : FeederId) : Owned s (settleFeeder s f) :=
  (((owned_dozeTests f s).trans (owned_queryTimeouts f _)).trans (owned_strikeDecay f _)).trans (owned_ageOuts f _)

theorem keeps_settle (s : State) : Keeps s (settle s) :=
  (((((Owned.foldl owned_settleFeeder _ s).keeps.trans (keeps_bindTimeout _)).trans (owned_quarterBoundary _).keeps).trans
    (owned_closeSteps _ _).keeps).trans (keeps_handOver _))

theorem keeps_newOrigin (s : State) : Keeps s (newOrigin s) :=
  .parts (fun f => by
    have cycle : (newOrigin s).feeder f = (s.feeder f).newCycle (s.cycle + 1) :=
      State.feeder_map { s with cycle := s.cycle + 1 } (fun x => x.newCycle (s.cycle + 1)) f
    rw [cycle]
    exact (s.feeder f).keeps_newCycle _) id id id fun _ => rfl

theorem keeps_cycleStart (order : List CycleWork) (s : State) : Keeps s (cycleStart order s) :=
  ((keeps_settle s).trans (keeps_newOrigin _)).trans (Keeps.foldl (keeps_runWork _) _ _)

/-! ## The commands -/

/-- A command keeps what every step keeps, in the state it answers. -/
def Preserves (s : State) (o : Host.Outcome State Fault Refusal) : Prop := ∀ t, o = .next t → Keeps s t

theorem preserves_live {s : State} {g : State → State} (h : Keeps s (g s)) : Preserves s (live s g) := by
  intro t ht
  unfold live at ht
  split at ht <;> cases ht
  · exact .refl s
  · exact h

theorem preserves_onFeeder {s : State} {f : FeederId} {g : Feeder → Feeder} (h : ∀ x : Feeder, x.Keeps (g x)) :
    Preserves s (live s fun s => s.onFeeder f g) := preserves_live (Owned.onFeeder (h _)).keeps

theorem preserves_request (c : Instr) (h : MgmtHead) (kind : Nat) {decideBy : State → State × Verdict} {s : State}
    (owned : Owned s (decideBy s).1) : Preserves s (live s (takeRequest c h kind decideBy)) :=
  preserves_live (keeps_takeRequest c h kind s owned)

theorem Feeder.keeps_readWords (words : List Word) (x : Feeder) : x.Keeps (words.foldl Feeder.readWord x) :=
  Feeder.Keeps.foldl Feeder.keeps_readWord words x

theorem preserves_execPartReset (h : MgmtHead) (s : State) : Preserves s (execPartReset h s) := by
  refine preserves_live (keeps_inTurn _ s (keeps_whenBound h s fun _ => ?_))
  exact ((keeps_partReset s).trans (keeps_respond _ _ _ rfl)).trans (owned_exportRecords _).keeps

theorem preserves_execResetPinHeld (s : State) : Preserves s (execResetPinHeld s) := by
  intro t ht
  cases ht
  exact .parts (fun f => (show _ = _ from State.feeder_map _ _ f) ▸ .of_core rfl) id id id fun _ => rfl

theorem preserves_execCycleStart (order : List CycleWork) (s : State) : Preserves s (execCycleStart order s) := by
  unfold execCycleStart
  split
  · intro t ht; cases ht
  · exact preserves_live (keeps_cycleStart order s)

theorem preserves_execAdmissionTimeout (f : FeederId) (tag : FactoryTag) (s : State) :
    Preserves s (execAdmissionTimeout f tag s) := by
  unfold execAdmissionTimeout
  exact preserves_live (Owned.foldl (owned_timeoutEntry f) _ s).keeps

theorem preserves_execAdmissionLookup (f : FeederId) (s : State) : Preserves s (execAdmissionLookup f s) := by
  unfold execAdmissionLookup
  refine preserves_live ?_
  split
  · exact .refl s
  next e found => exact (owned_lookupEntry (List.mem_of_find?_eq_some found)).keeps

/-- Every command but POWER_ON_RESET keeps the invariants and a binding. -/
theorem preserves_exec {c : Instr} (hc : c ≠ .powerOnReset) (s : State) : Preserves s (exec c s) := by
  cases c with
  | powerOnReset => exact absurd rfl hc
  | cycleStart order => exact preserves_execCycleStart order s
  | doze f d => exact preserves_live (g := fun s => dozeTest f s d) (owned_dozeTest f s d).keeps
  | admissionTimeout f tag => exact preserves_execAdmissionTimeout f tag s
  | bindTimeout => exact preserves_live (keeps_bindTimeout s)
  | reassemblyAgeOut f d lane => exact preserves_live (g := fun s => ageOutSlot f s (d, lane)) (owned_ageOutSlot f s (d, lane)).keeps
  | strikeDecay f => exact preserves_live (owned_strikeDecay f s).keeps
  | quarterBoundary => exact preserves_live (owned_quarterBoundary s).keeps
  | closeStep => exact preserves_live (owned_closeStep s).keeps
  | upstreamCycleBegin f n => exact preserves_onFeeder fun x => x.keeps_beginCycle n
  | upstreamCycleEnd f n light => exact preserves_live (owned_endCycle f n light s).keeps
  | syncFirstTransition f edge =>
    refine preserves_live ?_
    split
    · exact (Owned.onFeeder (Feeder.keeps_firstTransition _ _)).keeps
    · exact .refl s
  | syncMarkMeasured f span => exact preserves_onFeeder fun x => x.keeps_markMeasured span
  | syncOverlong f => exact preserves_onFeeder Feeder.keeps_markOverlong
  | labelRead f label => exact preserves_onFeeder fun x => x.keeps_readLabel label
  | segmentSplit f words => exact preserves_onFeeder (Feeder.keeps_readWords words)
  | endMarkRead f words endMark =>
    exact preserves_onFeeder fun x => (x.keeps_readWords words).trans (Feeder.keeps_readEnd _ endMark)
  | rangeReplyRead f label echo endMark => exact preserves_onFeeder fun x => x.keeps_readRange label echo endMark
  | discoveryReplyRead f label tagHigh tagLow info endMark =>
    exact preserves_live (owned_readReply f label tagHigh tagLow info endMark s).keeps
  | admissionLookup f => exact preserves_execAdmissionLookup f s
  | burstWindowResolved f n d => exact preserves_live (owned_resolveWindow f n (.burst d) s).keeps
  | rangingWindowResolved f n d => exact preserves_live (owned_resolveWindow f n (.ranging d) s).keeps
  | discoveryWindowResolved f n => exact preserves_live (owned_resolveWindow f n .discovery s).keeps
  | stuckOnset f words => exact preserves_live (g := fun s => feedRun f s ⟨true, words⟩) (owned_feedRun f s ⟨true, words⟩).keeps
  | stuckClear f words => exact preserves_live (g := fun s => feedRun f s ⟨false, words⟩) (owned_feedRun f s ⟨false, words⟩).keeps
  | uplinkFrameReceived bytes fcsOk =>
    exact preserves_live (g := fun s => arbitrate (classify bytes fcsOk s))
      ((keeps_classify bytes fcsOk s).trans (owned_arbitrate _).keeps)
  | uplinkLinkChange up =>
    have link : Keeps s (s.onUplink fun u => { u with linkUp := up }) := .outside rfl id id id fun _ => rfl
    exact preserves_live (g := fun s => arbitrate (s.onUplink fun u => { u with linkUp := up }))
      (link.trans (owned_arbitrate _).keeps)
  | transmissionEnd => exact preserves_live (g := fun s => arbitrate (transmissionEnds s)) ((owned_transmissionEnds s).trans (owned_arbitrate _)).keeps
  | responseHoldRelease => exact preserves_live (keeps_releaseHeld s)
  | noticeOffer => exact preserves_live (keeps_offerNotice s)
  | statementExport => exact preserves_live (owned_exportStatement s).keeps
  | bind h number => exact preserves_live (keeps_inTurn _ s (keeps_takeBind h number s))
  | read h table index => exact preserves_request _ h 2 (.refl s)
  | writeAdmission h place r => exact preserves_request _ h 3 (owned_writeAdmission place r s)
  | writeProfile h entry r => exact preserves_request _ h 3 (owned_writeProfile entry r s)
  | writeFlow h record r => exact preserves_request _ h 3 (owned_writeFlow record r s)
  | writeTagMap h tagNumber flow => exact preserves_request _ h 3 (owned_writeTagMap tagNumber flow s)
  | writeAccount h slot r => exact preserves_request _ h 3 (owned_writeAccount slot r s)
  | writeTariffPlan h plan r => exact preserves_request _ h 3 (owned_writeTariffPlan plan r s)
  | writeFeeder h feeder r => exact preserves_request _ h 3 (owned_writeFeeder feeder r s)
  | feederStart h feeder => exact preserves_request _ h 4 (owned_startDecided feeder s)
  | feederStop h feeder => exact preserves_request _ h 5 (owned_stopDecided feeder s)
  | discovery h feeder mode => exact preserves_request _ h 6 (owned_discoveryDecided feeder mode s)
  | admitReply h feeder r => exact preserves_request _ h 7 (owned_admitDecided feeder r s)
  | refuse h feeder tag => exact preserves_request _ h 8 (owned_refuseDecided feeder tag s)
  | remove h feeder index => exact preserves_request _ h 9 (owned_removeDecided feeder index s)
  | darken h feeder index => exact preserves_request _ h 10 (owned_darkenDecided feeder index s)
  | relight h feeder index => exact preserves_request _ h 11 (owned_relightDecided feeder index s)
  | release h feeder index => exact preserves_request _ h 12 (owned_releaseDecided feeder index s)
  | isolate h feeder index => exact preserves_request _ h 13 (owned_isolateDecided feeder index s)
  | topUp h slot points => exact preserves_request _ h 14 (owned_topUp slot points s)
  | suspend h slot => exact preserves_request _ h 15 (owned_suspendAccount slot s)
  | resume h slot => exact preserves_request _ h 16 (owned_resumeAccount slot s)
  | setTariffClock h day quarter closeEvery => exact preserves_request _ h 17 (owned_setTariffClock day quarter closeEvery s)
  | exportHold h => exact preserves_request _ h 18 (owned_exportHold s)
  | exportResume h => exact preserves_request _ h 19 (owned_exportResume s)
  | clearFlags h flags => exact preserves_request _ h 20 (owned_clearFlagsDecided flags s)
  | partReset h => exact preserves_execPartReset h s
  | cutOffMark f => exact preserves_onFeeder Feeder.keeps_markCutOff
  | resetPinHeld => exact preserves_execResetPinHeld s

/-! ## Steps -/

/-- What every step keeps from the state with its command taken off the queue. -/
theorem step_cases {s t : State} (h : step s = .next t) :
    t = s ∨ ∃ c rest, s.pending = c :: rest ∧
      ((c = .powerOnReset ∧ t = { State.reset with pending := rest }) ∨
       (c ≠ .powerOnReset ∧ Keeps { s with pending := rest } t)) := by
  unfold step at h
  split at h
  · cases h; exact .inl rfl
  next c rest waits =>
    refine .inr ⟨c, rest, waits, ?_⟩
    by_cases reset : c = .powerOnReset
    · subst reset
      cases h
      exact .inl ⟨rfl, rfl⟩
    · exact .inr ⟨reset, preserves_exec reset _ t h⟩

/-- An invariant that the reset state meets, that every command keeps and that the queue of commands is no part of. -/
theorem step_invariant {p : State → Prop} (reset : p State.reset) (keeps : ∀ {s t}, Keeps s t → p s → p t)
    (queue : ∀ s rest, p s → p { s with pending := rest }) {s t : State} (hs : p s) (h : step s = .next t) : p t := by
  obtain rfl | ⟨c, rest, -, ⟨-, rfl⟩ | ⟨-, kept⟩⟩ := step_cases h
  · exact hs
  · exact queue _ _ reset
  · exact keeps kept (queue _ _ hs)

/-- Settles O57. -/
theorem storageFormIsKept : Obligations.StorageFormIsKept := by
  unfold Obligations.StorageFormIsKept
  obtain ⟨canonical, bounded, -⟩ := resetMeetsInvariants
  exact ⟨fun s t => step_invariant canonical Keeps.canonical fun _ _ => id,
    fun s t => step_invariant bounded Keeps.bounded fun _ _ => id⟩

/-- Settles O58. -/
theorem equalisationIsKept : Obligations.EqualisationIsKept := by
  unfold Obligations.EqualisationIsKept
  obtain ⟨-, -, equalised, -⟩ := resetMeetsInvariants
  exact fun s t => step_invariant equalised Keeps.equalised fun _ _ => id

/-- Settles O59. -/
theorem windowSeparationIsKept : Obligations.WindowSeparationIsKept := by
  unfold Obligations.WindowSeparationIsKept
  obtain ⟨-, -, -, separated⟩ := resetMeetsInvariants
  exact fun s t => step_invariant separated Keeps.separated fun _ _ => id

/-- Settles O60: every command but POWER_ON_RESET keeps the binding of a BOUND agent. -/
theorem onlyPowerOnResetEndsABinding : Obligations.OnlyPowerOnResetEndsABinding := by
  unfold Obligations.OnlyPowerOnResetEndsABinding
  intro s t bound front h
  obtain rfl | ⟨c, rest, waits, ⟨rfl, -⟩ | ⟨-, kept⟩⟩ := step_cases h
  · rfl
  · exact absurd waits (front rest)
  · exact kept.binding bound

/-- Settles O1. -/
theorem stepTakesFrontCommand : Obligations.StepTakesFrontCommand := by
  unfold Obligations.StepTakesFrontCommand
  refine ⟨fun c rest s waits => ?_, fun s none => ?_⟩
  · simp only [step, waits]
  · simp only [step, none]

/-- Settles O2. -/
theorem powerOnResetValues : Obligations.PowerOnResetValues := by
  unfold Obligations.PowerOnResetValues
  intro s
  have each : ∀ f, ({ State.reset with pending := s.pending } : State).feeder f = Feeder.reset := fun f => by
    cases f <;> rfl
  refine ⟨{ State.reset with pending := s.pending }, rfl, rfl, rfl, fun f => ?_, fun n => ?_, ?_⟩
  · rw [each]
    exact ⟨rfl, rfl, rfl, rfl, rfl, rfl, rfl, rfl, rfl, rfl, rfl, rfl, rfl, rfl, rfl, rfl, rfl, rfl, rfl, rfl, rfl, rfl,
      rfl, rfl, fun d lane => ⟨rfl, rfl, rfl, rfl⟩⟩
  · exact ⟨rfl, rfl, rfl, rfl, rfl, rfl⟩
  · exact ⟨rfl, rfl, rfl, rfl, rfl, rfl, rfl, rfl, rfl, rfl, rfl, rfl, rfl, rfl, rfl, rfl, rfl, rfl, rfl, rfl, rfl, rfl,
      rfl, rfl, rfl⟩

/-- Settles O4. -/
theorem heldResetPinFreezesThePart : Obligations.HeldResetPinFreezesThePart := by
  unfold Obligations.HeldResetPinFreezesThePart
  refine ⟨fun s => ⟨_, rfl, rfl, fun f => ?_, rfl⟩, fun c s held notReset notPin => ?_⟩
  · exact PerFeeder.get_map (fun x : Feeder => { x with sending := none }) s.feeders f
  · have frozen : ∀ g, live s g = .next s := fun g => by simp [live, held]
    cases c
    case powerOnReset => exact absurd rfl notReset
    case resetPinHeld => exact absurd rfl notPin
    case cycleStart order => simp [exec, execCycleStart, held, frozen]
    case doze | admissionTimeout | reassemblyAgeOut | upstreamCycleBegin | syncMarkMeasured | syncOverlong | labelRead |
        segmentSplit | endMarkRead | rangeReplyRead | admissionLookup | stuckOnset | stuckClear | uplinkFrameReceived |
        uplinkLinkChange | transmissionEnd | cutOffMark =>
      simp only [exec, execDoze, execAdmissionTimeout, execReassemblyAgeOut, execUpstreamCycleBegin, execSyncMarkMeasured,
        execSyncOverlong, execLabelRead, execSegmentSplit, execEndMarkRead, execRangeReplyRead, execAdmissionLookup,
        execStuckOnset, execStuckClear, execUplinkFrameReceived, execUplinkLinkChange, execTransmissionEnd,
        execCutOffMark, frozen]
    all_goals exact frozen _

end Sys2Proof.Machine
end


section
/-! PROOFS. Requests that write or read one record: the tables of the traffic path, the accounts, the plans, the flags and
the EXPORT state (R17, R85, R142, R143, R154, R161 to R168, R174, R180, R184). -/

namespace Sys2Proof.Machine

/-! ## What the resets and a stop leave -/

theorem quarterBoundary_frame (s : State) : quarterBoundary s = { s with meter := (quarterBoundary s).meter } := by
  unfold quarterBoundary
  split <;> rfl

theorem quarterBoundary_held (s : State) : (quarterBoundary s).meter.held = s.meter.held := by
  unfold quarterBoundary
  split <;> rfl

theorem exportFirst_frame (k : Nat) (s : State) :
    exportFirst k s = { s with meter := (exportFirst k s).meter, uplink := (exportFirst k s).uplink } := rfl

/-- What a request in its turn leaves: its own work, and the answers. -/
theorem inTurn_cases (c : Instr) (take : State → State) (s : State) :
    inTurn c take s = s ∨ (s.turn c = true ∧ OnlyAnswered (take s) (inTurn c take s)) := by
  unfold inTurn
  split
  next turn => exact .inr ⟨turn, requestDone_only _⟩
  next => exact .inl rfl

/-- A request not taken is only counted. -/
theorem whenBound_cases (h : MgmtHead) (take : State → State) (s : State) :
    OnlyAnswered s (whenBound h take s) ∨ (s.agent.bind = .bound ∧ s.agent.controller = some h.src ∧
      holdFull s = false ∧ whenBound h take s = take s) := by
  unfold whenBound
  split
  · exact .inl ⟨rfl, rfl, rfl⟩
  next bound =>
    split
    · exact .inl ⟨rfl, rfl, rfl⟩
    next controller =>
      split
      · exact .inl (dropRequest_only s)
      next room => exact .inr ⟨not_not.1 bound, not_not.1 controller, Bool.eq_false_iff.2 room, rfl⟩

/-- Answers leave the tables and the Usage Meter. -/
theorem OnlyAnswered.rest {s t : State} (h : OnlyAnswered s t) :
    t.tagMap = s.tagMap ∧ t.flows = s.flows ∧ t.meter = s.meter := by
  obtain ⟨e, -⟩ := h
  rw [e]
  exact ⟨rfl, rfl, rfl⟩

theorem respond_only (tag : BitVec 16) (kind : Nat) (v : Verdict) (s : State) : OnlyAnswered s (respond tag kind v s) := by
  rw [respond_eq]
  exact offerResponse_only _ s

/-- PART_RESET answers the state as it was but for the agent's answers, or resets the part and answers. -/
theorem exec_partReset_cases {h : MgmtHead} {s t : State} (ht : exec (.partReset h) s = .next t) :
    OnlyAnswered s t ∨ OnlyAnswered (exportRecords (respond h.tag 21 (.done .empty) (partReset s))) t := by
  change live s _ = _ at ht
  unfold live at ht
  split at ht
  · cases ht; exact .inl (.refl s)
  · cases ht
    obtain same | ⟨-, done⟩ := inTurn_cases (.partReset h)
      (whenBound h fun s => exportRecords (respond h.tag 21 (.done .empty) (partReset s))) s
    · rw [same]; exact .inl (.refl s)
    · obtain counted | ⟨-, -, -, taken⟩ := whenBound_cases h
        (fun s => exportRecords (respond h.tag 21 (.done .empty) (partReset s))) s
      · exact .inl (counted.trans done)
      · rw [taken] at done
        exact .inr done

/-- A request decided by an owner answers the state as it was but for the agent's answers, or the owner's. -/
theorem exec_request_cases {c : Instr} {h : MgmtHead} {kind : Nat} {D : State → State × Verdict} {s t : State}
    (he : exec c s = live s (takeRequest c h kind D)) (ht : exec c s = .next t) :
    OnlyAnswered s t ∨ OnlyAnswered (D s).1 t := by
  rw [he] at ht
  unfold live at ht
  split at ht
  · cases ht; exact .inl (.refl s)
  · cases ht
    obtain same | ⟨-, done⟩ := inTurn_cases c (whenBound h fun s => answer h.tag kind (D s).2 (D s).1) s
    · rw [takeRequest, same]; exact .inl (.refl s)
    · obtain counted | ⟨-, -, -, taken⟩ := whenBound_cases h (fun s => answer h.tag kind (D s).2 (D s).1) s
      · exact .inl (counted.trans done)
      · rw [taken] at done
        exact .inr ((answer_only h.tag kind (D s).2 (D s).1).trans done)

/-- A stop leaves the tables and the Uplink Port. -/
theorem stopFeeder_aside (f : FeederId) (s : State) : (stopFeeder f s).aside = s.aside :=
  (lineKept_stopRecords f dropIndices (s.onFeeder f Feeder.stopLine)).part

theorem stopDecided_aside (n : Nat) (s : State) : (stopDecided n s).1.aside = s.aside := by
  unfold stopDecided
  split
  · rfl
  · split
    · rfl
    · exact stopFeeder_aside _ s

/-- PART_RESET and FEEDER_STOP leave the tag map and the flow records (R142, R143). -/
theorem tables_of_partReset_or_stop {h : MgmtHead} {n : Nat} {s t : State}
    (ht : exec (.partReset h) s = .next t ∨ exec (.feederStop h n) s = .next t) :
    t.tagMap = s.tagMap ∧ t.flows = s.flows := by
  have only : ∀ {x}, OnlyAnswered x t → t.tagMap = x.tagMap ∧ t.flows = x.flows := fun h => ⟨h.rest.1, h.rest.2.1⟩
  rcases ht with ht | ht
  · obtain same | reset := exec_partReset_cases ht
    · exact only same
    · obtain ⟨e1, e2⟩ := only reset
      obtain ⟨r1, r2, -⟩ := (respond_only h.tag 21 (.done .empty) (partReset s)).rest
      have boundary := quarterBoundary_frame s
      have tagMap : (quarterBoundary s).tagMap = s.tagMap := by rw [boundary]
      have flows : (quarterBoundary s).flows = s.flows := by rw [boundary]
      exact ⟨e1.trans (r1.trans tagMap), e2.trans (r2.trans flows)⟩
  · obtain same | stopped := exec_request_cases (D := stopDecided n) rfl ht
    · exact only same
    · obtain ⟨e1, e2⟩ := only stopped
      have aside := stopDecided_aside n s
      simp only [State.aside, Prod.mk.injEq] at aside
      obtain ⟨-, -, -, -, -, h6, h7, -⟩ := aside
      exact ⟨e1.trans h6, e2.trans h7⟩

/-- PART_RESET leaves the EXPORT state (R174). -/
theorem held_of_partReset {h : MgmtHead} {s t : State} (ht : exec (.partReset h) s = .next t) :
    t.meter.held = s.meter.held := by
  obtain same | reset := exec_partReset_cases ht
  · rw [same.rest.2.2]
  · have answered := (respond_only h.tag 21 (.done .empty) (partReset s)).rest.2.2
    have exported : t.meter.held = (exportRecords (respond h.tag 21 (.done .empty) (partReset s))).meter.held :=
      congrArg Meter.held reset.rest.2.2
    calc t.meter.held = (respond h.tag 21 (.done .empty) (partReset s)).meter.held := exported
      _ = (quarterBoundary s).meter.partReset.held := congrArg Meter.held answered
      _ = s.meter.held := by rw [Meter.partReset_frame, quarterBoundary_held]

/-! ## PROFILE (R17) -/

theorem laneClassOf_code (c : LaneClass) : laneClassOf c.code = some c := by cases c <;> rfl

theorem laneClassOf_eq_none {n : Nat} (h : 2 < n) : laneClassOf n = none := by
  obtain ⟨m, rfl⟩ := Nat.exists_eq_add_of_lt h
  rw [show 2 + m + 1 = m + 3 by omega]
  rfl

theorem within_iff {lo hi n : Nat} : within lo hi n = true ↔ lo ≤ n ∧ n ≤ hi := by simp [within]

theorem profileOf_eq_none {r : ProfileFields} (h : 2 < r.cls ∨ r.cap = 0 ∨ r.minGrant = 0 ∨ 4096 < r.minGrant) :
    profileOf r = none := by
  unfold profileOf
  rcases h with h | h
  · rw [laneClassOf_eq_none h]
  · split
    · rfl
    · rw [if_pos]
      rw [within_iff]
      omega

theorem profileOf_eq_some {r : ProfileFields} {c : LaneClass} (cls : r.cls = c.code) (cap : 1 ≤ r.cap)
    (min : 1 ≤ r.minGrant) (max : r.minGrant ≤ 4096) :
    profileOf r = some ⟨c, Min.min r.rate 6400000, Min.min r.cap 25000, r.minGrant⟩ := by
  unfold profileOf
  rw [cls, laneClassOf_code]
  exact if_neg (by rw [within_iff]; omega)

theorem exec_read_done {h : MgmtHead} {table n : Nat} {body : ResponseBody} {s : State} (ha : Accepts (.read h table n) h s)
    (read : readTable table n s = .done body) : Done (.read h table n) h 2 body s s :=
  done_of ha rfl (by rw [read])

theorem readUpTo_done {last index : Nat} {body : ResponseBody} (h : index ≤ last) : readUpTo last index body = .done body :=
  if_pos h

/-- Settles O8. -/
theorem profileWriteClampsAndStores : Obligations.ProfileWriteClampsAndStores := by
  unfold Obligations.ProfileWriteClampsAndStores
  refine ⟨fun h n r s ha => ⟨fun bad => refuses_of ha rfl (if_pos bad), fun h1 h2 bad => refuses_of ha rfl ?_,
    fun c h1 h2 cls cap min max => ?_⟩, fun h n s ha le => exec_read_done ha (readUpTo_done le)⟩
  · rw [writeProfile, if_neg (by omega), profileOf_eq_none bad]
  · refine ⟨{ s with profiles := s.profiles.set Profile.reset n ⟨c, Min.min r.rate 6400000, Min.min r.cap 25000,
      r.minGrant⟩ }, done_of ha rfl ?_, rfl, Tbl.get_set_self .., fun m hm => Tbl.get_set_ne _ _ _ hm⟩
    rw [writeProfile, if_neg (by omega), profileOf_eq_some cls cap min max]
    simp only [State.profile, Tbl.get_set_self]

/-! ## TAG_MAP (R142) -/

/-- Settles O9. -/
theorem tagMapWriteStores : Obligations.TagMapWriteStores := by
  unfold Obligations.TagMapWriteStores
  refine ⟨fun h n o s ha => ⟨fun bad => refuses_of ha rfl (if_pos bad), fun edge flow => refuses_of ha rfl ?_,
    fun k h1 h2 flow bad => refuses_of ha rfl ?_, fun le edge flow => ?_⟩,
    fun h n s ha le => exec_read_done ha (readUpTo_done le), fun n => rfl, fun h f s t ht =>
    (tables_of_partReset_or_stop ht).1⟩
  · rw [writeTagMap, if_neg (by omega), if_pos ⟨edge, flow⟩]
  · subst flow
    rw [writeTagMap, if_neg (by omega), if_neg (by omega), if_pos (by simpa using bad)]
  · refine ⟨{ s with tagMap := s.tagMap.set none n o }, done_of ha rfl ?_, rfl, Tbl.get_set_self ..,
      fun m hm => Tbl.get_set_ne _ _ _ hm⟩
    have absent : ¬ ((n = 0 ∨ n = 4095) ∧ o.isSome = true) := fun ⟨h1, h2⟩ => by simp [edge h1] at h2
    have small : ¬ (o.any fun k => decide (2047 < k)) = true := by
      cases o with
      | none => simp
      | some k => simpa using flow k rfl
    rw [writeTagMap, if_neg (by omega), if_neg absent, if_neg small]
    simp only [State.tagEntry, Tbl.get_set_self]

/-! ## FLOW and TARIFF_PLAN (R143, R168) -/

theorem flowOf_eq_none {r : FlowFields}
    (h : 3 < r.feeder ∨ 64 < r.drop ∨ 3 < r.lane ∨ r.tag = 0 ∨ 4094 < r.tag ∨ 1 < r.enable) : flowOf r = none := by
  unfold flowOf
  rcases h with h | h
  · rw [FeederId.ofNat?_of_lt h]
  · split
    · rfl
    · rw [if_neg]
      rw [within_iff]
      omega

theorem flowOf_eq_some {r : FlowFields} {f : FeederId} (feeder : r.feeder = f.toNat) (drop : r.drop ≤ 64)
    (lane : r.lane ≤ 3) (tag : 1 ≤ r.tag) (tag' : r.tag ≤ 4094) (enable : r.enable ≤ 1) :
    flowOf r = some ⟨f, r.drop, r.lane, r.tag, decide (r.enable = 0)⟩ := by
  unfold flowOf
  rw [feeder, FeederId.ofNat?_toNat]
  exact if_pos ⟨drop, lane, within_iff.2 ⟨tag, tag'⟩, enable⟩

theorem planCopyOf_eq_none {r : PlanFields} (h : (∃ b ∈ r.bands, 3 < b) ∨ ∃ w ∈ r.weights, 15 < w) :
    planCopyOf r = none := by
  refine if_neg ?_
  simp only [List.all_eq_true, decide_eq_true_eq, not_and_or, not_forall, not_le]
  rcases h with ⟨b, hb, lt⟩ | ⟨w, hw, lt⟩
  · exact .inl ⟨b, hb, lt⟩
  · exact .inr ⟨w, hw, lt⟩

theorem planCopyOf_eq_some {r : PlanFields} (bands : ∀ b ∈ r.bands, b ≤ 3) (weights : ∀ w ∈ r.weights, w ≤ 15) :
    planCopyOf r = some ⟨r.bands, r.weights⟩ :=
  if_pos (by simpa only [List.all_eq_true, decide_eq_true_eq] using ⟨bands, weights⟩)

/-- A boundary due activates the pending copy of every plan (R169). -/
theorem quarterBoundary_tariffPlan {s : State} (due : s.meter.boundaryDue = true) (n : Nat) :
    (quarterBoundary s).tariffPlan n = (s.tariffPlan n).activate := by
  simp only [quarterBoundary, due, Bool.not_true, Bool.false_eq_true, if_false, State.tariffPlan, State.onMeter_meter]
  exact Tbl.get_update TariffPlan.reset (fun _ p => p.activate) (fun _ => rfl) s.meter.plans n

/-- Settles O10. -/
theorem flowAndPlanWritesReplaceTheirRecord : Obligations.FlowAndPlanWritesReplaceTheirRecord := by
  unfold Obligations.FlowAndPlanWritesReplaceTheirRecord
  refine ⟨⟨fun h n r s ha => ⟨fun bad => refuses_of ha rfl (if_pos bad), fun le bad => refuses_of ha rfl ?_,
    fun f le feeder drop lane tag tag' enable => ?_⟩, fun h n s ha le => exec_read_done ha (readUpTo_done le),
    fun n => rfl, fun h f s t ht => (tables_of_partReset_or_stop ht).2⟩,
    fun h n r s ha => ⟨fun bad => refuses_of ha rfl (if_pos bad), fun le bad => refuses_of ha rfl ?_,
    fun le bands weights => ?_⟩, fun s n c live due pending => ?_⟩
  · rw [writeFlow, if_neg (by omega), flowOf_eq_none bad]
  · refine ⟨{ s with flows := s.flows.set FlowRecord.reset n ⟨f, r.drop, r.lane, r.tag, decide (r.enable = 0)⟩ },
      done_of ha rfl ?_, rfl, Tbl.get_set_self .., fun m hm => Tbl.get_set_ne _ _ _ hm⟩
    rw [writeFlow, if_neg (by omega), flowOf_eq_some feeder drop lane tag tag' enable]
    simp only [State.flow, Tbl.get_set_self]
  · rw [writeTariffPlan, if_neg (by omega), planCopyOf_eq_none bad]
  · refine ⟨s.onMeter fun m => { m with
      plans := m.plans.set TariffPlan.reset n ⟨(s.tariffPlan n).active, some ⟨r.bands, r.weights⟩⟩ }, done_of ha rfl ?_, rfl, Tbl.get_set_self ..,
      fun m hm => Tbl.get_set_ne _ _ _ hm⟩
    rw [writeTariffPlan, if_neg (by omega), planCopyOf_eq_some bands weights]
  · refine ⟨quarterBoundary s, ?_, ?_⟩
    · change Machine.live s quarterBoundary = _
      simp [Machine.live, live]
    · rw [quarterBoundary_tariffPlan due]
      simp [TariffPlan.activate, pending]

end Sys2Proof.Machine
end


section
/-! PROOFS. READ, the ADMISSION and ACCOUNT tables, the account requests, the flags, the clock and the sweep
(R79, R85, R154, R161 to R166, R173, R174, R180, R184). -/

namespace Sys2Proof.Machine

/-! ## The agent's input once a request is done with (R178) -/

theorem answerWaiting_of_requests {l : List Inbound} (h : ∀ i ∈ l, ∃ c, i = .request c) (s : State) :
    answerWaiting l s = s.onAgent fun a => { a with inbox := l } := by
  cases l with
  | nil => rfl
  | cons i l =>
    obtain ⟨c, rfl⟩ := h i (by simp)
    rfl

/-- With no answer owed, a request done with leaves the agent's input alone. -/
theorem requestDone_agent {t : State} (none : NoneOwed t) :
    (requestDone t).agent = { t.agent with inbox := t.agent.inbox.drop 1 } := by
  rw [requestDone, arbitrate_agent, answerWaiting_of_requests fun i hi => none i (List.mem_of_mem_drop hi)]
  rfl

theorem takeRequest_taken {c : Instr} {h : MgmtHead} {kind : Nat} {D : State → State × Verdict} {s : State}
    (ha : Accepts c h s) : takeRequest c h kind D s = requestDone (answer h.tag kind (D s).2 (D s).1) := by
  obtain ⟨-, turn, bound, controller, room⟩ := ha
  rw [takeRequest, inTurn_eq, turn, if_pos rfl, whenBound_takes bound controller room]

theorem exec_request_taken {c : Instr} {h : MgmtHead} {kind : Nat} {D : State → State × Verdict} {s t : State}
    (ha : Accepts c h s) (he : exec c s = live s (takeRequest c h kind D)) (ht : exec c s = .next t) :
    t = requestDone (answer h.tag kind (D s).2 (D s).1) := by
  rw [he, live, ha.1, takeRequest_taken ha] at ht
  cases ht
  rfl

theorem offerResponse_agent (r : Response) (s : State) :
    (offerResponse r s).agent = { s.agent with hold := (offerResponse r s).agent.hold } := by
  unfold offerResponse
  split <;> rfl

theorem respond_agent (tag : BitVec 16) (kind : Nat) (v : Verdict) (s : State) :
    (respond tag kind v s).agent = { s.agent with hold := (respond tag kind v s).agent.hold } := by
  rw [respond_eq]
  exact offerResponse_agent _ s

/-- An answer counts one request more taken (R185). -/
theorem answer_agent (tag : BitVec 16) (kind : Nat) (v : Verdict) (s : State) :
    (answer tag kind v s).agent = { s.agent with
      hold := (answer tag kind v s).agent.hold, count := { s.agent.count with taken := s.agent.count.taken + 1 } } :=
  respond_agent tag kind v (s.onAgent fun a => { a with count := { a.count with taken := a.count.taken + 1 } })

/-! ## READ (R180) -/

theorem readTable_badTable {table : Nat} (h : table = 0 ∨ 12 < table) (index : Nat) (s : State) :
    readTable table index s = .refused .badTable := by
  rcases h with rfl | h
  · rfl
  · obtain ⟨m, rfl⟩ := Nat.exists_eq_add_of_lt h
    rw [show 12 + m + 1 = m + 13 by omega]
    rfl

/-- The last index of a table (R180, R187). -/
def lastIndex (table : Nat) : Nat := [511, 63, 2047, 4095, 255, 15, 3, 255, 1023, 3, 3, 0].getD (table - 1) 0

theorem readFeederTable_badIndex {index : Nat} (h : 3 < index) (body : FeederId → ResponseBody) :
    readFeederTable index body = .refused .badIndex := by
  rw [readFeederTable, FeederId.ofNat?_of_lt h]

theorem readFeederTable_done (f : FeederId) (body : FeederId → ResponseBody) :
    readFeederTable f.toNat body = .done (body f) := by
  rw [readFeederTable, FeederId.ofNat?_toNat]

theorem readUpTo_badIndex {last index : Nat} (h : last < index) (body : ResponseBody) :
    readUpTo last index body = .refused .badIndex := if_neg (by omega)

/-- A table is read by its own index, or by the feeder that its index names. -/
theorem readTable_cases {table : Nat} (h1 : 1 ≤ table) (h2 : table ≤ 12) (index : Nat) (s : State) :
    (∃ body, readTable table index s = readUpTo (lastIndex table) index body) ∨
    ∃ feeder body, readTable table index s = readFeederTable feeder body ∧ (3 < feeder ↔ lastIndex table < index) := by
  have perDrop : 3 < index / 64 ↔ 255 < index := by omega
  have perLane : 3 < index / 256 ↔ 1023 < index := by omega
  obtain rfl | rfl | rfl | rfl | rfl | rfl | rfl | rfl | rfl | rfl | rfl | rfl : table = 1 ∨ table = 2 ∨ table = 3 ∨
    table = 4 ∨ table = 5 ∨ table = 6 ∨ table = 12 ∨ table = 7 ∨ table = 10 ∨ table = 11 ∨ table = 8 ∨ table = 9 := by omega
  iterate 7 exact .inl ⟨_, rfl⟩
  iterate 3 exact .inr ⟨index, _, rfl, .rfl⟩
  · exact .inr ⟨index / 64, _, rfl, perDrop⟩
  · exact .inr ⟨index / 256, _, rfl, perLane⟩

theorem readTable_badIndex {table index : Nat} (h1 : 1 ≤ table) (h2 : table ≤ 12) (h : lastIndex table < index)
    (s : State) : readTable table index s = .refused .badIndex := by
  obtain ⟨body, own⟩ | ⟨feeder, body, named, reach⟩ := readTable_cases h1 h2 index s
  · rw [own, readUpTo_badIndex h]
  · rw [named, readFeederTable_badIndex (reach.2 h)]

theorem FeederId.exists_toNat {n : Nat} (h : n ≤ 3) : ∃ f : FeederId, n = f.toNat := by
  interval_cases n
  · exact ⟨.f0, rfl⟩
  · exact ⟨.f1, rfl⟩
  · exact ⟨.f2, rfl⟩
  · exact ⟨.f3, rfl⟩

theorem readFeederTable_within {index : Nat} (h : index ≤ 3) (body : FeederId → ResponseBody) :
    ∃ b, readFeederTable index body = .done b := by
  obtain ⟨f, rfl⟩ := FeederId.exists_toNat h
  exact ⟨_, readFeederTable_done f body⟩

theorem readTable_within {table index : Nat} (h1 : 1 ≤ table) (h2 : table ≤ 12) (h : index ≤ lastIndex table)
    (s : State) : ∃ body, readTable table index s = .done body := by
  obtain ⟨body, own⟩ | ⟨feeder, body, named, reach⟩ := readTable_cases h1 h2 index s
  · exact ⟨body, own.trans (readUpTo_done h)⟩
  · rw [named]
    exact readFeederTable_within (Nat.not_lt.1 fun far => Nat.not_lt.2 h (reach.1 far)) body

/-- Settles O7. -/
theorem readReturnsASnapshot : Obligations.ReadReturnsASnapshot := by
  unfold Obligations.ReadReturnsASnapshot
  intro h table index s ha
  refine ⟨fun bad => refuses_of ha rfl ?_, fun h1 h2 beyond => refuses_of ha rfl ?_, fun h1 h2 le => ?_⟩
  · rw [readTable_badTable bad, refuseWith]
  · rw [readTable_badIndex h1 h2 beyond, refuseWith]
  · obtain ⟨body, read⟩ := readTable_within h1 h2 le s
    have body_eq : ∀ {b}, readTable table index s = .done b → body = b := fun hb =>
      Verdict.done.inj (read.symm.trans hb)
    refine ⟨body, exec_read_done ha read, fun none t ht => ?_, fun e => body_eq ?_, fun e => body_eq ?_,
      fun e => body_eq ?_, fun e => body_eq ?_, fun e => body_eq ?_, fun e => body_eq ?_, fun f e i => body_eq ?_,
      fun f d e d1 d2 i => body_eq ?_, fun f d l e d1 d2 hl i => body_eq ?_, fun f e i => body_eq ?_,
      fun f e i => body_eq ?_, fun e => body_eq ?_⟩
    · rw [exec_request_taken (D := fun s => (s, readTable table index s)) ha rfl ht, requestDone_agent, answer_agent]
      intro i hi
      rw [answer_agent] at hi
      exact none i hi
    all_goals subst e
    case refine_9 =>
      have feeder : index / 64 = f.toNat := by cases f <;> simp [FeederId.toNat] at i ⊢ <;> omega
      have drop : index % 64 + 1 = d := by cases f <;> simp [FeederId.toNat] at i ⊢ <;> omega
      show readFeederTable (index / 64) _ = _
      rw [feeder, readFeederTable_done, drop]
    case refine_10 =>
      have feeder : index / 256 = f.toNat := by cases f <;> simp [FeederId.toNat] at i ⊢ <;> omega
      have drop : index % 256 / 4 + 1 = d := by cases f <;> simp [FeederId.toNat] at i ⊢ <;> omega
      have lane : index % 4 = l := by cases f <;> simp [FeederId.toNat] at i ⊢ <;> omega
      show readFeederTable (index / 256) _ = _
      rw [feeder, readFeederTable_done, drop, lane]
    case refine_8 => subst i; exact readFeederTable_done f _
    case refine_11 => subst i; exact readFeederTable_done f _
    case refine_12 => subst i; exact readFeederTable_done f _
    all_goals exact readUpTo_done le

/-! ## ADMISSION (R85) -/

theorem restrictionOf_eq_none {n : Nat} (h : 4 < n) : restrictionOf n = none := by
  obtain ⟨m, rfl⟩ := Nat.exists_eq_add_of_lt h
  rw [show 4 + m + 1 = m + 5 by omega]
  rfl

theorem restrictionOf_code (o : Option FeederId) : restrictionOf (restrictionCode o) = some o := by
  cases o with
  | none => rfl
  | some f => cases f <;> rfl

theorem termsOk_iff (preferred : Option Nat) (account : Nat) (profiles : Quad Nat) :
    termsOk preferred account profiles = true ↔ (∀ p, preferred = some p → 1 ≤ p ∧ p ≤ 64) ∧ account ≤ 255 ∧
      profiles.q0 ≤ 63 ∧ profiles.q1 ≤ 63 ∧ profiles.q2 ≤ 63 ∧ profiles.q3 ≤ 63 := by
  cases preferred <;> simp [termsOk, Quad.allq, within_iff, and_assoc]

theorem admissionOf_eq_none {r : AdmissionFields}
    (h : 2 < r.verdict ∨ 4 < r.restriction ∨ r.preferred = some 0 ∨ (∃ p, r.preferred = some p ∧ 64 < p) ∨
      255 < r.account ∨ 63 < r.profiles.q0 ∨ 63 < r.profiles.q1 ∨ 63 < r.profiles.q2 ∨ 63 < r.profiles.q3) :
    admissionOf r = none := by
  unfold admissionOf
  split
  · rfl
  next rs restriction =>
    have range : ¬ 4 < r.restriction := fun lt => by simp [restrictionOf_eq_none lt] at restriction
    split
    · rfl
    next ok =>
      simp only [Bool.not_eq_true', Bool.not_eq_false, termsOk_iff] at ok
      obtain ⟨preferred, account, p0, p1, p2, p3⟩ := ok
      have verdict : 2 < r.verdict := by
        rcases h with h | h | h | ⟨p, h, lt⟩ | h
        · exact h
        · exact absurd h range
        · have := preferred 0 h; omega
        · have := preferred p h; omega
        · omega
      obtain ⟨m, e⟩ := Nat.exists_eq_add_of_lt verdict
      rw [e, show 2 + m + 1 = m + 3 by omega]
      rfl

theorem admissionOf_empty {r : AdmissionFields} {o : Option FeederId} (restriction : r.restriction = restrictionCode o)
    (terms : termsOk r.preferred r.account r.profiles = true) (verdict : r.verdict = 2) : admissionOf r = some none := by
  simp [admissionOf, restriction, restrictionOf_code, terms, verdict]

theorem admissionOf_entry {r : AdmissionFields} {o : Option FeederId} {v : AdmissionVerdict}
    (restriction : r.restriction = restrictionCode o) (terms : termsOk r.preferred r.account r.profiles = true)
    (verdict : v = .permit ∧ r.verdict = 0 ∨ v = .deny ∧ r.verdict = 1) :
    admissionOf r = some (some ⟨r.tag, v, o, r.preferred, r.account, r.profiles⟩) := by
  rcases verdict with ⟨rfl, verdict⟩ | ⟨rfl, verdict⟩ <;>
    simp [admissionOf, restriction, restrictionOf_code, terms, verdict]

theorem restrictionCode_surj {n : Nat} (h : n ≤ 4) : ∃ o, n = restrictionCode o := by
  interval_cases n
  · exact ⟨none, rfl⟩
  · exact ⟨some .f0, rfl⟩
  · exact ⟨some .f1, rfl⟩
  · exact ⟨some .f2, rfl⟩
  · exact ⟨some .f3, rfl⟩

/-- Settles O11. -/
theorem admissionWriteKeepsOnePlacePerTag : Obligations.AdmissionWriteKeepsOnePlacePerTag := by
  unfold Obligations.AdmissionWriteKeepsOnePlacePerTag
  intro h n r s ha
  refine ⟨fun bad => refuses_of ha rfl (if_pos bad), fun le bad => refuses_of ha rfl ?_,
    fun le restriction preferred account p0 p1 p2 p3 => ?_⟩
  · rw [writeAdmission, if_neg (by omega), admissionOf_eq_none bad]
  · have terms : termsOk r.preferred r.account r.profiles = true :=
      (termsOk_iff ..).2 ⟨preferred, account, p0, p1, p2, p3⟩
    have written : ∀ {e}, admissionOf r = some e → ∃ x : State, Done (.writeAdmission h n r) h 3 (.admission e) s x ∧
        x = { s with admission := x.admission } ∧ x.admission = admissionWrite n e s.admission := by
      intro e he
      refine ⟨{ s with admission := admissionWrite n e s.admission }, done_of ha rfl ?_, rfl, rfl⟩
      rw [writeAdmission, if_neg (by omega), he]
      simp only [State.place, admissionWrite, Tbl.get_set_self]
    refine ⟨fun verdict => ?_, fun v o verdict code => ?_⟩
    · obtain ⟨o, code⟩ := restrictionCode_surj restriction
      obtain ⟨x, done, only, table⟩ := written (e := none) (admissionOf_empty code terms verdict)
      refine ⟨x, done, only, ?_, fun m hm => ?_⟩
      · rw [State.place, table, admissionWrite, Tbl.get_set_self]
      · rw [State.place, table, admissionWrite, Tbl.get_set_ne _ _ _ hm]
        rfl
    · obtain ⟨x, done, only, table⟩ := written (e := some ⟨r.tag, v, o, r.preferred, r.account, r.profiles⟩) (admissionOf_entry code terms verdict)
      refine ⟨x, done, only, ?_, fun m hm => ?_⟩
      · rw [State.place, table, admissionWrite, Tbl.get_set_self]
      · rw [State.place, table, admissionWrite, Tbl.get_set_ne _ _ _ hm]
        dsimp only
        rw [Tbl.get_update _ _ (fun k => by simp)]
        simp only [ne_eq, hm, not_false_eq_true, true_and]
        rfl

/-! ## ACCOUNT (R154) -/

theorem accountModeOf_code (m : AccountMode) : accountModeOf m.code = some m := by cases m <;> rfl

theorem loadOf_eq_none {r : AccountFields} {a : Account} (h : r.loaded ≠ 1 ∨ 1 < r.mode ∨ 15 < r.plan ∨
    (r.scale ≠ 0 ∧ r.scale ≠ 6 ∧ r.scale ≠ 10) ∨ 2 ^ 40 - 1 < r.allowance ∨ 63 < r.floorProfile ∨
    400000 < r.floorRate) : loadOf r a = none := by
  unfold loadOf
  split
  · rfl
  next m mode =>
    have range : ¬ 1 < r.mode := fun lt => by
      obtain ⟨k, e⟩ := Nat.exists_eq_add_of_lt lt
      rw [e, show 1 + k + 1 = k + 2 by omega] at mode
      cases mode
    refine if_neg ?_
    simp only [Config.max40]
    omega

theorem State.account_onAccount_ne {s : State} {n k : Nat} (g : Account → Account) (h : k ≠ n) :
    (s.onAccount n g).account k = s.account k := by rw [State.account_onAccount, if_neg h]

/-- Settles O12. -/
theorem accountWriteLoadsOrUnloads : Obligations.AccountWriteLoadsOrUnloads := by
  unfold Obligations.AccountWriteLoadsOrUnloads
  intro h n r s ha
  have free : (s.account n).bound = none → ¬ (s.account n).bound.isSome = true := fun e => by simp [e]
  refine ⟨fun bad => refuses_of ha rfl (if_pos bad), fun le bound => refuses_of ha rfl ?_,
    fun le unbound unload => ⟨s.onAccount n fun a => { a with loaded := false }, done_of ha rfl ?_, rfl,
      State.account_onAccount_self .., fun m hm => State.account_onAccount_ne _ hm⟩,
    fun le unbound loaded => refuses_of ha rfl ?_, fun le unbound loaded bad => refuses_of ha rfl ?_,
    fun m le unbound loaded mode plan scale allowance floor rate => ?_⟩
  · rw [writeAccount, if_neg (by omega), if_pos (Option.isSome_iff_ne_none.2 bound)]
  · rw [writeAccount, if_neg (by omega), if_neg (free unbound), if_pos unload]
    simp only [State.account_onAccount_self]
  · rw [writeAccount, if_neg (by omega), if_neg (free unbound), if_neg (by omega), loadOf_eq_none (.inl (by omega))]
  · rw [writeAccount, if_neg (by omega), if_neg (free unbound), if_neg (by omega), loadOf_eq_none (.inr bad)]
  · have mode_iff : m = .counted ↔ r.mode = 0 := by rw [mode]; cases m <;> simp [AccountMode.code]
    refine ⟨s.onAccount n fun _ => _, _, done_of ha rfl ?_, rfl, rfl, State.account_onAccount_self ..,
      fun k hk => State.account_onAccount_ne _ hk⟩
    have load : loadOf r (s.account n) = some { Account.reset with
        loaded := true, code := r.code, mode := m, state := derivedState m r.allowance, plan := r.plan, scale := r.scale,
        allowance := r.allowance, floorProfile := r.floorProfile, floorRate := r.floorRate, bound := none } := by
      unfold loadOf
      rw [mode, accountModeOf_code]
      dsimp only
      rw [if_pos ⟨loaded, plan, scale, allowance, floor, rate⟩, unbound]
    rw [writeAccount, if_neg (by omega), if_neg (free unbound), if_neg (by omega), load]
    simp only [State.account_onAccount_self, derivedState, mode_iff]
    rfl

end Sys2Proof.Machine
end


section
/-! PROOFS. The account requests, the clock, the EXPORT state, the flags, the sweep and the transmit classes
(R79, R150 to R152, R161 to R166, R173, R174, R179, R183, R184). -/

namespace Sys2Proof.Machine

theorem live_next {s : State} (hp : s.resetHeld = false) (g : State → State) : live s g = .next (g s) := by
  simp [live, hp]

/-! ## TOP_UP, SUSPEND and RESUME (R161 to R163) -/

theorem notify_account (n : Notice) (s : State) (k : Nat) : (notify n s).account k = s.account k := by
  rw [State.account, notify_meter, State.account]

/-- Settles O21. -/
theorem accountRequestsMoveTheAccount : Obligations.AccountRequestsMoveTheAccount := by
  unfold Obligations.AccountRequestsMoveTheAccount
  refine ⟨fun h n points s ha => ⟨fun bad => refuses_of ha rfl (if_pos bad), fun le bad => refuses_of ha rfl ?_,
      fun le one most => ⟨fun unloaded => refuses_of ha rfl ?_, ?_⟩⟩,
    fun h n s ha => ⟨fun bad => refuses_of ha rfl (if_pos bad), fun le wrong => refuses_of ha rfl ?_,
      fun le loaded state => ?_⟩,
    fun h n s ha => ⟨fun bad => refuses_of ha rfl (if_pos bad), fun le wrong => refuses_of ha rfl ?_, ?_⟩⟩
  · rw [topUp, if_neg (by omega), if_pos]
    rw [within_iff, Config.max40]
    omega
  · rw [topUp, if_neg (by omega), if_neg (by rw [within_iff, Config.max40]; omega), unloaded]
    rfl
  · rintro a loaded rfl
    refine ⟨fun state => ⟨s.onAccount n fun _ => { s.account n with
        allowance := min ((s.account n).allowance + points) (2 ^ 40 - 1) }, done_of ha rfl ?_, rfl,
      State.account_onAccount_self .., fun k hk => State.account_onAccount_ne _ hk⟩,
      fun state => ⟨notify (.accountRestored n (s.account n).code (s.account n).bound
          (min ((s.account n).allowance + points) (2 ^ 40 - 1))) (s.onAccount n fun _ => { s.account n with
        allowance := min ((s.account n).allowance + points) (2 ^ 40 - 1), state := .normal, bucket := 0 }),
        done_of ha rfl ?_, ?_, ?_, fun k hk => ?_⟩⟩
    · rw [topUp, if_neg (by omega), if_neg (by rw [within_iff, Config.max40]; omega), if_neg (by simp [loaded])]
      exact if_neg fun h => state h.1
    · rw [topUp, if_neg (by omega), if_neg (by rw [within_iff, Config.max40]; omega), if_neg (by simp [loaded])]
      refine if_pos ⟨state, ?_⟩
      show 0 < min _ Config.max40
      rw [Config.max40]
      omega
    · rw [notify_meter]; rfl
    · rw [notify_account, State.account_onAccount_self]
    · rw [notify_account, State.account_onAccount_ne _ hk]
  · rw [suspendAccount, if_neg (by omega)]
    rcases wrong with unloaded | state
    · rw [unloaded]; rfl
    · split
      · rfl
      · rfl
  · refine ⟨_, done_of ha rfl (by rw [suspendAccount, if_neg (by omega), loaded, if_neg (by simp), if_neg state]), rfl,
      State.account_onAccount_self .., fun k hk => State.account_onAccount_ne _ hk⟩
  · rw [resumeAccount, if_neg (by omega), if_pos]
    simpa using wrong
  · rintro a le loaded state rfl
    refine ⟨_, done_of ha rfl (by
      rw [resumeAccount, if_neg (by omega), if_neg (by simp [loaded, state])]; rfl), rfl,
      State.account_onAccount_self .., fun k hk => State.account_onAccount_ne _ hk⟩

/-! ## The flags (R184) -/

/-- What clearing one flag leaves. -/
theorem clearFlag_spec {n : Nat} (hn : n ≤ 8) (s : State) :
    clearFlag n s = { s with
      feeders := (clearFlag n s).feeders
      agent := { s.agent with noticeLost := s.agent.noticeLost && decide (0 ≠ n) } } ∧
    ∀ f : FeederId, (clearFlag n s).feeder f = { s.feeder f with
      overbooked := (s.feeder f).overbooked && decide (2 * f.toNat + 1 ≠ n)
      replyOverrun := (s.feeder f).replyOverrun && decide (2 * f.toNat + 2 ≠ n) } := by
  interval_cases n
  all_goals
    refine ⟨by simp [clearFlag, State.onAgent, State.onFeeder, State.setFeeder], fun f => ?_⟩
    cases f <;> simp [clearFlag, State.feeder_onFeeder, FeederId.toNat]

/-- What clearing a list of flags leaves. -/
theorem clearFlags_spec (l : List Nat) (hl : ∀ n ∈ l, n ≤ 8) (s : State) :
    l.foldl (fun s n => clearFlag n s) s = { s with
      feeders := (l.foldl (fun s n => clearFlag n s) s).feeders
      agent := { s.agent with noticeLost := s.agent.noticeLost && decide (0 ∉ l) } } ∧
    ∀ f : FeederId, (l.foldl (fun s n => clearFlag n s) s).feeder f = { s.feeder f with
      overbooked := (s.feeder f).overbooked && decide (2 * f.toNat + 1 ∉ l)
      replyOverrun := (s.feeder f).replyOverrun && decide (2 * f.toNat + 2 ∉ l) } := by
  induction l generalizing s with
  | nil => simp
  | cons n l ih =>
    obtain ⟨frame, feeders⟩ := clearFlag_spec (hl n (by simp)) s
    obtain ⟨rest, each⟩ := ih (fun m hm => hl m (by simp [hm])) (clearFlag n s)
    rw [List.foldl_cons]
    refine ⟨?_, fun f => ?_⟩
    · rw [rest]
      generalize (l.foldl (fun s n => clearFlag n s) (clearFlag n s)).feeders = table
      rw [frame]
      simp [Bool.and_assoc, not_or, Bool.decide_and]
    · rw [each, feeders]
      simp [Bool.and_assoc, not_or, Bool.decide_and]

/-- Settles O23. -/
theorem clearFlagsClearsTheSelection : Obligations.ClearFlagsClearsTheSelection := by
  unfold Obligations.ClearFlagsClearsTheSelection
  intro h l s ha
  have bad_iff : (l.isEmpty = true ∨ (l.any fun n => decide (8 < n)) = true) ↔ l = [] ∨ ∃ n ∈ l, 8 < n := by simp
  refine ⟨fun bad => refuses_of ha rfl (if_pos (bad_iff.2 bad)), fun some small => ?_⟩
  obtain ⟨frame, feeders⟩ := clearFlags_spec l small s
  refine ⟨_, done_of ha rfl ((if_neg ?_).trans rfl), frame, feeders⟩
  rw [bad_iff]
  rintro (none | ⟨n, hn, large⟩)
  · exact some none
  · have := small n hn
    omega

/-! ## The sweep (R79) -/

theorem Feeder.sweepMode_eq_none {mode : Nat} (h : 2 < mode) (x : Feeder) : x.sweepMode mode = none := by
  obtain ⟨m, rfl⟩ := Nat.exists_eq_add_of_lt h
  rw [show 2 + m + 1 = m + 3 by omega]
  rfl

/-- Settles O15. -/
theorem discoveryRequestSetsTheSweep : Obligations.DiscoveryRequestSetsTheSweep := by
  unfold Obligations.DiscoveryRequestSetsTheSweep
  intro h n mode s ha
  refine ⟨fun bad => refuses_of ha rfl (by rw [discoveryDecided, FeederId.ofNat?_of_lt bad]), ?_⟩
  rintro f rfl
  have decided : ∀ m x, (s.feeder f).sweepMode m = some x → discoveryDecided f.toNat m s =
      (s.setFeeder f x, .done (.sweep x.sweep x.settings.period)) := fun m x hx => by
    rw [discoveryDecided, FeederId.ofNat?_toNat]
    simp only [hx]
  refine ⟨fun bad => refuses_of ha rfl ?_, ?_, ?_, ?_⟩
  · rw [discoveryDecided, FeederId.ofNat?_toNat]
    simp only [Feeder.sweepMode_eq_none bad]
  · rintro rfl
    exact done_of ha rfl (decided 0 _ rfl)
  · rintro w rfl rfl
    exact done_of ha rfl (decided 1 _ rfl)
  · rintro w rfl rfl
    exact done_of ha rfl (decided 2 _ rfl)

/-! ## The transmit classes (R150, R151, R173, R179, R183) -/

theorem arbitrate_spec (s : State) : arbitrate s = { s with uplink := { s.uplink with
    sending := if s.uplink.linkUp = false ∨ s.uplink.sending ≠ none then s.uplink.sending
      else if s.uplink.responses ≠ [] then some .response
      else if s.uplink.notices ≠ [] then some .notice
      else if s.uplink.statements ≠ [] then some .statement
      else if s.uplink.traffic ≠ [] then some .traffic
      else none } } := by
  unfold arbitrate
  split
  next free => simp [State.onUplink, Uplink.firstClass, free]
  next busy =>
    have : s.uplink.linkUp = false ∨ s.uplink.sending ≠ none := by
      cases up : s.uplink.linkUp <;> simp_all
    rw [if_pos this]

theorem notify_spec (n : Notice) (s : State) :
    (s.agent.bind = .bound → s.agent.notices.length < 64 → notify n s =
      { s with agent := { s.agent with notices := s.agent.notices ++ [⟨s.cycle, n⟩] } }) ∧
    (s.agent.bind = .bound → 64 ≤ s.agent.notices.length → notify n s =
      { s with agent := { s.agent with
        noticeLost := true, count := { s.agent.count with noticesLost := s.agent.count.noticesLost + 1 } } }) ∧
    (s.agent.bind ≠ .bound → notify n s = s) := by
  refine ⟨fun bound room => ?_, fun bound full => ?_, fun unbound => if_pos unbound⟩
  · exact (if_neg (not_not.2 bound)).trans (if_pos room)
  · exact (if_neg (not_not.2 bound)).trans (if_neg (Nat.not_lt.2 full))

theorem exec_transmissionEnd {s : State} (hp : s.resetHeld = false) :
    exec .transmissionEnd s = .next (arbitrate (transmissionEnds s)) := live_next hp fun s => arbitrate (transmissionEnds s)

theorem transmissionEnds_other {s : State} (h : s.uplink.sending ≠ some .statement) :
    transmissionEnds s = s.onUplink Uplink.endSending := if_neg h

/-- Settles O55. -/
theorem transmitClassesKeepTheirOrder : Obligations.TransmitClassesKeepTheirOrder := by
  unfold Obligations.TransmitClassesKeepTheirOrder
  refine ⟨notify_spec, arbitrate_spec, ?_⟩
  rintro s _ _ hp rfl rfl
  have ends : ∀ {c}, s.uplink.sending = some c → c ≠ .statement →
      exec .transmissionEnd s = .next (arbitrate (s.onUplink Uplink.endSending)) := fun hs hc => by
    rw [exec_transmissionEnd hp, transmissionEnds_other (by simp [hs, hc])]
  refine ⟨fun hs => ?_, fun hs => ?_, ?_, fun hs => ?_, fun hs => ?_, fun up => ?_, fun r rest hold room => ?_, fun none => ?_,
    fun n rest queue room => ?_, fun none => ?_, fun r rest queue free left room => ?_, fun none => ?_⟩
  · rw [ends hs (by decide)]
    simp [State.onUplink, Uplink.endSending, hs]
  · rw [ends hs (by decide)]
    simp [State.onUplink, Uplink.endSending, hs]
  · rintro k hs rfl
    rw [exec_transmissionEnd hp, transmissionEnds, if_pos hs]
    simp [exportRecords, exportFirst, exportNumber, State.onUplink, State.onMeter, Uplink.endSending, hs,
      Config.exportsPerCycle, Config.classPlaces]
  · rw [ends hs (by decide)]
    simp [State.onUplink, Uplink.endSending, hs]
  · rw [exec_transmissionEnd hp, transmissionEnds_other (by simp [hs])]
    simp [State.onUplink, Uplink.endSending, hs]
  · exact live_next hp fun s => arbitrate (s.onUplink fun u => { u with linkUp := up })
  · refine (live_next hp releaseHeld).trans ?_
    obtain ⟨-, empty | full⟩ | ⟨r', rest', hold', -, released⟩ := releaseHeld_cases s
    · simp [hold] at empty
    · exact absurd full (Nat.not_le.2 room)
    · rw [hold] at hold'
      cases hold'
      rw [released]
  · refine (live_next hp releaseHeld).trans ?_
    obtain ⟨same, -⟩ | ⟨r', rest', hold', room, -⟩ := releaseHeld_cases s
    · rw [same]
    · rcases none with empty | full
      · simp [empty] at hold'
      · exact absurd full (Nat.not_le.2 room)
  · refine (live_next hp offerNotice).trans ?_
    obtain ⟨-, empty | full⟩ | ⟨n', rest', queue', -, offered⟩ := offerNotice_cases s
    · simp [queue] at empty
    · exact absurd full (Nat.not_le.2 room)
    · rw [queue] at queue'
      cases queue'
      rw [offered]
  · refine (live_next hp offerNotice).trans ?_
    obtain ⟨same, -⟩ | ⟨r', rest', queue', room, -⟩ := offerNotice_cases s
    · rw [same]
    · rcases none with empty | full
      · simp [empty] at queue'
      · exact absurd full (Nat.not_le.2 room)
  · refine (live_next hp exportStatement).trans ?_
    obtain ⟨-, stuck⟩ | ⟨r', rest', queue', -, exported⟩ := exportStatement_cases s
    · rw [exportNumber_eq_zero] at stuck
      simp only [queue, reduceCtorEq, free, Bool.false_eq_true, false_or, Config.exportsPerCycle,
        Config.classPlaces] at stuck
      omega
    · rw [queue] at queue'
      cases queue'
      rw [exported]
  · refine (live_next hp exportStatement).trans ?_
    obtain ⟨same, -⟩ | ⟨r', rest', -, some, -⟩ := exportStatement_cases s
    · rw [same]
    · exact absurd ((exportNumber_eq_zero s).2 none) some

/-! ## The clock and the EXPORT state (R166, R173, R174) -/

theorem quarterBoundary_not_due {s : State} (h : s.meter.boundaryDue = false) : quarterBoundary s = s :=
  if_pos (by simp [h])

/-- Settles O22. -/
theorem clockAndExportAreSet : Obligations.ClockAndExportAreSet := by
  unfold Obligations.ClockAndExportAreSet
  refine ⟨fun h day quarter every s ha => ⟨fun bad => refuses_of ha rfl (if_pos ?_), fun d q e1 e2 => ?_⟩,
    fun h s ha => ⟨fun held => refuses_of ha rfl (if_pos held), fun running => done_of ha rfl (if_neg (by simp [running]))⟩,
    fun h s ha => ⟨fun running => refuses_of ha rfl (if_pos (by simp [running])), ?_⟩, fun s held => ?_, rfl,
    fun h s t ht => held_of_partReset ht⟩
  · rw [within_iff]
    omega
  · have decided : setTariffClock day quarter every s = _ := if_neg (by rw [within_iff]; omega)
    refine ⟨fun none => done_of ha rfl (decided.trans ?_), fun due => ⟨quarterBoundary s, live_next ha.1 quarterBoundary,
      done_of ha rfl decided⟩⟩
    rw [quarterBoundary_not_due none]
    rfl
  · rintro k held rfl
    refine done_of ha rfl ((if_neg (by simp [held])).trans ?_)
    simp [exportRecords, exportFirst, exportNumber, State.onUplink, State.onMeter, Config.exportsPerCycle,
      Config.classPlaces]
  · unfold exec execStatementExport
    dsimp only
    unfold live
    split
    · rfl
    · rw [exportStatement, if_pos ((exportNumber_eq_zero s).2 (.inr (.inl held)))]

end Sys2Proof.Machine
end


section
/-! PROOFS. The traffic path: metering, downstream admission and the classifier (R141, R144, R145, R156 to R160, R177). -/

namespace Sys2Proof.Machine

/-! ## Metering (R156 to R160) -/

/-- A charge of `p` points, field by field (R159). -/
theorem Account.charge_eq (a : Account) (p : Nat) : a.charge p = { a with
    allowance := if a.mode = .counted then a.allowance - p else a.allowance
    overrun := if a.mode = .counted ∧ a.allowance < p then min (a.overrun + (p - a.allowance)) (2 ^ 40 - 1)
      else a.overrun } := by
  unfold Account.charge
  by_cases mode : a.mode = .counted
  · by_cases enough : p ≤ a.allowance
    · simp [mode, enough, Nat.not_lt.2 enough]
    · simp [mode, enough, Nat.lt_of_not_le enough, Nat.sub_eq_zero_of_le (Nat.le_of_not_le enough), Config.max40]
  · simp [mode]

/-- A counted frame, field by field (R158). -/
theorem Account.countFrame_eq (a : Account) (up : Bool) (band units len : Nat) : a.countFrame up band units len =
    { a with
      up := if up then a.up.set band (min (a.up.get band + units) (2 ^ 40 - 1)) else a.up
      down := if up then a.down else a.down.set band (min (a.down.get band + units) (2 ^ 40 - 1))
      lifeUp := if up then (a.lifeUp + len) % 2 ^ 48 else a.lifeUp
      lifeDown := if up then a.lifeDown else (a.lifeDown + len) % 2 ^ 48
      saturated := a.saturated ||
        decide (min ((if up then a.up.get band else a.down.get band) + units) (2 ^ 40 - 1) = 2 ^ 40 - 1)
      wrapped := a.wrapped || decide (2 ^ 48 ≤ (if up then a.lifeUp else a.lifeDown) + len) } := by
  cases up <;> rfl

theorem Account.throttles_eq (a : Account) (p : Nat) : a.throttles p = (decide (a.mode = .counted) &&
    decide (a.state = .normal) && decide (a.allowance ≤ p) && (decide (0 < a.allowance) || decide (0 < p))) := by
  unfold Account.throttles
  rw [Account.charge_eq]
  by_cases mode : a.mode = .counted
  · simp [mode, Nat.sub_eq_zero_iff_le]
  · simp [mode]

theorem notify_frame (n : Notice) (s : State) : notify n s = { s with agent := (notify n s).agent } := by
  unfold notify
  repeat' split
  all_goals rfl

/-- What a notice does to the agent depends on the cycle number and the agent alone. -/
theorem notify_agent_congr (n : Notice) {s t : State} (cycle : s.cycle = t.cycle) (agent : s.agent = t.agent) :
    (notify n s).agent = (notify n t).agent := by
  unfold notify
  rw [cycle, agent]
  repeat' split
  all_goals simp [agent]

/-- Settles O54. -/
theorem meteringCountsAndCharges : Obligations.MeteringCountsAndCharges := by
  unfold Obligations.MeteringCountsAndCharges
  intro up f d len s
  refine ⟨fun unbound => by rw [meterFrame, unbound]; rfl, ?_⟩
  intro slot band units points count life a throttle bound ha hband _ hunits hpoints hcount hlife hthrottle
  have throttles : a.throttles points = throttle := (a.throttles_eq points).trans hthrottle.symm
  have metered : meterFrame up f d len s = if throttle then
      notify (.accountThrottled slot a.code a.bound ((a.countFrame up band units len).charge points).overrun)
        (s.onAccount slot fun _ => { (a.countFrame up band units len).charge points with state := .throttled, bucket := 0 })
      else s.onAccount slot fun _ => (a.countFrame up band units len).charge points := by
    have weight : a.units len * s.weightOf a = points := by
      rw [hpoints, hunits, hband]
      rfl
    have band_eq : s.bandOf a = band := hband.symm
    have units_eq : a.units len = units := hunits.symm
    rw [meterFrame, bound]
    dsimp only
    rw [← ha, weight, throttles, band_eq, units_eq, Account.charge_eq, Account.countFrame_eq]
  have charged : (a.countFrame up band units len).charge points = { a with
      up := if up then a.up.set band count else a.up
      down := if up then a.down else a.down.set band count
      lifeUp := if up then life % 2 ^ 48 else a.lifeUp
      lifeDown := if up then a.lifeDown else life % 2 ^ 48
      saturated := a.saturated || decide (count = 2 ^ 40 - 1)
      wrapped := a.wrapped || decide (2 ^ 48 ≤ life)
      allowance := if a.mode = .counted then a.allowance - points else a.allowance
      overrun := if a.mode = .counted ∧ a.allowance < points
        then min (a.overrun + (points - a.allowance)) (2 ^ 40 - 1) else a.overrun } := by
    rw [Account.charge_eq, Account.countFrame_eq, hcount, hlife]
    cases up <;> rfl
  refine ⟨_, rfl, ?_⟩
  rw [metered, charged]
  cases throttle with
  | false =>
    simp only [Bool.false_eq_true, if_false]
    exact ⟨State.account_onAccount_self .., fun k hk => State.account_onAccount_ne _ hk, rfl, rfl⟩
  | true =>
    simp only [if_true, notify_account, State.account_onAccount_self, true_and]
    exact ⟨fun k hk => State.account_onAccount_ne _ hk, (notify_frame ..).trans (by rw [notify_meter]; rfl),
      notify_agent_congr _ rfl rfl⟩

/-! ## Downstream admission (R144, R145, R147) -/

theorem DropState.delivering_iff (t : DropState) :
    t.delivering = true ↔ t ≠ .empty ∧ t ≠ .quarantined ∧ t ≠ .leaving := by cases t <;> simp [DropState.delivering]

/-- A frame of a mapped tag is judged by its flow record (R144 steps 3 to 6). -/
theorem admitDownstream_mapped {tag len n : Nat} (data : List Byte) {s : State} (short : 64 ≤ len) (long : len ≤ 2000)
    (mapped : s.tagEntry tag = some n) : admitDownstream tag data len s =
      if !(s.flow n).enable then
        onDownCount (s.flow n).feeder (fun c => { c with flowDisabled := c.flowDisabled + 1 }) s
      else if (s.flow n).drop = 0 then
        onDownCount (s.flow n).feeder (fun c => { c with notDelivering := c.notDelivering + 1 }) s
      else admitToDrop (s.flow n) n data len s := by
  rw [admitDownstream, if_neg (by simp only [Config.minFrame, Config.maxFrame]; omega), mapped]

/-- A frame for a delivering drop is judged by the gate of its account. -/
theorem admitToDrop_delivering {r : FlowRecord} (n : Nat) (data : List Byte) (len : Nat) {s : State} {slot : Nat}
    (delivering : (s.drop r.feeder r.drop).state.delivering = true)
    (bound : s.boundAccount r.feeder r.drop = some slot) : admitToDrop r n data len s =
      ((gate (s.account slot) len).elim (joinDownQueue r.feeder (some slot) ⟨data, n, r.drop⟩ len s)
        fun count => onDownCount r.feeder count s) := by
  simp only [admitToDrop, delivering, bound, Bool.not_true, Bool.false_eq_true, if_false, Option.bind_some]
  cases gate (s.account slot) len <;> rfl

/-- Settles O53. -/
theorem downstreamAdmissionStepsInOrder : Obligations.DownstreamAdmissionStepsInOrder := by
  unfold Obligations.DownstreamAdmissionStepsInOrder
  intro tag len data s
  refine ⟨fun bad => if_pos bad, fun short long => ⟨fun unmapped => ?_, ?_⟩⟩
  · rw [admitDownstream, if_neg (by simp only [Config.minFrame, Config.maxFrame]; omega), unmapped]
    rfl
  rintro n r c mapped rfl rfl
  have steps := admitDownstream_mapped data short long mapped
  refine ⟨fun off => ?_, fun on bad => ?_, fun on some empty quarantined leaving slot bound => ?_⟩
  · rw [steps, off]
    rfl
  · rw [steps, on]
    by_cases zero : (s.flow n).drop = 0
    · rw [if_neg (by simp), if_pos zero]
      rfl
    · have not : (s.drop (s.flow n).feeder (s.flow n).drop).state.delivering ≠ true := by
        rw [ne_eq, DropState.delivering_iff]
        tauto
      rw [if_neg (by simp), if_neg zero, admitToDrop, Bool.eq_false_iff.2 not]
      rfl
  · have delivering := (DropState.delivering_iff _).2 ⟨empty, quarantined, leaving⟩
    have gated := admitToDrop_delivering n data len delivering bound
    rw [steps, on, if_neg (by simp), if_neg some, gated]
    refine ⟨fun suspended => ?_, fun throttled low => ?_, fun passes => ?_⟩
    · rw [gate, suspended]
      rfl
    · rw [gate, throttled]
      dsimp only
      rw [if_neg (by simp only [Config.minFrame]; omega)]
      rfl
    · rw [(gate_eq_none_iff _ _).2 passes]
      refine ⟨fun full => if_neg (Nat.not_lt.2 full), fun room => ?_⟩
      have joined : joinDownQueue (s.flow n).feeder (Option.some slot) ⟨data, n, (s.flow n).drop⟩ len s =
          ((s.setFeeder (s.flow n).feeder { s.feeder (s.flow n).feeder with
              downQueue := (s.feeder (s.flow n).feeder).downQueue ++ [⟨data, n, (s.flow n).drop⟩]
              downCount := { (s.feeder (s.flow n).feeder).downCount with
                queued := (s.feeder (s.flow n).feeder).downCount.queued + 1 } }).onAccount slot fun a =>
            if a.state = .throttled then { a with bucket := a.bucket - len } else a) := by
        refine (if_pos room).trans ?_
        show State.onAccount (State.onFeeder (State.onFeeder _ _ _) _ _) _ _ = _
        rw [State.onFeeder_onFeeder]
        rfl
      refine ⟨_, rfl, ?_, ?_, fun k hk => ?_⟩ <;> rw [Option.elim_none, joined]
      · rfl
      · rw [State.account_onAccount_self]
        show (if (s.account slot).state = .throttled then _ else s.account slot) = _
        split <;> rfl
      · exact State.account_onAccount_ne _ hk

/-! ## The classifier (R141, R177) -/

theorem exec_uplinkFrameReceived {s : State} (hp : s.resetHeld = false) (bytes : List Byte) (ok : Bool) :
    exec (.uplinkFrameReceived bytes ok) s = .next (arbitrate (classify bytes ok s)) :=
  live_next hp fun s => arbitrate (classify bytes ok s)

/-- A frame that passes its checks is classified by its type. -/
theorem classify_ok {bytes : List Byte} (long : 64 ≤ bytes.length) (s : State) : classify bytes true s =
    if frameType bytes = 0x9B11 then takeManagement (withoutFcs bytes) s
    else if s.agent.bind ≠ .bound then onClassifier (fun c => { c with notBound := c.notBound + 1 }) s
    else if frameType bytes ≠ 0x9B10 then onClassifier (fun c => { c with untagged := c.untagged + 1 }) s
    else admitDownstream (tagNumber bytes) (withoutFcs (bytes.take 12 ++ bytes.drop 16)) (bytes.length - 4) s :=
  if_neg (by simp only [Config.minFrame, Bool.not_true, Bool.false_eq_true, false_or]; omega)

/-- With no answer owed, a request that arrives waits behind the others. -/
theorem enqueueInbound_request {s : State} (none : NoneOwed s) (c : Instr) :
    enqueueInbound (.request c) s = s.onAgent fun a => { a with inbox := a.inbox ++ [.request c] } := by
  rw [enqueueInbound, answerWaiting_of_requests]
  · rfl
  · intro i hi
    obtain hi | hi := List.mem_append.1 hi
    · exact none i hi
    · exact ⟨c, by simpa using hi⟩

/-- Behind a request that waits, what arrives waits. -/
theorem enqueueInbound_waits {s : State} {c : Instr} {rest : List Inbound} (waits : s.agent.inbox = .request c :: rest)
    (i : Inbound) : enqueueInbound i s = s.onAgent fun a => { a with inbox := a.inbox ++ [i] } := by
  rw [enqueueInbound, waits]
  simp [answerWaiting, State.onAgent, waits]

/-- With nothing waiting, an answer owed is given at once. -/
theorem enqueueInbound_answer {s : State} (empty : s.agent.inbox = []) (room : holdFull s = false) (h : MgmtHead)
    (kind : Nat) (why : Reject) : enqueueInbound (.answer h.tag kind why) s =
      answerWaiting [] (answer h.tag kind (.refused why) s) := by
  rw [enqueueInbound, empty, List.nil_append, answerWaiting, room]
  rfl

/-- An answer given at once stands last in the class or the hold. -/
theorem arbitrate_answer_answered (h : MgmtHead) (kind : Nat) (why : Reject) (s : State) :
    Answered h kind (some why) .empty s (arbitrate (answerWaiting [] (answer h.tag kind (.refused why) s))) ∧
      OnlyAnswered s (arbitrate (answerWaiting [] (answer h.tag kind (.refused why) s))) := by
  constructor
  · refine ⟨[], ?_⟩
    change waitingResponses _ = _
    have answered : waitingResponses (arbitrate (answerWaiting [] (answer h.tag kind (.refused why) s))) =
        waitingResponses (answer h.tag kind (.refused why) s) := by
      rw [waitingResponses, arbitrate_responses, arbitrate_agent]
      rfl
    rw [answered, answer, respond_waiting]
    rfl
  · exact ((answer_only ..).trans (answerWaiting_only ..)).trans (arbitrate_only _)

theorem takeManagement_read {bytes : List Byte} {m : MgmtFrame} (read : readFrame bytes = some m) (s : State) :
    takeManagement bytes s = if s.agent.bind ≠ .bound then takeUnbound m s
      else if s.agent.controller ≠ some m.head.src then onAgentCount (fun c => { c with foreign := c.foreign + 1 }) s
      else takeBound m s := by
  rw [takeManagement, read]

theorem takeManagement_bound {bytes : List Byte} {m : MgmtFrame} {s : State} (read : readFrame bytes = some m)
    (bound : s.agent.bind = .bound) (controller : s.agent.controller = some m.head.src) :
    takeManagement bytes s = takeBound m s := by
  rw [takeManagement_read read, if_neg (by simp [bound]), if_neg (by simp [controller])]

/-- The frame's bytes behind its tag are those without the check sequence and the check sequence. -/
theorem untagged_split {bytes : List Byte} (long : 64 ≤ bytes.length) : bytes.take 12 ++ bytes.drop 16 =
    withoutFcs (bytes.take 12 ++ bytes.drop 16) ++ bytes.drop (bytes.length - 4) := by
  have tail : (bytes.take 12 ++ bytes.drop 16).drop ((bytes.take 12 ++ bytes.drop 16).length - 4) =
      bytes.drop (bytes.length - 4) := by
    have len : (bytes.take 12 ++ bytes.drop 16).length = bytes.length - 4 := by simp; omega
    have front : (bytes.take 12).length = 12 := by simp; omega
    rw [len, List.drop_append, front, List.drop_drop, List.drop_eq_nil_of_le (by omega), List.nil_append]
    congr 1
    omega
  rw [withoutFcs, ← tail, List.take_append_drop]

theorem takeNat_of_le {k : Nat} {bs : List Byte} (h : k ≤ bs.length) :
    takeNat k bs = some (natOf (bs.take k), bs.drop k) := if_pos h

/-- A WRITE of a table that takes no WRITE reads as BAD_TABLE (R180). -/
theorem readBody_badTable (h : MgmtHead) {body : List Byte} (long : 8 ≤ body.length)
    (table : natOf (body.take 4) = 0 ∨ 7 < natOf (body.take 4)) : readBody h 3 body = .badTable := by
  show readWrite h body = _
  rw [readWrite, takeNat_of_le (by omega)]
  dsimp only
  rw [takeNat_of_le (by simp; omega)]
  dsimp only
  obtain zero | large := table
  · rw [zero]
    rfl
  · obtain ⟨m, e⟩ := Nat.exists_eq_add_of_lt large
    rw [e, show 7 + m + 1 = m + 8 by omega]
    rfl

/-- Settles O52. -/
theorem classifierSendsEachFrameOneWay : Obligations.ClassifierSendsEachFrameOneWay := by
  unfold Obligations.ClassifierSendsEachFrameOneWay
  intro bytes ok s hp
  rw [exec_uplinkFrameReceived hp]
  refine ⟨fun bad => ?_, ?_⟩
  · rw [classify, if_pos]
    · rfl
    · simpa [Config.minFrame] using bad
  rintro rfl long
  rw [classify_ok long]
  refine ⟨fun type => ?_, fun type unbound => ?_, fun type bound => ⟨fun untagged => ?_, fun tagged => ?_⟩⟩
  · rw [if_pos (show frameType bytes = _ from type)]
    refine ⟨rfl, fun h cls kind body read bound controller room => ?_, fun h cls kind body count read hcount => ?_,
      fun h body => readBody_badTable h⟩
    · have full : holdFull s = false := decide_eq_false (Nat.not_le.2 room)
      have taken := takeManagement_bound read bound controller
      rw [show withoutFcs bytes = bytes.take (bytes.length - 4) from rfl, taken]
      refine ⟨fun c request none => ?_, fun bad empty => ?_, fun bad empty => ?_, fun why c rest waits bad => ?_⟩
      · subst request
        simp only [takeBound, full, Bool.false_eq_true, if_false]
        rw [enqueueInbound_request none]
        rfl
      · subst bad
        simp only [takeBound, full, Bool.false_eq_true, if_false]
        rw [enqueueInbound_answer empty full]
        exact ⟨_, rfl, arbitrate_answer_answered h kind .badRequest s⟩
      · subst bad
        simp only [takeBound, full, Bool.false_eq_true, if_false]
        rw [enqueueInbound_answer empty full]
        exact ⟨_, rfl, arbitrate_answer_answered h kind .badTable s⟩
      · obtain ⟨rfl, rfl⟩ | ⟨rfl, rfl⟩ := bad
        all_goals
          simp only [takeBound, full, Bool.false_eq_true, if_false]
          rw [enqueueInbound_waits waits]
          rfl
    · have counted : ∀ g : AgentCounters → AgentCounters, count (g s.agent.count) = onAgentCount g s :=
        fun g => hcount _
      rw [show withoutFcs bytes = bytes.take (bytes.length - 4) from rfl, takeManagement_read read]
      refine ⟨fun bound controller full => ?_, fun bound controller => ?_, fun unbound => ?_⟩
      · have full : holdFull s = true := decide_eq_true full
        rw [if_neg (by simp [bound]), if_neg (by simp [controller]), takeBound, full, hcount]
        rfl
      · rw [if_neg (by simp [bound]), if_pos controller, hcount]
        rfl
      · rw [if_pos unbound]
        refine ⟨fun h' n bind none => ?_, fun bad => ?_, fun other formed => ?_⟩
        · subst bind
          simp only [takeUnbound]
          rw [enqueueInbound_request none]
          rfl
        · subst bad
          rw [hcount]
          rfl
        · have unbound : takeUnbound ⟨h, cls, kind, body⟩ s =
              onAgentCount (fun c => { c with notBound := c.notBound + 1 }) s := by
            unfold takeUnbound
            split
            next h' n bind => exact absurd bind (other h' n)
            next bad => exact absurd bad formed
            next => rfl
          rw [unbound, hcount]
          rfl
  · rw [if_neg (show ¬ frameType bytes = _ from type), if_pos unbound]
    rfl
  · rw [if_neg (show ¬ frameType bytes = _ from type), if_neg (by simp [bound]), if_pos (show frameType bytes ≠ _ from untagged)]
    rfl
  · refine ⟨_, untagged_split long, ?_⟩
    rw [if_neg (show ¬ frameType bytes = _ from type), if_neg (by simp [bound]), 
      if_neg (not_not.2 (show frameType bytes = _ from tagged))]
    rfl

end Sys2Proof.Machine
end


section
/-! PROOFS. The agent's requests in their turn and the table of bind states (R176 to R179, R182, R185). -/

namespace Sys2Proof.Machine

/-! ## Requests in their turn (R177 to R179) -/

/-- A request other than BIND is judged by the bind state and, once taken, leaves the frames that wait alone and moves
the number of requests taken by its kind. -/
def TakenAs (c : Instr) (h : MgmtHead) (kind : Nat) : Prop :=
  ∃ take : State → State, (∀ s, exec c s = live s (inTurn c (whenBound h take))) ∧ ∀ s,
    (take s).agent.inbox = s.agent.inbox ∧
    (take s).agent.count.taken = if kind = 21 then 0 else s.agent.count.taken + 1

theorem takenAs_of_owned {c : Instr} {h : MgmtHead} {kind : Nat} {D : State → State × Verdict} (other : kind ≠ 21)
    (he : ∀ s, exec c s = live s (takeRequest c h kind D)) (owned : ∀ s, Owned s (D s).1) : TakenAs c h kind := by
  refine ⟨_, he, fun s => ?_⟩
  have quiet := (owned s).agent
  dsimp only
  rw [answer_agent, if_neg other, quiet]
  exact ⟨rfl, rfl⟩

theorem takenAs_partReset (h : MgmtHead) : TakenAs (.partReset h) h 21 := by
  refine ⟨fun s => exportRecords (respond h.tag 21 (.done .empty) (partReset s)), fun s => rfl, fun s => ?_⟩
  have same : (exportRecords (respond h.tag 21 (.done .empty) (partReset s))).agent =
      (respond h.tag 21 (.done .empty) (partReset s)).agent := rfl
  dsimp only
  rw [same, respond_agent]
  refine ⟨?_, rfl⟩
  show (quarterBoundary s).agent.inbox = _
  rw [quarterBoundary_frame]

/-- Every command that is a request is BIND, or judged by the bind state (R177). -/
theorem takenAs_of_requestParts {c : Instr} {h : MgmtHead} {kind : Nat} {body : List Byte}
    (parts : requestParts c = some (h, kind, body)) :
    (∃ n, c = .bind h n ∧ kind = 1) ∨ (kind ≠ 1 ∧ TakenAs c h kind) := by
  cases c <;> cases parts
  case bind n => exact .inl ⟨n, rfl, rfl⟩
  case partReset => exact .inr ⟨by decide, takenAs_partReset h⟩
  all_goals refine .inr ⟨by decide, takenAs_of_owned (by decide) (fun s => rfl) fun s => ?_⟩
  case read => exact .refl s
  case writeAdmission n r => exact owned_writeAdmission n r s
  case writeProfile n r => exact owned_writeProfile n r s
  case writeFlow n r => exact owned_writeFlow n r s
  case writeTagMap n r => exact owned_writeTagMap n r s
  case writeAccount n r => exact owned_writeAccount n r s
  case writeTariffPlan n r => exact owned_writeTariffPlan n r s
  case writeFeeder n r => exact owned_writeFeeder n r s
  case feederStart f => exact owned_startDecided f s
  case feederStop f => exact owned_stopDecided f s
  case discovery f m => exact owned_discoveryDecided f m s
  case admitReply f r => exact owned_admitDecided f r s
  case refuse f tag => exact owned_refuseDecided f tag s
  case remove f d => exact owned_removeDecided f d s
  case darken f d => exact owned_darkenDecided f d s
  case relight f d => exact owned_relightDecided f d s
  case release f d => exact owned_releaseDecided f d s
  case isolate f d => exact owned_isolateDecided f d s
  case topUp n p => exact owned_topUp n p s
  case suspend n => exact owned_suspendAccount n s
  case resume n => exact owned_resumeAccount n s
  case setTariffClock d q k => exact owned_setTariffClock d q k s
  case exportHold => exact owned_exportHold s
  case exportResume => exact owned_exportResume s
  case clearFlags l => exact owned_clearFlagsDecided l s

theorem turn_of_waits_first {c : Instr} {s : State} (h : s.agent.inbox = [] ∨ ∃ rest, s.agent.inbox = .request c :: rest) :
    s.turn c = true := by
  obtain h | ⟨rest, h⟩ := h <;> simp [State.turn, h]

theorem turn_of_other_first {c c' : Instr} {rest : List Inbound} {s : State} (h : s.agent.inbox = .request c' :: rest)
    (other : c' ≠ c) : s.turn c = false := by
  simp [State.turn, h, other]

/-- With no answer owed, a request done with adds no response. -/
theorem requestDone_waiting_of_none {t : State} (none : NoneOwed t) :
    waitingResponses (requestDone t) = waitingResponses t := by
  rw [requestDone, answerWaiting_of_requests fun i hi => none i (List.mem_of_mem_drop hi), waitingResponses,
    arbitrate_responses, arbitrate_agent]
  rfl

/-- A request that is only counted leaves the agent's input, and nothing else of it is seen. -/
theorem requestDone_counted {s : State} (none : NoneOwed s) (g : AgentCounters → AgentCounters) :
    OnlyAnswered s (requestDone (onAgentCount g s)) ∧
    waitingResponses (requestDone (onAgentCount g s)) = waitingResponses s ∧
    (requestDone (onAgentCount g s)).agent.count = g s.agent.count := by
  have none' : NoneOwed (onAgentCount g s) := none
  refine ⟨OnlyAnswered.trans ⟨rfl, rfl, rfl⟩ (requestDone_only _), requestDone_waiting_of_none none', ?_⟩
  rw [requestDone_agent none']
  rfl

theorem answer_inbox (tag : BitVec 16) (kind : Nat) (v : Verdict) (s : State) :
    (answer tag kind v s).agent.inbox = s.agent.inbox := by rw [answer_agent]

theorem takeBind_inbox (h : MgmtHead) (n : Nat) (s : State) : (takeBind h n s).agent.inbox = s.agent.inbox := by
  have timeout : (bindTimeout s).agent.inbox = s.agent.inbox := by
    rw [bindTimeout, State.onAgent_agent]
    split <;> rfl
  rw [← timeout, takeBind, bindDecided]
  repeat' split
  all_goals simp [beginBinding, answer_inbox, dropRequest]

/-- A request in its turn leaves the agent's input, and those behind it stay (R178). -/
theorem inTurn_inbox {c : Instr} {take : State → State} {s : State} (turn : s.turn c = true) (none : NoneOwed s)
    (kept : (take s).agent.inbox = s.agent.inbox) :
    (inTurn c take s).agent.inbox = s.agent.inbox.drop 1 ∧ (inTurn c take s).agent.count = (take s).agent.count := by
  have none' : NoneOwed (take s) := fun i hi => none i (kept ▸ hi)
  rw [inTurn_eq, turn, if_pos rfl, requestDone_agent none', kept]
  exact ⟨rfl, rfl⟩

theorem whenBound_inbox (h : MgmtHead) {take : State → State} {s : State}
    (kept : (take s).agent.inbox = s.agent.inbox) : (whenBound h take s).agent.inbox = s.agent.inbox := by
  unfold whenBound
  split
  · rfl
  · split
    · rfl
    · split
      · rfl
      · exact kept

/-- Settles O5. -/
theorem requestsAreTakenInTheirTurn : Obligations.RequestsAreTakenInTheirTurn := by
  unfold Obligations.RequestsAreTakenInTheirTurn
  intro c h kind body s parts hp
  obtain ⟨n, rfl, rfl⟩ | ⟨other, take, run, taken⟩ := takenAs_of_requestParts parts
  · have run : exec (.bind h n) s = live s (inTurn (.bind h n) (takeBind h n)) := rfl
    rw [run, live_next hp]
    refine ⟨fun c' rest waits other => ?_, fun none first => ⟨⟨_, rfl, ?_⟩, fun h => absurd rfl h⟩⟩
    · rw [inTurn_waits (turn_of_other_first waits other)]
    · exact (inTurn_inbox (turn_of_waits_first first) none (takeBind_inbox h n s)).1
  · obtain ⟨inbox, count⟩ := taken s
    rw [run, live_next hp]
    refine ⟨fun c' rest waits other => ?_, fun none first => ?_⟩
    · rw [inTurn_waits (turn_of_other_first waits other)]
    have turn := turn_of_waits_first first
    have done := inTurn_inbox turn none (whenBound_inbox h inbox)
    have counted : ∀ {g}, whenBound h take s = onAgentCount g s → ∃ t,
        Host.Outcome.next (inTurn c (whenBound h take) s) = (.next t : Host.Outcome State Fault Refusal) ∧
        OnlyAnswered s t ∧
        t.uplink.responses ++ t.agent.hold = s.uplink.responses ++ s.agent.hold ∧ t.agent.count = g s.agent.count := by
      intro g e
      refine ⟨_, rfl, ?_⟩
      rw [inTurn_eq, turn, if_pos rfl, e]
      exact requestDone_counted none g
    refine ⟨⟨_, rfl, done.1⟩, fun _ => ⟨fun unbound => 
      counted (g := fun c => { c with notBound := c.notBound + 1 }) (if_pos unbound), fun bound foreign =>
      counted (g := fun c => { c with foreign := c.foreign + 1 }) ?_, fun bound controller full =>
      counted (g := fun c => { c with dropped := c.dropped + 1 }) ?_, fun bound controller room => ⟨_, rfl, ?_⟩⟩⟩
    · exact (if_neg (not_not.2 bound)).trans (if_pos foreign)
    · exact ((if_neg (not_not.2 bound)).trans (if_neg (not_not.2 controller))).trans (if_pos (decide_eq_true full))
    · rw [done.2, whenBound_takes bound controller room, count]

/-! ## The table of bind states (R176) -/

theorem exec_bind {h : MgmtHead} {n : Nat} {s : State} (hp : s.resetHeld = false) (turn : s.turn (.bind h n) = true) :
    exec (.bind h n) s = .next (requestDone (takeBind h n s)) := by
  rw [show exec (.bind h n) s = live s (inTurn (.bind h n) (takeBind h n)) from rfl, live_next hp, inTurn_eq, turn,
    if_pos rfl]

theorem holdFull_false {s : State} (room : s.agent.hold.length < 8) : holdFull s = false :=
  decide_eq_false (Nat.not_le.2 room)

theorem holdFull_true {s : State} (full : 8 ≤ s.agent.hold.length) : holdFull s = true := decide_eq_true full

/-- A BIND answered by a verdict is answered in the state that the binding then has. -/
theorem exec_bind_answered {h : MgmtHead} {n : Nat} {v : Verdict} {s x : State} (hp : s.resetHeld = false)
    (turn : s.turn (.bind h n) = true) (taken : takeBind h n s = answer h.tag 1 v x) :
    ∃ t, exec (.bind h n) s = .next t ∧ Answered h 1 v.reason v.body x t ∧ OnlyAnswered x t :=
  ⟨_, exec_bind hp turn, taken ▸ answer_answered h 1 v x⟩

/-- The state in which a binding of `h` and `n` has begun (R176). -/
def begun (h : MgmtHead) (n : Nat) (s : State) : State := { s with agent := { s.agent with
  bind := .binding, controller := some h.src, partAddr := some h.dst, bindNumber := n, bindAge := 0 } }

theorem confirms_iff (a : Agent) (h : MgmtHead) (n : Nat) : a.confirms h n = true ↔
    a.controller = some h.src ∧ a.partAddr = some h.dst ∧ a.bindNumber = n := by
  simp [Agent.confirms, and_assoc]

/-- A BIND begins a binding outside BOUND, but for one that confirms a binding in time (R176). -/
theorem takeBind_begins {h : MgmtHead} {n : Nat} {s : State} (room : s.agent.hold.length < 8)
    (begins : s.agent.bind = .unbound ∨ (s.agent.bind = .binding ∧ (4000 ≤ s.agent.bindAge ∨
      ¬ (s.agent.controller = some h.src ∧ s.agent.partAddr = some h.dst ∧ s.agent.bindNumber = n)))) :
    takeBind h n s = answer h.tag 1 (.done (.bindEcho n)) (begun h n s) := by
  obtain unbound | ⟨binding, why⟩ := begins
  · rw [takeBind_not_due (.inl (by simp [unbound])), bindDecided, unbound]
    dsimp only
    rw [holdFull_false room]
    rfl
  · by_cases due : 4000 ≤ s.agent.bindAge
    · rw [takeBind, bindTimeout_due binding due, bindDecided]
      dsimp only
      rw [holdFull_false (by exact room)]
      rfl
    · have other := why.resolve_left due
      rw [takeBind_not_due (.inr (by omega)), bindDecided, binding]
      dsimp only
      rw [holdFull_false room, if_neg (by simp), if_neg (by rw [confirms_iff]; exact other)]
      rfl

theorem bindTimeout_eq (s : State) : bindTimeout s =
    if s.agent.bind = .binding ∧ 4000 ≤ s.agent.bindAge then { s with agent := { s.agent with
      bind := .unbound, controller := none, partAddr := none, bindNumber := 0 } } else s := by
  split
  next due => exact bindTimeout_due due.1 due.2
  next early =>
    rw [not_and_or, not_le] at early
    exact bindTimeout_not_due early

/-- Settles O6. -/
theorem bindingFollowsItsTable : Obligations.BindingFollowsItsTable := by
  unfold Obligations.BindingFollowsItsTable
  refine ⟨fun h n s hp turn room => ⟨fun begins => ?_, fun binding young controller part number => ?_,
    fun bound controller => ?_⟩, fun h n s hp turn owed => ⟨fun bound foreign => ?_, ?_⟩,
    fun s hp => ⟨fun binding age => ?_, fun early => ?_⟩⟩
  · exact exec_bind_answered hp turn (takeBind_begins room begins)
  · refine exec_bind_answered (v := .done .empty) hp turn ?_
    rw [takeBind_not_due (.inr young), bindDecided, binding]
    dsimp only
    rw [holdFull_false room, if_neg (by simp), if_pos ((confirms_iff ..).2 ⟨controller, part, number⟩)]
    rfl
  · refine exec_bind_answered (v := .refused .wrongState) hp turn ?_
    rw [takeBind_not_due (.inl (by simp [bound])), bindDecided, bound]
    dsimp only
    rw [if_neg (not_not.2 controller), holdFull_false room]
    rfl
  · have taken : takeBind h n s = onAgentCount (fun c => { c with foreign := c.foreign + 1 }) s := by
      rw [takeBind_not_due (.inl (by simp [bound])), bindDecided, bound]
      exact if_pos foreign
    refine ⟨_, exec_bind hp turn, ?_⟩
    rw [taken]
    exact requestDone_counted owed fun c => { c with foreign := c.foreign + 1 }
  · rintro y taker full rfl
    have dropped : takeBind h n s = onAgentCount (fun c => { c with dropped := c.dropped + 1 }) (bindTimeout s) := by
      have full' : holdFull (bindTimeout s) = true := by
        refine holdFull_true ?_
        rw [bindTimeout, State.onAgent_agent]
        split <;> exact full
      rw [takeBind, bindDecided]
      split
      · exact if_pos full'
      · exact if_pos full'
      next bound =>
        have same : bindTimeout s = s := by
          rw [bindTimeout, State.onAgent_agent] at bound
          rw [bindTimeout, State.onAgent]
          split at bound
          · simp at bound
          next early => rw [if_neg early]
        rw [same] at bound full' ⊢
        exact (if_neg (not_not.2 (taker.resolve_left (not_not.2 bound)))).trans (if_pos full')
    have timeout := bindTimeout_eq s
    have owed' : NoneOwed (bindTimeout s) := by
      rw [timeout]
      split <;> exact owed
    obtain ⟨only, waiting, count⟩ := requestDone_counted owed' fun c => { c with dropped := c.dropped + 1 }
    refine ⟨_, exec_bind hp turn, ?_⟩
    rw [dropped, ← timeout]
    refine ⟨only, ?_, ?_⟩
    · change waitingResponses _ = waitingResponses s
      rw [waiting, timeout]
      split <;> rfl
    · rw [count, timeout]
      split <;> rfl
  · rw [show exec .bindTimeout s = live s bindTimeout from rfl, live_next hp, bindTimeout_due binding (by omega)]
  · rw [show exec .bindTimeout s = live s bindTimeout from rfl, live_next hp, bindTimeout_not_due early]

end Sys2Proof.Machine
end


section
/-! PROOFS. The filling of the line order queue (R15, R77). -/

namespace Sys2Proof.Machine

/-! ## The orders that a filling finds HELD -/

/-- The record has a HELD order (R76). -/
def DropRecord.held (r : DropRecord) : Bool := r.pending.any fun p => decide (p.status = .held)

/-- The record with its order QUEUED. -/
def DropRecord.queued (r : DropRecord) : DropRecord :=
  { r with pending := r.pending.map fun p => { p with status := .queued } }

/-- A drop's HELD order as it is placed (R77). -/
def Feeder.heldOrder (x : Feeder) (d : Nat) : Option LineOrder :=
  if (x.drop d).held then (x.drop d).pending.map fun p => dropOrder p.kind d (x.drop d) else none

/-- The entry has a HELD DECLINE (R91). -/
def ReplyEntry.held (e : ReplyEntry) : Bool := e.decline.any fun o => decide (o.2 = .held)

/-- The entry with its DECLINE QUEUED. -/
def ReplyEntry.queued (e : ReplyEntry) : ReplyEntry := { e with decline := e.decline.map fun o => (o.1, .queued) }

/-- An entry's HELD DECLINE as it is placed (R77). -/
def ReplyEntry.heldOrder (hold : Nat) (e : ReplyEntry) : Option LineOrder :=
  if e.held then some (declineOrder hold e) else none

theorem DropRecord.held_iff (r : DropRecord) : r.held = true ↔ ∃ k, r.pending = some ⟨k, .held⟩ := by
  simp only [DropRecord.held, Option.any_eq_true, decide_eq_true_eq]
  constructor
  · rintro ⟨⟨k, status⟩, pending, rfl⟩
    exact ⟨k, pending⟩
  · rintro ⟨k, pending⟩
    exact ⟨_, pending, rfl⟩

theorem ReplyEntry.held_iff (e : ReplyEntry) : e.held = true ↔ ∃ why, e.decline = some (why, .held) := by
  simp only [ReplyEntry.held, Option.any_eq_true, decide_eq_true_eq]
  constructor
  · rintro ⟨⟨why, status⟩, decline, rfl⟩
    exact ⟨why, decline⟩
  · rintro ⟨why, decline⟩
    exact ⟨_, decline, rfl⟩

theorem Feeder.heldOrder_isSome (x : Feeder) (d : Nat) : (x.heldOrder d).isSome = (x.drop d).held := by
  unfold Feeder.heldOrder
  split
  next held =>
    obtain ⟨k, pending⟩ := (DropRecord.held_iff _).1 held
    rw [held, pending]
    rfl
  next free => rw [Bool.eq_false_iff.2 free]; rfl

/-! ## Placing the orders of the records -/

/-- Placing one order: a HELD one with room goes to the tail, any other stays. -/
theorem placeDropOrder_eq (x : Feeder) (d : Nat) : placeDropOrder x d =
    if x.orderQueue.length < 32 then
      (x.heldOrder d).elim x fun o => { x.setDrop d (x.drop d).queued with orderQueue := x.orderQueue ++ [o] }
    else x := by
  unfold placeDropOrder Feeder.heldOrder
  dsimp only
  split
  next kind pending =>
    have held : (x.drop d).held = true := (DropRecord.held_iff _).2 ⟨kind, pending⟩
    simp only [held, if_true, pending, Option.map_some, DropRecord.queued, Option.elim_some]
    exact if_congr decide_eq_true_iff rfl rfl
  next other =>
    have free : ¬ (x.drop d).held = true := fun held => by
      obtain ⟨k, pending⟩ := (DropRecord.held_iff _).1 held
      exact other k pending
    rw [if_neg free]
    exact (ite_self x).symm

/-- How many of the indices `l` below `d` have a HELD order. -/
def Feeder.heldBefore (x : Feeder) (l : List Nat) (d : Nat) : Nat :=
  (l.filter fun e => decide (e < d) && (x.drop e).held).length

/-- Placing the orders of rising indices: as many as have room, in this order. -/
theorem foldl_placeDropOrder_room {l : List Nat} (rising : l.Pairwise (· < ·)) (x : Feeder) :
    (l.foldl placeDropOrder x).orderQueue =
      x.orderQueue ++ (l.filterMap x.heldOrder).take (32 - x.orderQueue.length) ∧
    ∀ d, (l.foldl placeDropOrder x).drop d =
      if d ∈ l ∧ (x.drop d).held = true ∧ x.heldBefore l d < 32 - x.orderQueue.length then (x.drop d).queued
      else x.drop d := by
  induction l generalizing x with
  | nil => simp
  | cons e l ih =>
    obtain ⟨below, rising⟩ := List.pairwise_cons.1 rising
    rw [List.foldl_cons]
    by_cases room : x.orderQueue.length < 32
    · cases order : x.heldOrder e with
      | none =>
        have free : (x.drop e).held = false := by rw [← Feeder.heldOrder_isSome, order]; rfl
        have same : placeDropOrder x e = x := by rw [placeDropOrder_eq, if_pos room, order]; rfl
        obtain ⟨queue, drops⟩ := ih rising x
        rw [same, queue, List.filterMap_cons_none order]
        refine ⟨rfl, fun d => ?_⟩
        rw [drops]
        by_cases here : d = e
        · subst here; simp [free]
        · exact if_congr (by simp [Feeder.heldBefore, here, free]) rfl rfl
      | some o =>
        have held : (x.drop e).held = true := by rw [← Feeder.heldOrder_isSome, order]; rfl
        have placed : placeDropOrder x e =
            { x.setDrop e (x.drop e).queued with orderQueue := x.orderQueue ++ [o] } := by
          rw [placeDropOrder_eq, if_pos room, order]; rfl
        generalize hy : placeDropOrder x e = y at *
        have other : ∀ d, d ≠ e → y.drop d = x.drop d := fun d hd => by
          rw [placed]; exact Feeder.drop_setDrop_ne (h := hd) ..
        have here : y.drop e = (x.drop e).queued := by rw [placed]; exact Feeder.drop_setDrop_self ..
        have queue_y : y.orderQueue = x.orderQueue ++ [o] := by rw [placed]
        have listed : ∀ d ∈ l, d ≠ e := fun d hd => (below d hd).ne'
        obtain ⟨queue, drops⟩ := ih rising y
        constructor
        · have orders : l.filterMap y.heldOrder = l.filterMap x.heldOrder :=
            List.filterMap_congr fun d hd => by simp only [Feeder.heldOrder, other d (listed d hd)]
          rw [queue, orders, queue_y, List.filterMap_cons_some order, List.append_assoc, List.singleton_append]
          obtain ⟨k, hk⟩ : ∃ k, 32 - x.orderQueue.length = k + 1 := ⟨31 - x.orderQueue.length, by omega⟩
          rw [hk, List.take_succ_cons, List.length_append, List.length_singleton,
            show 32 - (x.orderQueue.length + 1) = k by omega]
        · intro d
          rw [drops]
          by_cases same : d = e
          · have out : d ∉ l := fun hd => listed d hd same
            have first : x.heldBefore (e :: l) e = 0 := by
              simp only [Feeder.heldBefore, List.length_eq_zero_iff, List.filter_eq_nil_iff, List.mem_cons]
              rintro b (rfl | hb)
              · simp
              · simp [Nat.lt_asymm (below b hb)]
            rw [if_neg (by simp [out]), same, here, if_pos ⟨by simp, held, by omega⟩]
          · by_cases hd : d ∈ l
            · have count : x.heldBefore (e :: l) d = y.heldBefore l d + 1 := by
                have rest : y.heldBefore l d = x.heldBefore l d := congrArg List.length
                  (List.filter_congr fun b hb => by simp only [other b (listed b hb)])
                rw [rest]
                simp only [Feeder.heldBefore, List.filter_cons, below d hd, held, decide_true, Bool.and_self, if_true,
                  List.length_cons]
              have iff : (d ∈ l ∧ (y.drop d).held = true ∧ y.heldBefore l d < 32 - y.orderQueue.length) ↔
                  d ∈ e :: l ∧ (x.drop d).held = true ∧ x.heldBefore (e :: l) d < 32 - x.orderQueue.length := by
                rw [other d same, count, queue_y, List.length_append, List.length_singleton, List.mem_cons]
                constructor
                · rintro ⟨h1, h2, h3⟩; exact ⟨.inr h1, h2, by omega⟩
                · rintro ⟨-, h2, h3⟩; exact ⟨hd, h2, by omega⟩
              rw [other d same] at iff ⊢
              exact if_congr iff rfl rfl
            · rw [if_neg (by simp [hd]), if_neg (by simp [hd, same]), other d same]
    · have same : placeDropOrder x e = x := by rw [placeDropOrder_eq, if_neg room]
      obtain ⟨queue, drops⟩ := ih rising x
      have zero : 32 - x.orderQueue.length = 0 := by omega
      rw [same, queue, zero]
      refine ⟨rfl, fun d => ?_⟩
      rw [drops, zero]
      simp

/-! ## Placing the DECLINEs -/

/-- Placing one DECLINE. -/
theorem placeDeclines_cons (hold : Nat) (e : ReplyEntry) (rest : List ReplyEntry) (q : List LineOrder) :
    placeDeclines hold (e :: rest) q = if e.held = true ∧ q.length < 32 then
      (e.queued :: (placeDeclines hold rest (q ++ [declineOrder hold e])).1,
        (placeDeclines hold rest (q ++ [declineOrder hold e])).2)
    else (e :: (placeDeclines hold rest q).1, (placeDeclines hold rest q).2) := by
  rw [placeDeclines]
  split
  next reason decline =>
    have held : e.held = true := (ReplyEntry.held_iff _).2 ⟨reason, decline⟩
    simp only [ReplyEntry.queued, decline, Option.map_some]
    exact if_congr (by simp [held, Config.orderPlaces]) rfl rfl
  next other =>
    have free : ¬ (e.held = true ∧ q.length < 32) := fun ⟨held, _⟩ => by
      obtain ⟨why, decline⟩ := (ReplyEntry.held_iff _).1 held
      exact other why decline
    rw [if_neg free]

/-- Placing DECLINEs: as many as have room, in arrival order. -/
theorem placeDeclines_room (hold : Nat) (l : List ReplyEntry) (q : List LineOrder) :
    (placeDeclines hold l q).2 = q ++ (l.filterMap (ReplyEntry.heldOrder hold)).take (32 - q.length) ∧
    ∀ i e, l[i]? = some e → (placeDeclines hold l q).1[i]? = some
      (if e.held = true ∧ ((l.take i).filter ReplyEntry.held).length < 32 - q.length then e.queued else e) := by
  induction l generalizing q with
  | nil => simp [placeDeclines]
  | cons e l ih =>
    rw [placeDeclines_cons]
    by_cases goes : e.held = true ∧ q.length < 32
    · obtain ⟨held, room⟩ := goes
      obtain ⟨queue, entries⟩ := ih (q ++ [declineOrder hold e])
      obtain ⟨k, hk⟩ : ∃ k, 32 - q.length = k + 1 := ⟨31 - q.length, by omega⟩
      have rest : 32 - (q ++ [declineOrder hold e]).length = k := by simp; omega
      rw [if_pos ⟨held, room⟩]
      constructor
      · have order : ReplyEntry.heldOrder hold e = some (declineOrder hold e) := if_pos held
        rw [queue, List.filterMap_cons_some order, hk, rest]
        simp
      · intro i y at_i
        cases i with
        | zero =>
          cases at_i
          simp [held, hk]
        | succ i =>
          rw [List.getElem?_cons_succ] at at_i ⊢
          rw [entries i y at_i, rest, hk]
          simp [held]
    · obtain ⟨queue, entries⟩ := ih q
      rw [if_neg goes]
      by_cases held : e.held = true
      · have zero : 32 - q.length = 0 := by
          have : ¬ q.length < 32 := fun room => goes ⟨held, room⟩
          omega
        rw [zero] at queue entries ⊢
        refine ⟨by simpa using queue, fun i y at_i => ?_⟩
        cases i with
        | zero => cases at_i; simp
        | succ i =>
          rw [List.getElem?_cons_succ] at at_i ⊢
          simpa using entries i y at_i
      · have order : ReplyEntry.heldOrder hold e = none := if_neg held
        refine ⟨by rw [queue, List.filterMap_cons_none order], fun i y at_i => ?_⟩
        cases i with
        | zero => cases at_i; simp [held]
        | succ i =>
          rw [List.getElem?_cons_succ] at at_i ⊢
          rw [entries i y at_i]
          simp [held]

/-! ## A whole filling -/

theorem dropIndices_rising : dropIndices.Pairwise (· < ·) := by decide

/-- The records and the queue once the orders of the records are placed. -/
theorem fillOrders_parts (x : Feeder) : ∃ y : Feeder, dropIndices.foldl placeDropOrder x = y ∧
    y.settings = x.settings ∧ y.replies = x.replies ∧
    x.fillOrders.orderQueue = (placeDeclines x.settings.declineHold x.replies y.orderQueue).2 ∧
    x.fillOrders.replies = (placeDeclines x.settings.declineHold x.replies y.orderQueue).1 ∧
    ∀ d, x.fillOrders.drop d = y.drop d := by
  obtain ⟨y, hy, frame, -⟩ := foldl_placeDropOrder_spec dropIndices x
  have settings : y.settings = x.settings := by rw [frame]
  have replies : y.replies = x.replies := by rw [frame]
  refine ⟨y, hy, settings, replies, ?_⟩
  simp only [Feeder.fillOrders, hy, ← settings, ← replies]
  exact ⟨trivial, trivial, fun d => rfl⟩

/-- What a filling places: the HELD orders of the records and then the HELD DECLINEs, as far as there is room (R77). -/
theorem Feeder.fillOrders_spec (x : Feeder) :
    x.fillOrders.orderQueue = x.orderQueue ++ (dropIndices.filterMap x.heldOrder ++
      x.replies.filterMap (ReplyEntry.heldOrder x.settings.declineHold)).take (32 - x.orderQueue.length) ∧
    (∀ d, x.fillOrders.drop d = if d ∈ dropIndices ∧ (x.drop d).held = true ∧
      x.heldBefore dropIndices d < 32 - x.orderQueue.length then (x.drop d).queued else x.drop d) ∧
    ∀ i e, x.replies[i]? = some e → x.fillOrders.replies[i]? = some (if e.held = true ∧
      (dropIndices.filter fun d => (x.drop d).held).length + ((x.replies.take i).filter ReplyEntry.held).length <
        32 - x.orderQueue.length then e.queued else e) := by
  obtain ⟨y, rfl, -, -, queue, replies, drops⟩ := fillOrders_parts x
  obtain ⟨placed, records⟩ := foldl_placeDropOrder_room dropIndices_rising x
  obtain ⟨declined, entries⟩ := placeDeclines_room x.settings.declineHold x.replies
    (dropIndices.foldl placeDropOrder x).orderQueue
  have held : (dropIndices.filterMap x.heldOrder).length = (dropIndices.filter fun d => (x.drop d).held).length := by
    rw [List.length_filterMap_eq_countP, List.countP_eq_length_filter]
    simp only [Feeder.heldOrder_isSome]
  have left : 32 - (dropIndices.foldl placeDropOrder x).orderQueue.length =
      32 - x.orderQueue.length - (dropIndices.filter fun d => (x.drop d).held).length := by
    rw [placed, List.length_append, List.length_take, held]
    omega
  refine ⟨?_, fun d => (drops d).trans (records d), fun i e at_i => ?_⟩
  · rw [queue, declined, left, placed, List.append_assoc, List.take_append, held]
  · rw [replies, entries i e at_i, left]
    refine congrArg some (if_congr (and_congr_right fun _ => ?_) rfl rfl)
    omega

/-- Settles O51. -/
theorem fillingPlacesOrdersInTheirOrder : Obligations.FillingPlacesOrdersInTheirOrder := by
  unfold Obligations.FillingPlacesOrdersInTheirOrder
  intro x
  obtain ⟨queue, drops, entries⟩ := x.fillOrders_spec
  have length : x.fillOrders.replies.length = x.replies.length := by
    obtain ⟨y, -, -, -, -, replies, -⟩ := fillOrders_parts x
    rw [replies]
    exact (placeDeclines_length ..).1
  refine ⟨x.fillOrders_frame, queue.trans (congrArg (x.orderQueue ++ ·) (congrArg (List.take _) (congrArg₂ (· ++ ·)
    (List.filterMap_congr fun d _ => ?_) (List.filterMap_congr fun e _ => ?_)))),
    fun d k h1 h64 pending => ?_, fun d free => ?_, length, fun i e e' at_i at_i' => ?_⟩
  · rw [Feeder.heldOrder, DropRecord.held]
    obtain _ | ⟨k, _ | _⟩ := (x.drop d).pending
    · rfl
    · cases k <;> rfl
    · cases k <;> rfl
  · rw [ReplyEntry.heldOrder, ReplyEntry.held]
    obtain _ | ⟨why, _ | _⟩ := e.decline <;> rfl
  · have held : (x.drop d).held = true := (DropRecord.held_iff _).2 ⟨k, pending⟩
    have queued : (x.drop d).queued = { x.drop d with pending := some ⟨k, .queued⟩ } := by
      rw [DropRecord.queued, pending]
      rfl
    have stays : x.drop d = { x.drop d with pending := some ⟨k, .held⟩ } := by rw [← pending]
    rw [drops, show (dropIndices.filter fun e => decide (e < d) && (x.drop e).pending.any fun p =>
      decide (p.status = .held)).length = x.heldBefore dropIndices d from rfl]
    by_cases fits : x.heldBefore dropIndices d < 32 - x.orderQueue.length
    · rw [if_pos ⟨mem_dropIndices.2 ⟨h1, h64⟩, held, fits⟩, if_pos fits, queued]
    · rw [if_neg fun ⟨_, _, h⟩ => fits h, if_neg fits, ← stays]
  · rw [drops]
    refine if_neg fun ⟨_, held, _⟩ => ?_
    obtain ⟨k, pending⟩ := (DropRecord.held_iff _).1 held
    obtain free | ⟨k', free⟩ := free <;> simp [free] at pending
  · rw [entries i e at_i, Option.some_inj] at at_i'
    subst at_i'
    by_cases held : e.held = true
    · obtain ⟨why, decline⟩ := (ReplyEntry.held_iff _).1 held
      have queued : e.queued = { e with decline := some (why, .queued) } := by
        rw [ReplyEntry.queued, decline]
        rfl
      refine ⟨?_, ?_, fun why' decline' => ?_, fun other => absurd decline (other why)⟩
      · split <;> rfl
      · split
        · rw [queued, decline]
          rfl
        · rfl
      · cases decline.symm.trans decline'
        change _ = some (why, if (dropIndices.filter fun d => (x.drop d).held).length +
          ((x.replies.take i).filter ReplyEntry.held).length < _ then _ else _)
        split
        next goes => rw [if_pos goes.2, queued]
        next stays => rw [if_neg fun h => stays ⟨held, h⟩, decline]
    · rw [if_neg fun h => held h.1]
      exact ⟨rfl, rfl, fun why decline => absurd ((ReplyEntry.held_iff _).2 ⟨why, decline⟩) held, fun _ => rfl⟩

end Sys2Proof.Machine
end


section
/-! PROOFS. What a build takes from other blocks and what it hands on (R21 to R24, R35 to R44, R80, R98). -/

namespace Sys2Proof.Machine

/-! ## The inputs of a build -/

theorem Feeder.sweepDue_iff (x : Feeder) (n : CycleNo) : x.sweepDue n = true ↔ x.sweep.once = .due ∨
    (x.sweep.continuous = true ∧ (x.sweep.lastDiscovery = none ∨
      ∃ m, x.sweep.lastDiscovery = some m ∧ x.settings.period ≤ (n - m).toNat)) := by
  unfold Feeder.sweepDue
  cases x.sweep.lastDiscovery with
  | none => simp
  | some m =>
    simp only [Bool.or_eq_true, Bool.and_eq_true, decide_eq_true_eq, reduceCtorEq, false_or, Option.some.injEq,
      exists_eq_left']
    rfl

theorem Feeder.sweepAllowed_iff (x : Feeder) (n : CycleNo) : x.sweepAllowed n = true ↔
    x.sweepDue n = true ∧ (x.rogue = .clear ∨ x.rogue = .watch) ∧ x.replyOverrun = false := by
  simp [Feeder.sweepAllowed, and_assoc]

theorem Feeder.plansDiscovery_iff (x : Feeder) (n : CycleNo) :
    x.plansDiscovery n = true ↔ x.sweepAllowed n = true ∧ x.replies.length < 4 := by
  rw [Feeder.plansDiscovery, Bool.and_eq_true, decide_eq_true_eq, Config.replyPlaces]

theorem Feeder.rangesDrop_iff (x : Feeder) (n : CycleNo) (d : Nat) : x.rangesDrop n d = true ↔
    (x.drop d).state = .ranging ∧ (x.drop d).phase = some .measuring ∧ (x.drop d).inFlight = none ∧
      x.rogue ≠ .isolating ∧ x.stuck = none ∧
      ∃ m, (x.drop d).lastSent = some (.assign, m) ∧ (n - m).toNat < 2 ^ 31 ∧ n ≠ m := by
  unfold Feeder.rangesDrop
  dsimp only
  split
  next m sent =>
    have after : afterCycle n m = true ↔ (n - m).toNat < 2 ^ 31 ∧ n ≠ m := by
      rw [afterCycle, atOrBefore, Bool.and_eq_true, decide_eq_true_eq, decide_eq_true_eq, cyclesFrom, ne_comm]
    simp only [sent, Feeder.frozen, after, Bool.and_eq_true, decide_eq_true_eq,
      Option.isNone_iff_eq_none, Bool.not_eq_true', Bool.or_eq_false_iff, decide_eq_false_iff_not,
      Option.isSome_eq_false_iff, Option.some.injEq, Prod.mk.injEq, true_and, exists_eq_left', and_assoc, ne_eq]
  next other =>
    simp only [Bool.and_false, Bool.false_eq_true, false_iff]
    rintro ⟨-, -, -, -, -, m, sent, -⟩
    exact other m sent

/-- Settles O27. -/
theorem buildInputsFollowTheirRules : Obligations.BuildInputsFollowTheirRules := by
  unfold Obligations.BuildInputsFollowTheirRules
  refine ⟨fun f d l s => ⟨fun unbound => ?_, ?_⟩, fun x n due may hdue hmay => ?_, fun x n =>
    ⟨dropIndices_rising.filter _, fun d => ?_⟩, fun t discovery k => rfl⟩
  · rw [State.inForce, unbound]
  · rintro k a bound rfl
    refine ⟨fun state => ?_, fun state floor => ?_, fun state floor => ?_, fun state => ?_⟩
    · simp only [State.inForce, bound, state]
    · simp only [State.inForce, bound, state, floor, if_true]
    · simp only [State.inForce, bound, state, floor, if_false]
    · simp only [State.inForce, bound, state]
  · have allowed : x.sweepAllowed n = may := by
      rw [Bool.eq_iff_iff, hmay, hdue, Feeder.sweepAllowed_iff, Feeder.sweepDue_iff]
    refine ⟨by rw [Feeder.plansDiscovery_iff, allowed], fun may room => ?_, fun may full => ?_, fun not => ?_⟩
    · exact if_pos ((Feeder.plansDiscovery_iff ..).2 ⟨allowed.trans may, room⟩)
    · refine (if_neg ?_).trans (if_pos (allowed.trans may))
      rw [Feeder.plansDiscovery_iff]
      omega
    · have no : ¬ x.sweepAllowed n = true := by rw [allowed, not]; simp
      refine (if_neg ?_).trans (if_neg no)
      rw [Feeder.plansDiscovery_iff]
      exact fun h => no h.1
  · rw [Feeder.rangingList, List.mem_filter, mem_dropIndices, Feeder.rangesDrop_iff, and_assoc]

/-! ## The drops of a plan -/

/-- The drop an entry is for. -/
def Entry.owner : Entry → Option Nat
  | .burst d _ _ _ _ => some d
  | .ranging d _ _ => some d
  | _ => none

theorem Entry.windowId_of_owner {e : Entry} {d : Nat} (h : e.owner = some d) :
    e.windowId = some (.burst d) ∨ e.windowId = some (.ranging d) := by
  cases e with
  | burst k => cases h; exact .inl rfl
  | ranging k => cases h; exact .inr rfl
  | discovery | dark => cases h

theorem reportEntry_drop_ne {n : CycleNo} {x : Feeder} {e : Entry} {d : Nat} (other : e.owner ≠ some d) :
    (reportEntry n x e).drop d = x.drop d := by
  cases e with
  | burst k => exact Feeder.drop_setDrop_ne (h := fun h => other (congrArg some h.symm)) ..
  | ranging k => exact Feeder.drop_setDrop_ne (h := fun h => other (congrArg some h.symm)) ..
  | discovery | dark => rfl

theorem foldl_reportEntry_drop_ne {n : CycleNo} {l : List Entry} {d : Nat} (other : ∀ e ∈ l, e.owner ≠ some d)
    (x : Feeder) : (l.foldl (reportEntry n) x).drop d = x.drop d := by
  induction l generalizing x with
  | nil => rfl
  | cons e l ih =>
    rw [List.foldl_cons, ih (fun e' h => other e' (by simp [h])), reportEntry_drop_ne (other e (by simp))]

/-- Where the entries of a plan are for drops apart, the one of a drop moves its record and no other does. -/
theorem foldl_reportEntry_drop {n : CycleNo} {l : List Entry} (apart : (l.filterMap Entry.owner).Nodup) {e : Entry}
    (he : e ∈ l) {d : Nat} (owner : e.owner = some d) (x : Feeder) :
    (l.foldl (reportEntry n) x).drop d = (reportEntry n x e).drop d := by
  obtain ⟨before, after, rfl⟩ := List.append_of_mem he
  rw [List.filterMap_append, List.filterMap_cons_some owner, List.nodup_append] at apart
  obtain ⟨-, once, disjoint⟩ := apart
  have notBefore : ∀ e' ∈ before, e'.owner ≠ some d := fun e' h same =>
    disjoint d (List.mem_filterMap.2 ⟨e', h, same⟩) d (by simp) rfl
  have notAfter : ∀ e' ∈ after, e'.owner ≠ some d := fun e' h same =>
    (List.nodup_cons.1 once).1 (List.mem_filterMap.2 ⟨e', h, same⟩)
  rw [List.foldl_append, List.foldl_cons, foldl_reportEntry_drop_ne notAfter]
  have same := foldl_reportEntry_drop_ne (n := n) notBefore x
  cases e with
  | burst k =>
    cases owner
    simp only [reportEntry, Feeder.drop_setDrop_self, same]
  | ranging k =>
    cases owner
    simp only [reportEntry, Feeder.drop_setDrop_self, same]
  | discovery | dark => cases owner

theorem layBursts_owners (w : Nat) (l : List (Nat × List (Nat × Nat) × Option BurstFlag)) :
    (layBursts w l).1.filterMap Entry.owner = l.map Prod.fst := by
  induction l generalizing w with
  | nil => rfl
  | cons o l ih => exact congrArg (o.1 :: ·) (ih _)

theorem layRanging_owners (t : Settings) (rtd : Nat → Nat) (w : Nat) (l : List Nat) :
    (layRanging t rtd w l).filterMap Entry.owner = l := by
  induction l generalizing w with
  | nil => rfl
  | cons d l ih => exact congrArg (d :: ·) (ih _)

theorem layPlan_owners (t : Settings) (rtd : Nat → Nat) (bursts : List (Nat × List (Nat × Nat) × Option BurstFlag))
    (ranging : List Nat) (discovery : Bool) :
    (layPlan t rtd bursts ranging discovery).filterMap Entry.owner = bursts.map Prod.fst ++ ranging := by
  have tail : (layTail t discovery).filterMap Entry.owner = [] := by
    unfold layTail
    split <;> split <;> rfl
  rw [layPlan, List.filterMap_append, List.filterMap_append, layBursts_owners, layRanging_owners, tail, List.append_nil]

/-! ## No burst of a build is for a RANGING drop -/

/-- Every open burst is for a drop of feeder `x` that is not RANGING. -/
def Build.sparesRanging (x : Feeder) (b : Build) : Prop :=
  (∀ d, b.feeder.drop d = x.drop d) ∧ ∀ d, b.isOpen d = true → (x.drop d).state ≠ .ranging

theorem mandatoryStage_sparesRanging {x : Feeder} (capacity : Nat) (n : CycleNo) {b : Build} (h : b.sparesRanging x)
    (d : Nat) : (mandatoryStage capacity n b d).sparesRanging x := by
  obtain ⟨drops, opened⟩ := h
  obtain ⟨-, same⟩ | ⟨flag, due, ⟨-, same⟩ | ⟨-, taken⟩⟩ := mandatoryStage_cases capacity n b d
  · rw [same]; exact ⟨drops, opened⟩
  · rw [same]; exact ⟨drops, opened⟩
  · rw [taken]
    refine ⟨drops, fun k open' => ?_⟩
    simp only [Build.isOpen, List.any_append, List.any_cons, List.any_nil, Bool.or_false, Bool.or_eq_true,
      decide_eq_true_eq] at open'
    obtain old | rfl := open'
    · exact opened k old
    · intro ranging
      rw [drops, mandatoryFlag, ranging] at due
      cases due

theorem issue_sparesRanging {x : Feeder} {b : Build} (h : b.sparesRanging x) {d : Nat}
    (active : (x.drop d).state = .active) (l g : Nat) : (b.issue d l g).sparesRanging x := by
  obtain ⟨drops, opened⟩ := h
  refine ⟨fun k => drops k, fun k open' => ?_⟩
  rw [Build.isOpen_issue, Bool.or_eq_true, decide_eq_true_eq] at open'
  obtain old | rfl := open'
  · exact opened k old
  · simp [active]

theorem guaranteedStage_sparesRanging {x : Feeder} (cls : LaneClass) (capacity : Nat)
    (force : Nat → Nat → Option Profile) {b : Build} (h : b.sparesRanging x) {k : Nat × Nat}
    (active : (x.drop k.1).state = .active) : (guaranteedStage cls capacity force b k).sparesRanging x := by
  obtain ⟨-, same⟩ | ⟨p, whole, g, c, -, -, -, -, rfl, taken⟩ := guaranteedStage_cases cls capacity force b k
  · rw [same]; exact h
  · rw [taken]
    split
    · exact issue_sparesRanging (b := { b with cut := b.cut || decide (b.room capacity k.1 < g) }) h active _ _
    · exact h

theorem sharedStage_sparesRanging {x : Feeder} (capacity : Nat) (force : Nat → Nat → Option Profile)
    (l : List (Nat × Nat)) (active : ∀ k ∈ l, (x.drop k.1).state = .active) {b : Build} (h : b.sparesRanging x) :
    (sharedStage capacity force l b).sparesRanging x := by
  induction l generalizing b with
  | nil => exact h
  | cons k l ih =>
    have rest := fun k hk => active k (List.mem_cons_of_mem _ hk)
    obtain ⟨-, same⟩ | ⟨p, -, -, ⟨-, same⟩ | ⟨g, -, -, same⟩⟩ := sharedStage_cons capacity force k l b
    · rw [same]; exact ih rest h
    · rw [same]; exact h
    · rw [same]
      refine ih rest ?_
      split
      · exact issue_sparesRanging h (active k (by simp)) _ _
      · exact h

theorem foldl_sparesRanging {α : Type} {x : Feeder} {g : Build → α → Build} {l : List α}
    (hg : ∀ b a, a ∈ l → b.sparesRanging x → (g b a).sparesRanging x) {b : Build} (h : b.sparesRanging x) :
    (l.foldl g b).sparesRanging x := by
  induction l generalizing b with
  | nil => exact h
  | cons a l ih => exact ih (fun b c hc => hg b c (by simp [hc])) (hg b a (by simp) h)

theorem active_of_mem_activeLanes {x : Feeder} {k : Nat × Nat} (h : k ∈ x.activeLanes) :
    (x.drop k.1).state = .active := by
  rw [activeLanes_eq, List.mem_filter] at h
  simp only [Bool.and_eq_true, decide_eq_true_eq] at h
  exact h.2.1

theorem buildGrants_sparesRanging (capacity : Nat) (n : CycleNo) (force : Nat → Nat → Option Profile) (x : Feeder) :
    (buildGrants capacity n force x).sparesRanging x := by
  obtain ⟨table, credited, -⟩ := x.creditAll_spec force
  have mandatory : (mandatoryBuild capacity n (x.creditAll force)).sparesRanging x :=
    foldl_sparesRanging (fun b d _ h => mandatoryStage_sparesRanging capacity n h d)
      ⟨fun d => by rw [credited]; rfl, fun d h => by simp [Build.isOpen] at h⟩
  have guaranteed : ∀ cls {b : Build}, b.sparesRanging x →
      (x.activeLanes.foldl (guaranteedStage cls capacity force) b).sparesRanging x := fun cls b h =>
    foldl_sparesRanging (fun b k hk h => guaranteedStage_sparesRanging cls capacity force h
      (active_of_mem_activeLanes hk)) h
  rw [buildGrants_stages]
  exact sharedStage_sparesRanging capacity force _ (fun k hk => active_of_mem_activeLanes (by
    simp only [rotated, List.mem_append, List.mem_filter] at hk
    exact hk.elim (·.1) (·.1))) (guaranteed .assured (guaranteed .fixed mandatory))

/-- The entries of a plan are for drops apart. -/
theorem plan_owners_nodup (capacity : Nat) (n : CycleNo) (force : Nat → Nat → Option Profile) (x : Feeder) (m : CycleNo) :
    ((buildGrants capacity n force x).bursts.map Prod.fst ++ x.rangingList m).Nodup := by
  have bursts : (buildGrants capacity n force x).bursts.map Prod.fst =
      dropIndices.filter (buildGrants capacity n force x).isOpen := by
    simp [Build.bursts, List.map_map, Function.comp_def]
  rw [bursts, List.nodup_append]
  refine ⟨dropIndices_nodup.filter _, dropIndices_nodup.filter _, ?_⟩
  rintro d burst _ ranging rfl
  have state := ((Feeder.rangesDrop_iff ..).1 (List.mem_filter.1 ranging).2).1
  exact (buildGrants_sparesRanging capacity n force x).2 d (List.mem_filter.1 burst).2 state

/-! ## The handing on of a plan -/

theorem setOverbooked_spec (f : FeederId) (n : CycleNo) (s : State) :
    (setOverbooked f n s).feeder f = { s.feeder f with overbooked := true } ∧
    (∀ g, g ≠ f → (setOverbooked f n s).feeder g = s.feeder g) ∧
    setOverbooked f n s = { s with feeders := (setOverbooked f n s).feeders, agent := (setOverbooked f n s).agent } ∧
    (setOverbooked f n s).agent =
      if (s.feeder f).overbooked then s.agent else (notify (.overbooked f n) s).agent := by
  unfold setOverbooked
  split
  next set => exact ⟨by rw [← set], fun g _ => rfl, rfl, rfl⟩
  next clear =>
    refine ⟨by rw [notify_feeder, State.feeder_onFeeder_self], fun g hg => ?_, ?_, ?_⟩
    · rw [notify_feeder, State.feeder_onFeeder_ne (h := hg)]
    · rw [notify_frame]
      rfl
    · exact notify_agent_congr _ rfl rfl

theorem Feeder.decideDiscovery_frame (x : Feeder) (n : CycleNo) : x.decideDiscovery n = { x with
    sweep := (x.decideDiscovery n).sweep, discoveries := (x.decideDiscovery n).discoveries
    enrolCount := (x.decideDiscovery n).enrolCount } := by
  unfold Feeder.decideDiscovery
  split
  · rfl
  · split <;> rfl

/-- What a build leaves on its feeder, before OVERBOOKED. -/
def Build.handedOn (b : Build) (n : CycleNo) (plan : List Entry) : Feeder :=
  (plan.foldl (reportEntry n) b.feeder).handOn n plan

theorem Feeder.build_eq {x : Feeder} {n : CycleNo} {force : Nat → Nat → Option Profile} {b : Build} {plan : List Entry}
    (hb : b = buildGrants (capacityOf x.settings (x.plansDiscovery n) (x.rangingList n).length) n force
      (x.decideDiscovery n))
    (hplan : plan = layPlan x.settings (fun d => (x.drop d).rtd) b.bursts (x.rangingList n) (x.plansDiscovery n)) :
    x.build force n = (b.handedOn n plan, b.cut) := by
  have frame := x.decideDiscovery_frame n
  have settings : (x.decideDiscovery n).settings = x.settings := by rw [frame]
  have drops : (x.decideDiscovery n).drop = x.drop := by rw [frame]; rfl
  have ranging : (x.decideDiscovery n).rangingList n = x.rangingList n := by rw [frame]; rfl
  unfold Feeder.build
  dsimp only
  rw [settings, drops, ranging, ← hb, ← hplan]
  rfl

/-- The build of a RUNNING feeder: its feeder is built, with OVERBOOKED set where a grant was cut, and a notice is asked
for where it was clear (R34). -/
theorem runWork_build {f : FeederId} {n : CycleNo} {s : State} (running : (s.feeder f).running = true) {b : Build}
    {plan : List Entry} (built : (s.feeder f).build (s.inForce f) n = (b.handedOn n plan, b.cut))
    (same : (b.handedOn n plan).overbooked = (s.feeder f).overbooked) :
    ∃ t, runWork n s (.build f) = t ∧
      t.feeder f = { b.handedOn n plan with overbooked := (s.feeder f).overbooked || b.cut } ∧
      (∀ g, g ≠ f → t.feeder g = s.feeder g) ∧ t = { s with feeders := t.feeders, agent := t.agent } ∧
      t.agent = if b.cut = true ∧ (s.feeder f).overbooked = false then (notify (.overbooked f n) s).agent
        else s.agent := by
  have run : runWork n s (.build f) =
      if b.cut then setOverbooked f n (s.setFeeder f (b.handedOn n plan))
      else s.setFeeder f (b.handedOn n plan) := by
    show buildPlan f n s = _
    rw [buildPlan, if_pos running, built]
  refine ⟨_, rfl, ?_⟩
  rw [run]
  by_cases cut : b.cut = true
  · obtain ⟨here, others, frame, agent⟩ := setOverbooked_spec f n (s.setFeeder f (b.handedOn n plan))
    rw [if_pos cut]
    refine ⟨by rw [here, State.feeder_setFeeder_self, cut, Bool.or_true], fun g hg => ?_, frame, ?_⟩
    · rw [others g hg, State.feeder_setFeeder_ne (h := hg)]
    · rw [agent, State.feeder_setFeeder_self, same]
      cases (s.feeder f).overbooked with
      | true => simp
      | false =>
        rw [if_neg (by simp), if_pos ⟨cut, rfl⟩]
        exact notify_agent_congr _ rfl rfl
  · rw [if_neg cut, Bool.eq_false_iff.2 cut, Bool.or_false]
    refine ⟨by rw [State.feeder_setFeeder_self, ← same], fun g hg => State.feeder_setFeeder_ne (h := hg) .., rfl, by simp⟩

theorem Quad.get_set_ne {α : Type} (q : Quad α) {i j : Nat} (hi : i < 4) (hj : j < 4) (h : j ≠ i) (v : α) :
    (q.set i v).get j = q.get j := by
  interval_cases i <;> interval_cases j <;> simp_all [Quad.get, Quad.set]

theorem Feeder.slotOf_congr {x y : Feeder} (ring : x.ring = y.ring) (n : CycleNo) : x.slotOf n = y.slotOf n := by
  rw [Feeder.slotOf, Feeder.slotOf, ring]

theorem Feeder.slotOf_setSlot_ne (x : Feeder) {n m : CycleNo} (h : m.toNat % 4 ≠ n.toNat % 4) (o : Option Slot) :
    (x.setSlot n o).slotOf m = x.slotOf m := by
  have apart : (x.ring.set (slotNumber n) o).get (slotNumber m) = x.ring.get (slotNumber m) :=
    Quad.get_set_ne _ (Nat.mod_lt _ (by omega)) (Nat.mod_lt _ (by omega)) h o
  simp [Feeder.slotOf, Feeder.setSlot, apart]

/-- What a build hands on, field by field. -/
theorem Build.handedOn_spec {x : Feeder} {n : CycleNo} {b : Build} {plan : List Entry} {c : DownCycle}
    (sending : x.sending = some c)
    (frame : ∃ lanes pointer, b.feeder = { x.decideDiscovery n with lanes := lanes, pointer := pointer }) :
    ∃ drops, b.handedOn n plan = { x.decideDiscovery n with
      drops := drops, lanes := b.feeder.lanes, pointer := b.feeder.pointer
      ring := x.ring.set (slotNumber n)
        (some ⟨.waiting, n, plan.map fun e => ⟨e, .nothing, .unresolved⟩, LightRecord.dark⟩)
      sending := some { c with plan := plan } } ∧
    ∀ d, (b.handedOn n plan).drop d = (plan.foldl (reportEntry n) b.feeder).drop d := by
  obtain ⟨lanes, pointer, grants⟩ := frame
  obtain ⟨drops, reported⟩ := Feeder.foldl_reportEntry_frame n plan b.feeder
  refine ⟨drops, ?_, fun d => rfl⟩
  unfold Build.handedOn
  rw [reported, grants, x.decideDiscovery_frame n]
  simp only [Feeder.handOn, Feeder.setSlot, sending, Option.map_some]

/-! ## The layout -/

/-- The flag with which a drop's burst was opened first. -/
def Build.flagOf (b : Build) (d : Nat) : Option (Option BurstFlag) :=
  (b.opened.find? fun o => decide (o.1 = d)).map Prod.snd

theorem Build.flagOf_eq_some {b : Build} {d : Nat} {flag : Option BurstFlag} : b.flagOf d = some flag ↔
    ∃ before after, b.opened = before ++ (d, flag) :: after ∧ d ∉ before.map Prod.fst := by
  simp only [Build.flagOf, Option.map_eq_some_iff, Prod.exists, exists_eq_right, List.find?_eq_some_iff_append,
    decide_eq_true_eq, Bool.not_eq_true', decide_eq_false_iff_not, List.mem_map, not_exists, not_and]
  constructor
  · rintro ⟨d', rfl, before, after, opened, none⟩
    exact ⟨before, after, opened, fun l m hl hd => none (l, m) hl hd⟩
  · rintro ⟨before, after, opened, none⟩
    exact ⟨d, rfl, before, after, opened, fun o ho hd => none o.1 o.2 ho hd⟩

theorem Build.isOpen_iff_flagOf (b : Build) (d : Nat) : b.isOpen d = (b.flagOf d).isSome := by
  rw [Build.isOpen, Build.flagOf, Option.isSome_map, Bool.eq_iff_iff, List.any_eq_true, List.find?_isSome]

theorem mem_bursts {b : Build} {d : Nat} {allocs : List (Nat × Nat)} {flag : Option BurstFlag} :
    (d, allocs, flag) ∈ b.bursts ↔ 1 ≤ d ∧ d ≤ 64 ∧
      allocs = (b.feeder.drop d).enabledLanes.map (fun l => (l, b.grantOf d l)) ∧
      ∃ before after, b.opened = before ++ (d, flag) :: after ∧ d ∉ before.map Prod.fst := by
  rw [← Build.flagOf_eq_some]
  simp only [Build.bursts, List.mem_map, List.mem_filter, mem_dropIndices, Prod.mk.injEq, b.isOpen_iff_flagOf]
  constructor
  · rintro ⟨k, ⟨⟨h1, h64⟩, isOpen⟩, rfl, rfl, rfl⟩
    obtain ⟨flag, found⟩ := Option.isSome_iff_exists.1 isOpen
    change b.flagOf k = _ at found
    refine ⟨h1, h64, rfl, ?_⟩
    show _ = some ((b.flagOf k).getD none)
    rw [found, Option.getD_some]
  · rintro ⟨h1, h64, rfl, found⟩
    refine ⟨d, ⟨⟨h1, h64⟩, by rw [found]; rfl⟩, rfl, rfl, ?_⟩
    show (b.flagOf d).getD none = flag
    rw [found, Option.getD_some]

theorem layBursts_length (w : Nat) (l : List (Nat × List (Nat × Nat) × Option BurstFlag)) :
    (layBursts w l).1.length = l.length := by
  induction l generalizing w with
  | nil => rfl
  | cons o l ih => exact congrArg (· + 1) (ih _)

theorem layRanging_length (t : Settings) (rtd : Nat → Nat) (w : Nat) (l : List Nat) :
    (layRanging t rtd w l).length = l.length := by
  induction l generalizing w with
  | nil => rfl
  | cons d l ih => exact congrArg (· + 1) (ih _)

theorem layBursts_getElem (w : Nat) (l : List (Nat × List (Nat × Nat) × Option BurstFlag)) {i d : Nat}
    {allocs : List (Nat × Nat)} {flag : Option BurstFlag} (h : l[i]? = some (d, allocs, flag)) :
    (layBursts w l).1[i]? = some (.burst d (w + ((l.take i).map burstCost).sum) (burstLength allocs) allocs flag) := by
  induction l generalizing w i with
  | nil => cases h
  | cons o l ih =>
    cases i with
    | zero => cases h; rfl
    | succ i =>
      have cost : w + burstLength o.2.1 + Config.guardWords = w + burstCost o := by
        simp only [burstLength, burstCost, Config.guardWords]
        omega
      have rest := ih (w + burstLength o.2.1 + Config.guardWords) h
      rw [cost] at rest
      rw [List.take_succ_cons, List.map_cons, List.sum_cons, ← Nat.add_assoc, ← rest, ← cost]
      rfl

theorem layRanging_getElem (t : Settings) (rtd : Nat → Nat) (w : Nat) (l : List Nat) {i d : Nat} (h : l[i]? = some d) :
    (layRanging t rtd w l)[i]? = some (.ranging d (w + 64 * i) (t.rangingDelay (w + 64 * i) (rtd d))) := by
  induction l generalizing w i with
  | nil => cases h
  | cons e l ih =>
    cases i with
    | zero => cases h; rfl
    | succ i =>
      have rest := ih (w + 64) h
      rw [show w + 64 * (i + 1) = w + 64 + 64 * i by omega, ← rest]
      rfl

theorem layTail_length (t : Settings) (discovery : Bool) :
    (layTail t discovery).length = (if discovery then 1 else 0) + (if t.dk = 0 then 0 else 1) := by
  unfold layTail
  split <;> split <;> rfl

/-- The layout, entry by entry (R37 to R40, R99). -/
theorem layPlan_spec (t : Settings) (rtd : Nat → Nat) (bursts : List (Nat × List (Nat × Nat) × Option BurstFlag))
    (ranging : List Nat) (discovery : Bool) {u : Nat} (hu : u = (bursts.map burstCost).sum) :
    (layPlan t rtd bursts ranging discovery).length =
      bursts.length + ranging.length + (if discovery then 1 else 0) + (if t.dk = 0 then 0 else 1) ∧
    (∀ i d allocs flag, bursts[i]? = some (d, allocs, flag) → (layPlan t rtd bursts ranging discovery)[i]? =
      some (Entry.burst d ((bursts.take i).map burstCost).sum (burstLength allocs) allocs flag)) ∧
    (∀ i d, ranging[i]? = some d → (layPlan t rtd bursts ranging discovery)[bursts.length + i]? =
      some (Entry.ranging d (u + 64 * i) (t.rangingDelay (u + 64 * i) (rtd d)))) ∧
    (discovery = true → (layPlan t rtd bursts ranging discovery)[bursts.length + ranging.length]? =
      some (Entry.discovery t.w0 t.dw t.s)) ∧
    (t.dk ≠ 0 → (layPlan t rtd bursts ranging discovery).getLast? = some (Entry.dark (25000 - t.dk) t.dk)) := by
  have front : ((layBursts 0 bursts).1 ++ layRanging t rtd u ranging).length = bursts.length + ranging.length := by
    rw [List.length_append, layBursts_length, layRanging_length]
  have plan : layPlan t rtd bursts ranging discovery =
      (layBursts 0 bursts).1 ++ layRanging t rtd u ranging ++ layTail t discovery := by
    rw [layPlan, layBursts_end, Nat.zero_add, ← hu]
  rw [plan]
  refine ⟨?_, fun i d allocs flag h => ?_, fun i d h => ?_, fun some => ?_, fun some => ?_⟩
  · rw [List.length_append, front, layTail_length]
    omega
  · have at_i := layBursts_getElem 0 bursts h
    rw [Nat.zero_add] at at_i
    rw [List.append_assoc, List.getElem?_append_left, at_i]
    exact (List.getElem?_eq_some_iff.1 at_i).1
  · have at_i := layRanging_getElem t rtd u ranging h
    have within := (List.getElem?_eq_some_iff.1 at_i).1
    rw [layRanging_length] at within
    rw [List.getElem?_append_left (by rw [front]; omega),
      List.getElem?_append_right (by rw [layBursts_length]; omega), layBursts_length, Nat.add_sub_cancel_left, at_i]
  · subst some
    rw [List.getElem?_append_right (by rw [front]), front, Nat.sub_self]
    rfl
  · have tail : layTail t discovery = (if discovery then [Entry.discovery t.w0 t.dw t.s] else []) ++
        [Entry.dark (25000 - t.dk) t.dk] := by
      rw [layTail, if_neg some]
      rfl
    rw [tail, ← List.append_assoc, List.getLast?_concat]

/-- What the records of a build are, entry by entry (R35, R39, R112). -/
theorem plan_records {x : Feeder} {n : CycleNo} {force : Nat → Nat → Option Profile} {capacity : Nat} {b : Build}
    {plan : List Entry} (hb : b = buildGrants capacity n force (x.decideDiscovery n))
    (owners : plan.filterMap Entry.owner = b.bursts.map Prod.fst ++ x.rangingList n) (d : Nat) :
    (∀ e ∈ plan, e.owner = some d →
      (plan.foldl (reportEntry n) b.feeder).drop d = (reportEntry n b.feeder e).drop d) ∧
    ((∀ e ∈ plan, e.owner ≠ some d) → (plan.foldl (reportEntry n) b.feeder).drop d = x.drop d) ∧
    b.feeder.drop d = x.drop d := by
  have frame := x.decideDiscovery_frame n
  have same : b.feeder.drop d = x.drop d := by
    obtain ⟨lanes, pointer, grants⟩ := buildGrants_frame capacity n force (x.decideDiscovery n)
    rw [hb, grants, frame]
    rfl
  have apart : (plan.filterMap Entry.owner).Nodup := by
    rw [owners, hb, show x.rangingList n = (x.decideDiscovery n).rangingList n by rw [frame]; rfl]
    exact plan_owners_nodup ..
  exact ⟨fun e he owner => foldl_reportEntry_drop apart he owner _,
    fun other => (foldl_reportEntry_drop_ne other _).trans same, same⟩

/-- Settles O28. -/
theorem buildHandsOnThePlan : Obligations.BuildHandsOnThePlan := by
  unfold Obligations.BuildHandsOnThePlan
  refine ⟨?_, fun f n s stopped => ?_, fun b => ⟨?_, fun d allocs flag => mem_bursts⟩, fun t => ⟨rfl, rfl, rfl⟩, ?_⟩
  · rintro f n s c x b plan rfl running sending hb hplan
    obtain ⟨lanes, pointer, grants⟩ := buildGrants_frame (capacityOf (s.feeder f).settings
      ((s.feeder f).plansDiscovery n) ((s.feeder f).rangingList n).length) n (s.inForce f) ((s.feeder f).decideDiscovery n)
    rw [← hb] at grants
    obtain ⟨drops, handed, records⟩ := Build.handedOn_spec (plan := plan) sending ⟨lanes, pointer, grants⟩
    have overbooked : (b.handedOn n plan).overbooked = (s.feeder f).overbooked := by
      rw [handed, (s.feeder f).decideDiscovery_frame n]
    obtain ⟨t, run, here, others, frame, agent⟩ := runWork_build running (Feeder.build_eq hb hplan) overbooked
    have owners := hplan ▸ layPlan_owners (s.feeder f).settings (fun d => ((s.feeder f).drop d).rtd) b.bursts
      ((s.feeder f).rangingList n) ((s.feeder f).plansDiscovery n)
    have record : ∀ d, t.drop f d = (plan.foldl (reportEntry n) b.feeder).drop d := fun d => by
      rw [State.drop, here]
      exact records d
    have ring : (t.feeder f).ring = ((s.feeder f).setSlot n (some ⟨.waiting, n,
        plan.map fun e => ⟨e, .nothing, .unresolved⟩, LightRecord.dark⟩)).ring := by
      rw [here, handed]
      rfl
    refine ⟨t, run, ?_, ?_, fun m hm => ?_, ?_, fun d l => ?_, fun d h1 h64 => ⟨fun w len allocs flag he => ?_,
      fun w delay he => ?_, fun none => ?_⟩, ?_, others, frame, agent⟩
    · rw [here, handed]
    · rw [Feeder.slotOf_congr ring]
      exact Feeder.slotOf_setSlot_self _ rfl
    · rw [Feeder.slotOf_congr ring]
      exact Feeder.slotOf_setSlot_ne _ hm _
    · rw [here, handed]
    · rw [here, handed]
      rfl
    · obtain ⟨one, -, same⟩ := plan_records hb owners d
      rw [record, one _ he rfl, reportEntry, Feeder.drop_setDrop_self, same]
    · obtain ⟨one, -, same⟩ := plan_records hb owners d
      rw [record, one _ he rfl, reportEntry, Feeder.drop_setDrop_self, same]
    · obtain ⟨-, other, -⟩ := plan_records hb owners d
      rw [record]
      exact other fun e he owner => (Entry.windowId_of_owner owner).elim (none e he).1 (none e he).2
    · rw [here, handed]
  · show buildPlan f n s = s
    rw [buildPlan, if_neg (by simp [stopped])]
  · have bursts : b.bursts.map Prod.fst = dropIndices.filter b.isOpen := by
      simp [Build.bursts, List.map_map, Function.comp_def]
    rw [bursts]
    exact dropIndices_rising.filter _
  · rintro t rtd bursts ranging discovery plan cost u rfl hcost rfl
    have cost_eq : cost = burstCost := funext hcost
    rw [cost_eq]
    obtain ⟨length, burst, range, disc, dark⟩ := layPlan_spec t rtd bursts ranging discovery rfl
    refine ⟨length, burst, ?_, disc, dark⟩
    rintro i d r at_i rfl
    exact range i d at_i

end Sys2Proof.Machine
end


section
/-! PROOFS. PART_RESET, FEEDER_START and FEEDER_STOP (R2, R92, R93, R140, R155, R170, R181 to R183). -/

namespace Sys2Proof.Machine

/-! ## PART_RESET (R182) -/

theorem quarterBoundary_meter (s : State) : (quarterBoundary s).meter = { s.meter with
    boundaryDue := (quarterBoundary s).meter.boundaryDue, clock := (quarterBoundary s).meter.clock
    plans := (quarterBoundary s).meter.plans, pass := (quarterBoundary s).meter.pass } := by
  unfold quarterBoundary
  split <;> rfl

/-- The accounts after PART_RESET: none has a bound drop, and a loaded slot that a pass under way had not visited owes one
period more (R155, R170). -/
theorem Meter.partReset_account (m : Meter) (n : Nat) : m.partReset.accounts.get Account.reset n =
    { m.accounts.get Account.reset n with
      bound := none
      periods := if (m.accounts.get Account.reset n).loaded = true ∧ (∃ p, m.pass = some p ∧ p.cursor ≤ n)
        then min ((m.accounts.get Account.reset n).periods + 1) 255 else (m.accounts.get Account.reset n).periods } := by
  have unbind : m.partReset.accounts.get Account.reset n =
      { m.abandonPass.accounts.get Account.reset n with bound := none } :=
    Tbl.get_update Account.reset (fun _ a => { a with bound := none }) (fun _ => rfl) m.abandonPass.accounts n
  rw [unbind]
  cases pass : m.pass with
  | none => simp [Meter.abandonPass, pass]
  | some p =>
    have owed : m.abandonPass.accounts.get Account.reset n =
        if (m.accounts.get Account.reset n).loaded ∧ p.cursor ≤ n then
          { m.accounts.get Account.reset n with periods := min ((m.accounts.get Account.reset n).periods + 1) 255 }
        else m.accounts.get Account.reset n := by
      simp only [Meter.abandonPass, pass]
      exact Tbl.get_update Account.reset (fun slot a =>
        if a.loaded ∧ p.cursor ≤ slot then { a with periods := min (a.periods + 1) 255 } else a)
        (fun _ => if_neg fun h => by cases h.1) m.accounts n
    have holds : (∃ q, some p = some q ∧ q.cursor ≤ n) ↔ p.cursor ≤ n := by simp
    rw [owed]
    simp only [holds]
    split <;> rfl

/-- The response to PART_RESET and the records that the reset lets go do not touch. -/
theorem exportRecords_respond (tag : BitVec 16) (kind : Nat) (v : Verdict) (s : State) :
    exportRecords (respond tag kind v s) = respond tag kind v (exportRecords s) := by
  have number : ∀ r, exportNumber (offerResponse r s) = exportNumber s := fun r => by
    unfold offerResponse exportNumber
    split <;> rfl
  have first : ∀ k r, exportFirst k (offerResponse r s) = offerResponse r (exportFirst k s) := fun k r => by
    unfold offerResponse
    by_cases free : s.agent.hold.isEmpty ∧ s.uplink.responses.length < Config.classPlaces
    · rw [if_pos free]
      exact (if_pos (c := (exportFirst k s).agent.hold.isEmpty ∧
        (exportFirst k s).uplink.responses.length < Config.classPlaces) free).symm
    · rw [if_neg free]
      exact (if_neg (c := (exportFirst k s).agent.hold.isEmpty ∧
        (exportFirst k s).uplink.responses.length < Config.classPlaces) free).symm
  rw [respond_eq, respond_eq, exportRecords, number, exportRecords, first]
  cases v <;> rfl

/-- The state after PART_RESET and the records that it lets go (R173, R182). -/
theorem exportRecords_partReset (s : State) : exportRecords (partReset s) =
    exportFirst (if s.meter.held = true then 0
      else min (4 - s.meter.exportCount) (min s.meter.queue.length 8)) (partReset s) := by
  have meter : (partReset s).meter = (quarterBoundary s).meter.partReset := rfl
  rw [exportRecords, exportNumber, meter, Meter.partReset_frame, quarterBoundary_meter]
  rfl

theorem partReset_frame (s : State) : partReset s = { s with
    feeders := (partReset s).feeders, meter := (partReset s).meter, agent := (partReset s).agent
    uplink := (partReset s).uplink } := by
  rw [partReset, quarterBoundary_frame]

/-- Settles O24. -/
theorem partResetKeepsTheBooks : Obligations.PartResetKeepsTheBooks := by
  unfold Obligations.PartResetKeepsTheBooks
  intro h k s ha hk
  obtain ⟨hp, turn, bound, controller, room⟩ := ha
  have taken : exec (.partReset h) s =
      .next (requestDone (respond h.tag 21 (.done .empty) (exportRecords (partReset s)))) := by
    rw [show exec (.partReset h) s = live s (inTurn (.partReset h) (whenBound h fun s =>
      exportRecords (respond h.tag 21 (.done .empty) (partReset s)))) from rfl, live_next hp, inTurn_eq, turn, if_pos rfl,
      whenBound_takes bound controller room, exportRecords_respond]
  obtain ⟨answered, only⟩ := respond_answered h 21 (.done .empty) (exportRecords (partReset s))
  have boundary := quarterBoundary_frame s
  have meter := quarterBoundary_meter s
  have exported := exportRecords_partReset s
  rw [← hk] at exported
  have queue : (quarterBoundary s).meter.queue = s.meter.queue := by rw [meter]
  have count : (quarterBoundary s).meter.exportCount = s.meter.exportCount := by rw [meter]
  have sent : (quarterBoundary s).meter.exported = s.meter.exported := by rw [meter]
  refine ⟨quarterBoundary s, exportRecords (partReset s), live_next hp _, ⟨_, taken, answered, only⟩,
    fun none t ht => ?_, fun f => ?_, ?_, ?_, ?_, fun n => ?_, ?_⟩
  · rw [taken] at ht
    cases ht
    have none' : NoneOwed (respond h.tag 21 (.done .empty) (exportRecords (partReset s))) := by
      intro i hi
      rw [respond_agent] at hi
      have inbox : (exportRecords (partReset s)).agent.inbox = s.agent.inbox := by
        show (quarterBoundary s).agent.inbox = _
        rw [boundary]
      exact none i (inbox ▸ hi)
    constructor
    · rw [requestDone_agent none', respond_agent]
      rfl
    · change waitingResponses _ = _
      rw [requestDone_waiting_of_none none', respond_waiting]
      rfl
  · show (partReset s).feeder f = _
    rw [partReset, State.feeder]
    dsimp only
    rw [PerFeeder.get_map, boundary]
    rfl
  · show (quarterBoundary s).agent.partReset = _
    rw [boundary]
    rfl
  · rw [exported]
    show { (quarterBoundary s).uplink.partReset with statements := [] ++ (partReset s).meter.queue.take k } = _
    have left : (partReset s).meter.queue = s.meter.queue := by
      show (quarterBoundary s).meter.partReset.queue = _
      rw [Meter.partReset_frame, queue]
    rw [left, boundary]
    rfl
  · rw [exported]
    show { (quarterBoundary s).meter.partReset with
      queue := (quarterBoundary s).meter.partReset.queue.drop k
      exportCount := (quarterBoundary s).meter.partReset.exportCount + k
      exported := (quarterBoundary s).meter.partReset.exported + BitVec.ofNat 32 k } = _
    rw [Meter.partReset_frame]
    dsimp only
    rw [queue, count, sent]
    rfl
  · show (quarterBoundary s).meter.partReset.accounts.get Account.reset n = _
    rw [Meter.partReset_account, meter]
    rfl
  · have reset := partReset_frame s
    have sends : exportRecords (partReset s) = { partReset s with
        meter := (exportRecords (partReset s)).meter, uplink := (exportRecords (partReset s)).uplink } :=
      exportFirst_frame _ _
    generalize exportRecords (partReset s) = x at sends ⊢
    generalize partReset s = y at sends reset
    rw [sends, reset]

/-! ## Notices asked for in BOUND (R183) -/

/-- The agent once it is asked for notices in BOUND: as many as have room join the queue, and the others are lost, counted
and shown by NOTICE_LOST. -/
def Agent.notified (a : Agent) (l : List QueuedNotice) : Agent :=
  { a with
    notices := a.notices ++ l.take (64 - a.notices.length)
    noticeLost := a.noticeLost || decide (64 - a.notices.length < l.length)
    count := { a.count with
      noticesLost := a.count.noticesLost + BitVec.ofNat 32 (l.length - (64 - a.notices.length)) } }

theorem Agent.notified_nil (a : Agent) : a.notified [] = a := by simp [Agent.notified]

theorem Agent.notified_append (a : Agent) (l m : List QueuedNotice) :
    (a.notified l).notified m = a.notified (l ++ m) := by
  have room : 64 - (a.notices ++ l.take (64 - a.notices.length)).length = 64 - a.notices.length - l.length := by
    rw [List.length_append, List.length_take]
    omega
  have lost : (decide (64 - a.notices.length < l.length) ||
      decide (64 - a.notices.length - l.length < m.length)) =
      decide (64 - a.notices.length < l.length + m.length) := by
    rw [← Bool.decide_or, decide_eq_decide]
    omega
  have count : l.length - (64 - a.notices.length) + (m.length - (64 - a.notices.length - l.length)) =
      l.length + m.length - (64 - a.notices.length) := by omega
  unfold Agent.notified
  dsimp only
  rw [room, List.append_assoc, ← List.take_append, Bool.or_assoc, lost, BitVec.add_assoc, ← BitVec.ofNat_add, count,
    ← List.length_append]

theorem notify_bound {s : State} (bound : s.agent.bind = .bound) (n : Notice) :
    notify n s = { s with agent := s.agent.notified [⟨s.cycle, n⟩] } := by
  unfold notify
  rw [if_neg (not_not.2 bound)]
  split
  next room =>
    obtain ⟨k, hk⟩ := Nat.exists_eq_add_of_lt (show s.agent.notices.length < 64 from room)
    have one : 64 - s.agent.notices.length = k + 1 := by omega
    simp [State.onAgent, Agent.notified, one]
  next full =>
    have none : 64 - s.agent.notices.length = 0 := by
      simp only [Config.noticePlaces] at full
      omega
    simp [State.onAgent, Agent.notified, none]

/-! ## The account bound to a drop (R90) -/

/-- In a table in its canonical form, the first entry with a property that the default lacks is that of the least key. -/
theorem Tbl.find_fst_iff {α : Type} [DecidableEq α] {dflt : α} {p : α → Bool} (default : p dflt = false) {t : Tbl α}
    (h : Tbl.wf dflt t = true) (a : Nat) : (t.find? fun e => p e.2).map Prod.fst = some a ↔
      p (t.get dflt a) = true ∧ ∀ b, b < a → p (t.get dflt b) = false := by
  induction t with
  | nil => simp [Tbl.get_nil, default]
  | cons e t ih =>
    have below := Tbl.wf_lt dflt h
    have early : ∀ b, b < e.1 → p (Tbl.get dflt (e :: t) b) = false := fun b lt => by
      rw [Tbl.get_of_not_listed]
      · exact default
      · intro x hx
        obtain rfl | hx := List.mem_cons.1 hx
        · omega
        · have := below x hx
          omega
    rw [List.find?_cons]
    cases here : p e.2 with
    | true =>
      have at_key : p (Tbl.get dflt (e :: t) e.1) = true := by rw [Tbl.get_cons, if_pos rfl, here]
      simp only [Option.map_some, Option.some.injEq]
      constructor
      · rintro rfl
        exact ⟨at_key, early⟩
      · rintro ⟨found, first⟩
        by_contra other
        rcases Nat.lt_or_gt_of_ne other with lt | lt
        · simp [first e.1 lt] at at_key
        · simp [early a lt] at found
    | false =>
      have rest : ∀ b, p (Tbl.get dflt (e :: t) b) = p (Tbl.get dflt t b) := fun b => by
        rw [Tbl.get_cons]
        split
        next same =>
          rw [here, Tbl.get_of_not_listed _ _ _ fun x hx => ?_, default]
          have := below x hx
          omega
        next => rfl
      simp only [ih (Tbl.wf_tail dflt h), rest]

theorem State.boundAccount_iff {s : State} (h : Tbl.wf Account.reset s.meter.accounts = true) (f : FeederId) (d a : Nat) :
    s.boundAccount f d = some a ↔
      (s.account a).bound = some (f, d) ∧ ∀ b, b < a → (s.account b).bound ≠ some (f, d) := by
  have found := Tbl.find_fst_iff (p := fun x : Account => decide (x.bound = some (f, d))) (dflt := Account.reset) rfl h a
  simp only [decide_eq_true_eq, decide_eq_false_iff_not] at found
  exact found

/-- An account that loses its bound drop is no other drop's. -/
theorem State.boundAccount_congr {s t : State} (hs : Tbl.wf Account.reset s.meter.accounts = true)
    (ht : Tbl.wf Account.reset t.meter.accounts = true) {f : FeederId} {d : Nat}
    (same : ∀ a, (t.account a).bound = some (f, d) ↔ (s.account a).bound = some (f, d)) :
    t.boundAccount f d = s.boundAccount f d := by
  refine Option.ext fun a => ?_
  rw [State.boundAccount_iff hs, State.boundAccount_iff ht]
  simp only [ne_eq, same]

/-! ## The records that a stop frees (R92) -/

/-- The notice of a record that a stop frees. -/
def stopNotice (f : FeederId) (s : State) (d : Nat) : QueuedNotice :=
  ⟨s.cycle, .dropRemoved f d (s.drop f d).tag (s.drop f d).account .feederStop⟩

/-- What stands in the reassembly slots of the shining drops of `l`. -/
def shiningFrames (f : FeederId) (s : State) (l : List Nat) : List Nat :=
  (l.filter fun d => (s.drop f d).state.shining).flatMap fun d =>
    laneNumbers.filter fun lane => ((s.feeder f).partialFrame d lane).isSome

/-- The records `l` of feeder `f` have been freed by a stop (R67, R75, R92). -/
structure Freed (f : FeederId) (s : State) (l : List Nat) (t : State) : Prop where
  frame : t = { s with
    feeders := t.feeders, meter := { s.meter with accounts := t.meter.accounts }, agent := t.agent }
  others : ∀ g, g ≠ f → t.feeder g = s.feeder g
  own : t.feeder f = { s.feeder f with
    drops := (t.feeder f).drops, marks := (t.feeder f).marks, lanes := (t.feeder f).lanes
    reassembly := (t.feeder f).reassembly, upCount := (t.feeder f).upCount }
  marks : (s.feeder f).marks = [] → (t.feeder f).marks = []
  drops : ∀ k, t.drop f k = if k ∈ l then DropRecord.empty else s.drop f k
  partials : ∀ k lane, 1 ≤ k → lane < 4 → (t.feeder f).partialFrame k lane =
    if k ∈ l ∧ (s.drop f k).state.shining = true then none else (s.feeder f).partialFrame k lane
  lost : (t.feeder f).upCount = { (s.feeder f).upCount with
    lostToState := (s.feeder f).upCount.lostToState + BitVec.ofNat 32 (shiningFrames f s l).length }
  accounts : ∀ a, t.account a = { s.account a with bound := (t.account a).bound }
  unbound : Tbl.wf Account.reset s.meter.accounts = true → Tbl.wf Account.reset t.meter.accounts = true ∧
    (∀ a, (t.account a).bound = if ∃ d ∈ l, s.boundAccount f d = some a then none else (s.account a).bound) ∧
    ∀ d, d ∉ l → t.boundAccount f d = s.boundAccount f d
  agent : t.agent = s.agent.notified (l.map (stopNotice f s))

theorem Freed.refl (f : FeederId) (s : State) : Freed f s [] s where
  frame := rfl
  others _ _ := rfl
  own := rfl
  marks h := h
  drops k := by simp
  partials k lane _ _ := by simp
  lost := by simp [shiningFrames]
  accounts a := rfl
  unbound h := ⟨h, fun a => by simp, fun d _ => rfl⟩
  agent := (Agent.notified_nil _).symm

theorem Freed.drop_of_ne {f : FeederId} {s t : State} {d e : Nat} (h : Freed f s [d] t) (other : e ≠ d) :
    t.drop f e = s.drop f e := by
  rw [h.drops, if_neg (by simpa using other)]

/-- One record freed, then others. -/
theorem Freed.cons {f : FeederId} {s t u : State} {d : Nat} {l : List Nat} (h : Freed f s [d] t) (k : Freed f t l u)
    (new : d ∉ l) (ones : ∀ e ∈ l, 1 ≤ e) : Freed f s (d :: l) u where
  frame := by
    rw [k.frame, h.frame]
  others g hg := (k.others g hg).trans (h.others g hg)
  own := by
    have first := h.own
    have rest := k.own
    rw [rest, first]
  marks empty := k.marks (h.marks empty)
  drops e := by
    rw [k.drops, h.drops]
    by_cases e ∈ l <;> by_cases e = d <;> simp_all
  partials e lane he hl := by
    rw [k.partials e lane he hl, h.partials e lane he hl, h.drops]
    by_cases e = d <;> by_cases e ∈ l <;> simp_all
  lost := by
    have frames : shiningFrames f t l = shiningFrames f s l := by
      have shining : (l.filter fun e => (t.drop f e).state.shining) = l.filter fun e => (s.drop f e).state.shining :=
        List.filter_congr fun e he => by rw [h.drop_of_ne (ne_of_mem_of_not_mem he new)]
      unfold shiningFrames
      rw [shining]
      refine List.flatMap_congr fun e he => List.filter_congr fun lane hlane => ?_
      have listed := (List.mem_filter.1 he).1
      rw [h.partials e lane (ones e listed) (mem_laneNumbers.1 hlane),
        if_neg fun c => ne_of_mem_of_not_mem listed new (List.mem_singleton.1 c.1)]
    have all : shiningFrames f s (d :: l) = shiningFrames f s [d] ++ shiningFrames f s l := by
      unfold shiningFrames
      rw [← List.flatMap_append, ← List.filter_append]
      rfl
    rw [k.lost, h.lost, frames, all, List.length_append, BitVec.ofNat_add, BitVec.add_assoc]
  accounts a := by
    rw [k.accounts, h.accounts]
  unbound canonical := by
    obtain ⟨wf_t, bound_t, others_t⟩ := h.unbound canonical
    obtain ⟨wf_u, bound_u, others_u⟩ := k.unbound wf_t
    refine ⟨wf_u, fun a => ?_, fun e he => ?_⟩
    · have same : ∀ e ∈ l, t.boundAccount f e = s.boundAccount f e := fun e he =>
        others_t e (by simpa using ne_of_mem_of_not_mem he new)
      have later : (∃ e ∈ l, t.boundAccount f e = some a) ↔ ∃ e ∈ l, s.boundAccount f e = some a :=
        exists_congr fun e => and_congr_right fun he => by rw [same e he]
      rw [bound_u, bound_t]
      simp only [later, List.mem_cons, List.not_mem_nil, or_false, exists_eq_left, exists_eq_or_imp]
      by_cases own : s.boundAccount f d = some a
      · simp only [own, true_or, if_true, ite_self]
      · simp only [own, false_or, if_false]
    · rw [List.mem_cons, not_or] at he
      rw [others_u e he.2, others_t e (by simp [he.1])]
  agent := by
    have cycle : t.cycle = s.cycle := by rw [h.frame]
    have same : ∀ e ∈ l, stopNotice f t e = stopNotice f s e := fun e he => by
      rw [stopNotice, stopNotice, cycle, h.drop_of_ne (ne_of_mem_of_not_mem he new)]
    rw [k.agent, h.agent, Agent.notified_append, List.map_congr_left same]
    rfl

theorem unbindAccount_spec (f : FeederId) (d : Nat) (s : State) :
    unbindAccount f d s = { s with meter := { s.meter with accounts := (unbindAccount f d s).meter.accounts } } ∧
    (∀ a, (unbindAccount f d s).account a = { s.account a with bound := ((unbindAccount f d s).account a).bound }) ∧
    (Tbl.wf Account.reset s.meter.accounts = true →
      Tbl.wf Account.reset (unbindAccount f d s).meter.accounts = true ∧
      (∀ a, ((unbindAccount f d s).account a).bound =
        if s.boundAccount f d = some a then none else (s.account a).bound) ∧
      ∀ e, e ≠ d → (unbindAccount f d s).boundAccount f e = s.boundAccount f e) := by
  unfold unbindAccount
  split
  next unbound => exact ⟨rfl, fun a => rfl, fun h => ⟨h, fun a => by simp [unbound], fun e _ => rfl⟩⟩
  next slot bound =>
    have each : ∀ a, ((s.onAccount slot fun a => { a with bound := none }).account a) =
        { s.account a with bound := if s.boundAccount f d = some a then none else (s.account a).bound } := fun a => by
      rw [State.account_onAccount, bound]
      by_cases here : a = slot
      · simp [here]
      · rw [if_neg here, if_neg (by simpa using Ne.symm here)]
    rw [bound] at each
    refine ⟨rfl, fun a => by rw [each], fun h => ?_⟩
    have wf : Tbl.wf Account.reset (s.onAccount slot fun a => { a with bound := none }).meter.accounts = true :=
      Tbl.wf_set _ h _ _
    refine ⟨wf, fun a => by rw [each, bound], fun e other => State.boundAccount_congr h wf fun a => ?_⟩
    have mine := ((State.boundAccount_iff h f d slot).1 bound).1
    rw [each]
    by_cases here : slot = a
    · subst here
      simp [mine, other.symm]
    · simp [here]

/-- The counters with `n` partial frames lost to a state change (R67). -/
def UpstreamCounters.lost (c : UpstreamCounters) (n : Nat) : UpstreamCounters :=
  { c with lostToState := c.lostToState + BitVec.ofNat 32 n }

theorem UpstreamCounters.lost_zero (c : UpstreamCounters) : c.lost 0 = c := by simp [UpstreamCounters.lost]

/-- A drop that stops shining, if it was. -/
theorem leftShining_eq (f : FeederId) {d : Nat} (hd : 1 ≤ d) (shining : Bool) (s : State) :
    ∃ slots, (if shining then leaveShining f d s else s) = s.setFeeder f { s.feeder f with
        reassembly := slots
        upCount := (s.feeder f).upCount.lost
          (if shining then (laneNumbers.filter fun l => ((s.feeder f).partialFrame d l).isSome).length else 0) } ∧
      ∀ k l, 1 ≤ k → l < 4 → slots.get none (laneKey k l) =
        if k = d ∧ shining = true then none else (s.feeder f).partialFrame k l := by
  cases shining with
  | false =>
    refine ⟨(s.feeder f).reassembly, ?_, fun k l _ _ => by simp [Feeder.partialFrame]⟩
    simp only [Bool.false_eq_true, if_false, UpstreamCounters.lost_zero]
    exact (State.setFeeder_feeder ..).symm
  | true =>
    obtain ⟨t, left, partials, frame⟩ := leaveShining_eq f hd s
    refine ⟨(t.feeder f).reassembly, left.trans frame, fun k l hk hl => ?_⟩
    simp only [and_true]
    exact partials k l hk hl

/-- A record freed while no isolation is under way (R75, R92). -/
theorem freed_freeRecord {f : FeederId} {d : Nat} {s : State} (quiet : (s.feeder f).isolation.kind = none)
    (bound : s.agent.bind = .bound) (hd : 1 ≤ d) : Freed f s [d] (freeRecord f d .feederStop s) := by
  obtain ⟨unbindFrame, unbindAccounts, unbindBound⟩ := unbindAccount_spec f d s
  obtain ⟨table, lanes⟩ := resetLanes_eq f d (unbindAccount f d s)
  obtain ⟨slots, left, partials⟩ := leftShining_eq f hd (s.drop f d).state.shining (resetLanes f d (unbindAccount f d s))
  have same : (resetLanes f d (unbindAccount f d s)).feeder f = { s.feeder f with lanes := table } := by
    rw [lanes, State.feeder_onFeeder_self, unbindAccount_feeder]
  have count : (if (s.drop f d).state.shining then
      (laneNumbers.filter fun l => (({ s.feeder f with lanes := table } : Feeder).partialFrame d l).isSome).length
      else 0) = (shiningFrames f s [d]).length := by
    cases shining : (s.drop f d).state.shining with
    | true =>
      simp only [shiningFrames, List.filter_cons, shining, if_true, List.filter_nil, List.flatMap_cons,
        List.flatMap_nil, List.append_nil]
      rfl
    | false =>
      simp only [shiningFrames, List.filter_cons, shining, Bool.false_eq_true, if_false, List.filter_nil]
      rfl
  rw [same, count] at left
  rw [same] at partials
  have freed : freeRecord f d .feederStop s = { (unbindAccount f d s).setFeeder f { s.feeder f with
      drops := (s.feeder f).drops.set DropRecord.empty d DropRecord.empty, marks := (s.feeder f).marks.set none d none
      lanes := table, reassembly := slots
      upCount := (s.feeder f).upCount.lost (shiningFrames f s [d]).length } with
      agent := s.agent.notified [stopNotice f s d] } := by
    have agent : (unbindAccount f d s).agent = s.agent := by rw [unbindFrame]
    have cycle : (unbindAccount f d s).cycle = s.cycle := by rw [unbindFrame]
    rw [freeRecord_of_no_isolation d .feederStop quiet, left, lanes, State.setFeeder_onFeeder, notify_bound]
    · simp only [State.onFeeder, State.setFeeder_setFeeder, State.setFeeder_agent, State.setFeeder_cycle, agent, cycle]
      rfl
    · rw [State.setFeeder_agent, State.onFeeder_agent, agent, bound]
  rw [freed]
  generalize hy : ({ s.feeder f with
      drops := (s.feeder f).drops.set DropRecord.empty d DropRecord.empty, marks := (s.feeder f).marks.set none d none
      lanes := table, reassembly := slots
      upCount := (s.feeder f).upCount.lost (shiningFrames f s [d]).length } : Feeder) = y
  have feeder : ∀ g, ({ (unbindAccount f d s).setFeeder f y with
      agent := s.agent.notified [stopNotice f s d] } : State).feeder g = if g = f then y else s.feeder g := fun g => by
    rw [← unbindAccount_feeder f g d s]
    exact State.feeder_setFeeder ..
  refine ⟨?_, fun g hg => ?_, ?_, fun empty => ?_, fun k => ?_, fun k lane hk hl => ?_, ?_, unbindAccounts, fun h => ?_, rfl⟩
  · rw [unbindFrame]
    rfl
  · rw [feeder, if_neg hg]
  · rw [feeder, if_pos rfl, ← hy]
  · rw [feeder, if_pos rfl, ← hy]
    dsimp only
    rw [empty]
    rfl
  · rw [State.drop, feeder, if_pos rfl, ← hy]
    refine (Tbl.get_set DropRecord.empty DropRecord.empty _ _ _).trans ?_
    simp only [List.mem_singleton]
    rfl
  · rw [feeder, if_pos rfl, ← hy]
    exact (partials k lane hk hl).trans (if_congr
      (by rw [List.mem_singleton]; exact and_congr_right fun e => by rw [e]) rfl rfl)
  · rw [feeder, if_pos rfl, ← hy]
    rfl
  · obtain ⟨wf, bounds, others⟩ := unbindBound h
    refine ⟨wf, fun a => (bounds a).trans ?_, fun e he => others e (by simpa using he)⟩
    simp only [List.mem_singleton, exists_eq_left]

/-- The records that are not EMPTY are freed, one after another. -/
theorem freed_stopRecords {f : FeederId} {l : List Nat} (once : l.Nodup) (ones : ∀ d ∈ l, 1 ≤ d) {s : State}
    (quiet : (s.feeder f).isolation.kind = none) (bound : s.agent.bind = .bound) :
    Freed f s (l.filter fun d => decide ((s.drop f d).state ≠ .empty)) (l.foldl (stopRecord f) s) := by
  induction l generalizing s with
  | nil => exact .refl f s
  | cons d l ih =>
    obtain ⟨new, once⟩ := List.nodup_cons.1 once
    have ones' := fun e he => ones e (List.mem_cons_of_mem d he)
    rw [List.foldl_cons]
    obtain ⟨empty, same⟩ | ⟨held, freed⟩ := stopRecord_cases f d s
    · rw [same, List.filter_cons_of_neg (by simp [empty])]
      exact ih once ones' quiet bound
    · have first := freed_freeRecord quiet bound (ones d (by simp))
      rw [freed, List.filter_cons_of_pos (by simp [held])]
      have quiet' : ((freeRecord f d .feederStop s).feeder f).isolation.kind = none := by rw [first.own, quiet]
      have bound' : (freeRecord f d .feederStop s).agent.bind = .bound := by
        rw [first.agent]
        exact bound
      have rest := ih once ones' quiet' bound'
      have same : (l.filter fun e => decide (((freeRecord f d .feederStop s).drop f e).state ≠ .empty)) =
          l.filter fun e => decide ((s.drop f e).state ≠ .empty) :=
        List.filter_congr fun e he => by rw [first.drop_of_ne (ne_of_mem_of_not_mem he new)]
      rw [same] at rest
      exact first.cons rest (fun h => new (List.mem_filter.1 h).1) fun e he => ones' e (List.mem_filter.1 he).1

/-! ## FEEDER_START and FEEDER_STOP (R2, R92, R181) -/

/-- The records that a stop finds held. -/
def heldRecords (f : FeederId) (s : State) : List Nat := dropIndices.filter fun d => decide ((s.drop f d).state ≠ .empty)

theorem freed_stopFeeder (f : FeederId) {s : State} (bound : s.agent.bind = .bound) :
    Freed f (s.onFeeder f Feeder.stopLine) (heldRecords f s)
      (dropIndices.foldl (stopRecord f) (s.onFeeder f Feeder.stopLine)) := by
  have drops : ∀ d, (s.onFeeder f Feeder.stopLine).drop f d = s.drop f d := fun d => by
    rw [State.drop, State.feeder_onFeeder_self]
    rfl
  have freed := freed_stopRecords (f := f) dropIndices_nodup (fun d hd => (mem_dropIndices.1 hd).1)
    (s := s.onFeeder f Feeder.stopLine) (by rw [State.feeder_onFeeder_self]; rfl) bound
  simp only [drops] at freed
  exact freed

theorem shiningFrames_stopLine (f : FeederId) (s : State) :
    shiningFrames f (s.onFeeder f Feeder.stopLine) (heldRecords f s) = shiningFrames f s dropIndices := by
  have line : (s.onFeeder f Feeder.stopLine).feeder f = (s.feeder f).stopLine := State.feeder_onFeeder_self ..
  have shining : (heldRecords f s).filter (fun d => (s.drop f d).state.shining) =
      dropIndices.filter fun d => (s.drop f d).state.shining := by
    rw [heldRecords, List.filter_filter]
    refine List.filter_congr fun d _ => ?_
    cases (s.drop f d).state <;> rfl
  unfold shiningFrames
  rw [← shining]
  simp only [State.drop, line]
  rfl

/-- Settles O14. -/
theorem feederStartAndStopMoveTheRun : Obligations.FeederStartAndStopMoveTheRun := by
  unfold Obligations.FeederStartAndStopMoveTheRun
  refine ⟨fun h n s ha => ⟨fun bad => refuses_of ha rfl (by rw [startDecided, FeederId.ofNat?_of_lt bad]), ?_⟩,
    fun h n s ha => ⟨fun bad => refuses_of ha rfl (by rw [stopDecided, FeederId.ofNat?_of_lt bad]), ?_⟩⟩
  · rintro f rfl
    refine ⟨fun running => refuses_of ha rfl ?_, fun stopped => done_of ha rfl ?_⟩
    · rw [startDecided, FeederId.ofNat?_toNat]
      exact if_pos running
    · rw [startDecided, FeederId.ofNat?_toNat]
      exact if_neg (by simp [stopped])
  · rintro f rfl
    refine ⟨fun stopped => refuses_of ha rfl ?_, fun running => ?_⟩
    · rw [stopDecided, FeederId.ofNat?_toNat]
      exact if_pos (by simp [stopped])
    have freed := freed_stopFeeder f ha.2.2.1
    have line : (s.onFeeder f Feeder.stopLine).feeder f = (s.feeder f).stopLine := State.feeder_onFeeder_self ..
    have drops : ∀ d, (s.onFeeder f Feeder.stopLine).drop f d = s.drop f d := fun d => by
      rw [State.drop, line]
      rfl
    have done : Done (.feederStop h f.toNat) h 5 (.feederState false none) s (stopFeeder f s) := done_of ha rfl (by
      rw [stopDecided, FeederId.ofNat?_toNat]
      exact if_neg (by simp [running]))
    refine ⟨stopFeeder f s, done, ?_⟩
    unfold stopFeeder
    generalize dropIndices.foldl (stopRecord f) (s.onFeeder f Feeder.stopLine) = t at freed ⊢
    have own : (t.onFeeder f Feeder.stopTables).feeder f = (t.feeder f).stopTables := State.feeder_onFeeder_self ..
    have record : ∀ d, ((t.feeder f).stopTables.drop d) = t.drop f d := fun d => rfl
    have notices : ∀ d ∈ heldRecords f s, stopNotice f (s.onFeeder f Feeder.stopLine) d = stopNotice f s d :=
      fun d _ => by rw [stopNotice, drops]; rfl
    have held_iff : ∀ {d}, 1 ≤ d → d ≤ 64 → (d ∈ heldRecords f s ↔ (s.drop f d).state ≠ .empty) := fun h1 h64 => by
      simp [heldRecords, mem_dropIndices, h1, h64]
    rw [own]
    refine ⟨?_, fun g hg => ?_, fun d h1 h64 => ?_, fun d lane shining h1 h64 hl => ?_,
      fun d lane dark h1 h64 hl => ?_, ?_, ?_, fun a => ?_, fun wf d a h1 h64 held bound => ?_,
      fun removed room hroom hremoved => ?_⟩
    · have agent : t.agent = { s.agent with
          notices := t.agent.notices, noticeLost := t.agent.noticeLost, count := t.agent.count } := by
        rw [freed.agent]
        rfl
      have frame := freed.frame
      have stopped : t.onFeeder f Feeder.stopTables =
          { t with feeders := (t.onFeeder f Feeder.stopTables).feeders } := rfl
      generalize t.onFeeder f Feeder.stopTables = x at stopped ⊢
      rw [stopped, frame]
      dsimp only
      rw [agent]
      rfl
    · rw [State.feeder_onFeeder_ne (h := hg), freed.others g hg, State.feeder_onFeeder_ne (h := hg)]
    · rw [record, freed.drops, drops]
      by_cases empty : (s.drop f d).state = .empty
      · rw [if_neg fun listed => (held_iff h1 h64).1 listed empty]
        exact ⟨empty, fun some => absurd empty some⟩
      · rw [if_pos ((held_iff h1 h64).2 empty)]
        exact ⟨rfl, fun _ => rfl⟩
    · have some : (s.drop f d).state ≠ .empty := fun empty => by simp [empty, DropState.shining] at shining
      refine (freed.partials d lane h1 hl).trans (if_pos ⟨(held_iff h1 h64).2 some, ?_⟩)
      rw [drops, shining]
    · refine (freed.partials d lane h1 hl).trans ((if_neg fun c => ?_).trans ?_)
      · rw [drops, dark] at c
        exact absurd c.2 (by simp)
      · rw [line]
        rfl
    · refine freed.lost.trans ?_
      rw [line, shiningFrames_stopLine]
      rfl
    · have marks : (t.feeder f).marks = [] := freed.marks (by rw [line]; rfl)
      have kept := freed.own
      rw [line] at kept
      generalize t.feeder f = x at kept marks ⊢
      rw [kept, marks]
      rfl
    · exact freed.accounts a
    · obtain ⟨-, bounds, -⟩ := freed.unbound wf
      exact (bounds a).trans (if_pos ⟨d, (held_iff h1 h64).2 held, bound⟩)
    · refine freed.agent.trans ?_
      rw [hroom, hremoved, List.map_congr_left notices]
      rfl

end Sys2Proof.Machine
end


section
/-! PROOFS. What creating an order does (R76) and what it leaves of a feeder; DARKEN, RELIGHT and RELEASE (R116, R117,
R119). -/

namespace Sys2Proof.Machine

/-! ## An order created (R76) -/

/-- `r'` is `r` with an order of kind `kind` created: pending, or following one that is (R76). -/
def DropRecord.Ordered (kind : OrderKind) (r r' : DropRecord) : Prop :=
  r' = { r with
    pending := r'.pending
    following := if r.pending = none then r.following else some kind } ∧
  r'.pending.map PendingOrder.kind = some ((r.pending.map PendingOrder.kind).getD kind)

theorem DropRecord.SameButStatus.pending_eq_none {r r' : DropRecord} (h : r.SameButStatus r') :
    r'.pending = none ↔ r.pending = none := by
  rw [← Option.map_eq_none_iff (f := PendingOrder.kind), h.2, Option.map_eq_none_iff]

theorem DropRecord.Ordered.of_same {kind : OrderKind} {r r' r'' : DropRecord} (h : r.SameButStatus r')
    (h' : r'.Ordered kind r'') : r.Ordered kind r'' := by
  obtain ⟨rest', kind'⟩ := h'
  refine ⟨?_, by rw [kind', h.2]⟩
  rw [rest', if_congr h.pending_eq_none rfl rfl, h.1]

theorem DropRecord.Ordered.then_same {kind : OrderKind} {r r' r'' : DropRecord} (h : r.Ordered kind r')
    (h' : r'.SameButStatus r'') : r.Ordered kind r'' := by
  obtain ⟨rest, kind⟩ := h
  exact ⟨by rw [h'.1, rest], h'.2.trans kind⟩

theorem State.drop_setFeeder_self (s : State) (f : FeederId) (x : Feeder) (d : Nat) :
    (s.setFeeder f x).drop f d = x.drop d := by rw [State.drop, State.feeder_setFeeder_self]

section
variable {f : FeederId} {d : Nat} (kind : OrderKind) (s : State)

theorem createOrder_of_free {s : State} (h : (s.drop f d).pending = none) : createOrder f d kind s =
    s.setFeeder f ((s.feeder f).setDrop d { s.drop f d with pending := some ⟨kind, .held⟩ }).fillOrders := by
  rw [createOrder, if_pos (by simp [h])]
  simp [fillOrders, State.onDrop, State.onFeeder, State.drop]

theorem createOrder_of_pending {s : State} (h : (s.drop f d).pending ≠ none) : createOrder f d kind s =
    s.setFeeder f ((s.feeder f).setDrop d { s.drop f d with following := some kind }) := by
  rw [createOrder, if_neg (by simpa using h)]
  rfl

theorem createOrder_drop_self : (s.drop f d).Ordered kind ((createOrder f d kind s).drop f d) := by
  by_cases free : (s.drop f d).pending = none
  · rw [createOrder_of_free kind free, State.drop_setFeeder_self]
    have filled := ((s.feeder f).setDrop d { s.drop f d with pending := some ⟨kind, .held⟩ }).fillOrders_drop d
    rw [Feeder.drop_setDrop_self] at filled
    have created : (s.drop f d).Ordered kind { s.drop f d with pending := some ⟨kind, .held⟩ } :=
      ⟨by rw [if_pos free], by rw [free]; rfl⟩
    exact created.then_same filled
  · rw [createOrder_of_pending kind free, State.drop_setFeeder_self, Feeder.drop_setDrop_self]
    obtain ⟨o, ho⟩ := Option.ne_none_iff_exists'.1 free
    exact ⟨by rw [if_neg free], by simp [ho]⟩

end

/-! ## What orders, discarded frames and resume marks leave of a feeder -/

/-- From `s` to `t` only feeder `f` moves, and of it only what orders, discarded partial frames and resume marks touch. -/
def OnlyOrders (f : FeederId) (s t : State) : Prop :=
  t = s.setFeeder f { s.feeder f with
    drops := (t.feeder f).drops, replies := (t.feeder f).replies, orderQueue := (t.feeder f).orderQueue
    reassembly := (t.feeder f).reassembly, upCount := (t.feeder f).upCount, marks := (t.feeder f).marks }

section
variable {f : FeederId} {s t u : State}

theorem OnlyOrders.refl (s : State) : OnlyOrders f s s := (State.setFeeder_feeder ..).symm

/-- A change of those fields of the feeder. -/
theorem OnlyOrders.setFeeder {y : Feeder} (h : y = { s.feeder f with
    drops := y.drops, replies := y.replies, orderQueue := y.orderQueue
    reassembly := y.reassembly, upCount := y.upCount, marks := y.marks }) : OnlyOrders f s (s.setFeeder f y) := by
  rw [OnlyOrders, State.feeder_setFeeder_self]
  exact congrArg (s.setFeeder f) h

theorem OnlyOrders.feeder (h : OnlyOrders f s t) : t.feeder f = { s.feeder f with
    drops := (t.feeder f).drops, replies := (t.feeder f).replies, orderQueue := (t.feeder f).orderQueue
    reassembly := (t.feeder f).reassembly, upCount := (t.feeder f).upCount, marks := (t.feeder f).marks } :=
  (congrArg (fun t : State => t.feeder f) h).trans (State.feeder_setFeeder_self ..)

theorem OnlyOrders.trans (h : OnlyOrders f s t) (k : OnlyOrders f t u) : OnlyOrders f s u := by
  rw [OnlyOrders] at k
  rw [h.feeder, h, State.setFeeder_setFeeder] at k
  exact k

theorem OnlyOrders.onlyFeeder (h : OnlyOrders f s t) : t = s.setFeeder f (t.feeder f) := by
  rw [h.feeder]
  exact h

theorem OnlyOrders.isolation (h : OnlyOrders f s t) : (t.feeder f).isolation = (s.feeder f).isolation := by rw [h.feeder]

theorem OnlyOrders.rogue (h : OnlyOrders f s t) : (t.feeder f).rogue = (s.feeder f).rogue := by rw [h.feeder]

theorem OnlyOrders.lightCount (h : OnlyOrders f s t) : (t.feeder f).lightCount = (s.feeder f).lightCount := by
  rw [h.feeder]

theorem OnlyOrders.foldl {op : State → Nat → State} (hop : ∀ s d, OnlyOrders f s (op s d)) (l : List Nat) (s : State) :
    OnlyOrders f s (l.foldl op s) := by
  induction l generalizing s with
  | nil => exact .refl s
  | cons d l ih => exact (hop s d).trans (ih _)

variable (f s) (d : Nat)

theorem onlyOrders_onDrop (g : DropRecord → DropRecord) : OnlyOrders f s (s.onDrop f d g) := .setFeeder rfl

theorem onlyOrders_createOrder (kind : OrderKind) : OnlyOrders f s (createOrder f d kind s) := by
  unfold createOrder
  split
  · refine (onlyOrders_onDrop f s d _).trans (.setFeeder ?_)
    rw [Feeder.fillOrders_frame]
  · exact onlyOrders_onDrop f s d _

theorem onlyOrders_leaveShining : OnlyOrders f s (leaveShining f d s) := by
  obtain ⟨slots, counts, h⟩ := leaveShining_frame f d s
  rw [h]
  exact .setFeeder rfl

theorem onlyOrders_awaitResume : OnlyOrders f s (awaitResume f d s) := .setFeeder rfl

end

/-! ## DARKEN, RELIGHT and RELEASE (R116, R117, R119) -/

theorem exec_darken (h : MgmtHead) (n d : Nat) (s : State) :
    exec (.darken h n d) s = live s (takeRequest (.darken h n d) h 10 (darkenDecided n d)) := by
  have arm : exec (.darken h n d) s = execDarken h n d s := rfl
  rw [arm, execDarken]

theorem exec_relight (h : MgmtHead) (n d : Nat) (s : State) :
    exec (.relight h n d) s = live s (takeRequest (.relight h n d) h 11 (relightDecided n d)) := by
  have arm : exec (.relight h n d) s = execRelight h n d s := rfl
  rw [arm, execRelight]

theorem exec_release (h : MgmtHead) (n d : Nat) (s : State) :
    exec (.release h n d) s = live s (takeRequest (.release h n d) h 12 (releaseDecided n d)) := by
  have arm : exec (.release h n d) s = execRelease h n d s := rfl
  rw [arm, execRelease]

/-- The feeder once the record of a drop is `r` but for an order created in it, and the queue has been filled (R76, R77). -/
def Feeder.withOrder (x : Feeder) (d : Nat) (kind : OrderKind) (r : DropRecord) : Feeder :=
  (x.setDrop d { r with pending := some ⟨kind, .held⟩ }).fillOrders

theorem Feeder.withOrder_drop_self (x : Feeder) (d : Nat) (kind : OrderKind) (r : DropRecord) :
    ∃ st, (x.withOrder d kind r).drop d = { r with pending := some ⟨kind, st⟩ } := by
  have filled := (x.setDrop d { r with pending := some ⟨kind, .held⟩ }).fillOrders_drop d
  rw [Feeder.drop_setDrop_self] at filled
  exact filled.exists_status rfl

theorem createOrder_onDrop_of_free {f : FeederId} {d : Nat} {g : DropRecord → DropRecord} {s : State} (kind : OrderKind)
    (h : (g (s.drop f d)).pending = none) :
    createOrder f d kind (s.onDrop f d g) = s.setFeeder f ((s.feeder f).withOrder d kind (g (s.drop f d))) := by
  rw [createOrder_of_free kind (by rwa [State.drop_onDrop_self]), State.drop_onDrop_self]
  simp [State.onDrop, State.onFeeder, State.drop, Feeder.withOrder]

/-- The record of a drop that is darkened (R116, R118). -/
def DropRecord.darkenedBy (cause : DarkenCause) (r : DropRecord) : DropRecord :=
  { r with state := .darkened, resume := some r.state, cause := some cause }

section
variable (n d : Nat) {s : State}

theorem darkenDecided_badIndex (h : 3 < n ∨ d = 0 ∨ 64 < d) : darkenDecided n d s = refuseWith .badIndex s := by
  rw [darkenDecided, feederAndIndex_eq_none h]

theorem relightDecided_badIndex (h : 3 < n ∨ d = 0 ∨ 64 < d) : relightDecided n d s = refuseWith .badIndex s := by
  rw [relightDecided, feederAndIndex_eq_none h]

theorem releaseDecided_badIndex (h : 3 < n ∨ d = 0 ∨ 64 < d) : releaseDecided n d s = refuseWith .badIndex s := by
  rw [releaseDecided, feederAndIndex_eq_none h]

end

section
variable {f : FeederId} {d : Nat} {s : State} (h1 : 1 ≤ d) (h2 : d ≤ 64)
include h1 h2

theorem darkenDecided_eq : darkenDecided f.toNat d s =
    if (s.drop f d).state.shining = false then refuseWith .wrongState s
    else if (s.feeder f).rogue = .isolating ∨ (s.drop f d).pending ≠ none then refuseWith .busy s
    else
      let y := leaveShining f d (s.setFeeder f ((s.feeder f).withOrder d .darken ((s.drop f d).darkenedBy .host)))
      (y, .done (.drop (y.drop f d))) := by
  simp only [darkenDecided, feederAndIndex_eq_some f h1 h2]
  by_cases dim : (s.drop f d).state.shining = false
  · rw [if_pos (by rw [dim]; rfl), if_pos dim]
  · rw [if_neg (by simpa using dim), if_neg dim]
    by_cases isolating : (s.feeder f).rogue = .isolating
    · rw [if_pos isolating, if_pos (.inl isolating)]
    · by_cases free : (s.drop f d).pending = none
      · rw [if_neg isolating, if_neg (by simp [free]), if_neg (by simp [isolating, free]),
          createOrder_onDrop_of_free _ free, DropRecord.darkenedBy]
      · rw [if_neg isolating, if_pos (by simpa [Option.isSome_iff_ne_none] using free), if_pos (.inr free)]

theorem relightDecided_eq : relightDecided f.toNat d s =
    if (s.drop f d).state ≠ .darkened ∨ (s.drop f d).cause = some .isolation then refuseWith .wrongState s
    else if (s.feeder f).rogue = .isolating ∨ (s.drop f d).pending ≠ none then refuseWith .busy s
    else
      let y := s.setFeeder f (((s.feeder f).withOrder d .relight (s.drop f d).relit).setMark d (some .waiting))
      (y, .done (.drop (y.drop f d))) := by
  simp only [relightDecided, feederAndIndex_eq_some f h1 h2]
  refine if_congr Iff.rfl rfl ?_
  by_cases isolating : (s.feeder f).rogue = .isolating
  · rw [if_pos isolating, if_pos (.inl isolating)]
  · by_cases free : (s.drop f d).pending = none
    · rw [if_neg isolating, if_neg (by simp [free]), if_neg (by simp [isolating, free]),
        createOrder_onDrop_of_free (g := DropRecord.relit) _ free, awaitResume, State.setFeeder_onFeeder]
    · rw [if_neg isolating, if_pos (by simpa [Option.isSome_iff_ne_none] using free), if_pos (.inr free)]

theorem releaseDecided_eq : releaseDecided f.toNat d s =
    if (s.drop f d).state ≠ .quarantined then refuseWith .wrongState s
    else if (s.drop f d).pending ≠ none then refuseWith .busy s
    else
      let y := s.setFeeder f (((s.feeder f).withOrder d .enable { s.drop f d with
        state := .active, miss := 0, rouse := 0, idle := 0, strikes := 0 }).setMark d (some .waiting))
      (y, .done (.drop (y.drop f d))) := by
  simp only [releaseDecided, feederAndIndex_eq_some f h1 h2]
  refine if_congr Iff.rfl rfl ?_
  by_cases free : (s.drop f d).pending = none
  · rw [if_neg (by simp [free]), if_neg (not_not_intro free), createOrder_onDrop_of_free _ free, awaitResume,
      State.setFeeder_onFeeder]
  · rw [if_pos (by simpa [Option.isSome_iff_ne_none] using free), if_pos free]

end

theorem Feeder.drop_of_drops {x y : Feeder} (h : y.drops = x.drops) (d : Nat) : y.drop d = x.drop d := by
  rw [Feeder.drop, h, ← Feeder.drop]

theorem Feeder.setMark_drops (x : Feeder) (d : Nat) (m : Option ResumeMark) : (x.setMark d m).drops = x.drops := rfl

theorem Feeder.mark_setMark_self (x : Feeder) (d : Nat) (m : Option ResumeMark) : (x.setMark d m).mark d = m := by
  simp [Feeder.mark, Feeder.setMark]

/-- A request that ends in an order and a resume mark leaves the record with the order, in some status. -/
theorem drop_of_withOrder_setMark (s : State) (f : FeederId) (d : Nat) (kind : OrderKind) (r : DropRecord)
    (m : Option ResumeMark) : ∃ st,
    (s.setFeeder f (((s.feeder f).withOrder d kind r).setMark d m)).drop f d = { r with pending := some ⟨kind, st⟩ } := by
  rw [State.drop_setFeeder_self, Feeder.drop_of_drops (Feeder.setMark_drops ..)]
  exact (s.feeder f).withOrder_drop_self d kind r

/-- Settles O19: each request decides in its order, and the drop moves with an order created and filled. -/
theorem darkenRelightAndReleaseMoveADrop : Obligations.DarkenRelightAndReleaseMoveADrop := by
  unfold Obligations.DarkenRelightAndReleaseMoveADrop
  refine ⟨fun h n d s ha => ?darken, fun h n d s ha => ?relight, fun h n d s ha => ?release⟩
  case darken =>
    have he := exec_darken h n d s
    refine ⟨fun bad => refuses_of ha he (darkenDecided_badIndex n d bad), ?_⟩
    rintro f rfl h1 h2
    have decided := darkenDecided_eq (f := f) (s := s) h1 h2
    refine ⟨fun dim => refuses_of ha he (decided.trans (if_pos dim)), fun shining => ?_⟩
    rw [if_neg (by simp [shining])] at decided
    refine ⟨fun busy => refuses_of ha he (decided.trans (if_pos (.inl busy))),
      fun _ busy => refuses_of ha he (decided.trans (if_pos (.inr busy))), fun quiet free => ?_⟩
    rw [if_neg (by simp [quiet, free])] at decided
    generalize hz : (s.feeder f).withOrder d .darken ((s.drop f d).darkenedBy .host) = z at decided
    have record : ∃ st, z.drop d = { (s.drop f d).darkenedBy .host with pending := some ⟨.darken, st⟩ } :=
      hz ▸ (s.feeder f).withOrder_drop_self d .darken _
    have partials : ∀ k lane, z.partialFrame k lane = (s.feeder f).partialFrame k lane := fun k lane => by
      rw [← hz, Feeder.withOrder, Feeder.fillOrders_partialFrame]
      rfl
    have counts : z.upCount = (s.feeder f).upCount := by
      rw [← hz, Feeder.withOrder, Feeder.fillOrders_upCount]
      rfl
    obtain ⟨y, hy, slots, frame⟩ := leaveShining_eq f h1 (s.setFeeder f z)
    rw [hy] at decided
    simp only [State.feeder_setFeeder_self, State.setFeeder_setFeeder, partials] at slots frame
    have moved := (congrArg (fun t : State => t.feeder f) frame).trans (State.feeder_setFeeder_self ..)
    have counted := congrArg Feeder.upCount moved
    refine ⟨y, done_of ha he decided, ?_, ?_, fun k lane => slots k lane, by rw [counted, counts]⟩
    · rw [State.drop, Feeder.drop_of_drops (congrArg Feeder.drops moved)]
      exact record
    · have whole : y = s.setFeeder f { z with reassembly := (y.feeder f).reassembly, upCount := (y.feeder f).upCount } := by
        rw [counted]
        exact frame
      rw [← hz] at whole
      exact whole
  case relight =>
    have he := exec_relight h n d s
    refine ⟨fun bad => refuses_of ha he (relightDecided_badIndex n d bad), ?_⟩
    rintro f rfl h1 h2
    have decided := relightDecided_eq (f := f) (s := s) h1 h2
    refine ⟨fun wrong => refuses_of ha he (decided.trans (if_pos wrong)), fun st dark host back => ?_⟩
    rw [if_neg (by simp [dark, host])] at decided
    refine ⟨fun busy => refuses_of ha he (decided.trans (if_pos (.inl busy))),
      fun _ busy => refuses_of ha he (decided.trans (if_pos (.inr busy))), fun quiet free => ?_⟩
    rw [if_neg (by simp [quiet, free])] at decided
    have lit : (s.drop f d).relit = { s.drop f d with
        state := st, resume := none, cause := none, idle := if st = .active then 0 else (s.drop f d).idle } := by
      simp only [DropRecord.relit, back, Option.getD_some]
    rw [lit] at decided
    refine ⟨_, done_of ha he decided, drop_of_withOrder_setMark .., ?_, rfl⟩
    rw [State.feeder_setFeeder_self, Feeder.mark_setMark_self]
  case release =>
    have he := exec_release h n d s
    refine ⟨fun bad => refuses_of ha he (releaseDecided_badIndex n d bad), ?_⟩
    rintro f rfl h1 h2
    have decided := releaseDecided_eq (f := f) (s := s) h1 h2
    refine ⟨fun wrong => refuses_of ha he (decided.trans (if_pos wrong)), fun held busy => ?_, fun held free => ?_⟩
    · exact refuses_of ha he (decided.trans (by rw [if_neg (not_not_intro held), if_pos busy]))
    · rw [if_neg (not_not_intro held), if_neg (not_not_intro free)] at decided
      refine ⟨_, done_of ha he decided, drop_of_withOrder_setMark .., ?_, rfl⟩
      rw [State.feeder_setFeeder_self, Feeder.mark_setMark_self]

end Sys2Proof.Machine
end


section
/-! PROOFS. The course of an isolation: the drops it darkens, relights and quarantines (R118), its steps and its end
(R131 to R139), ISOLATE (R132), and the strikes that begin one (R124, R125, R127). -/

namespace Sys2Proof.Machine

/-! ## The requests of the Light Monitor, one drop after another (R118) -/

/-- A piece of work done for one drop of feeder `f` after another: a drop whose record meets `p` has it changed by `g` and
an order of kind `kind` created; any other drop, and the drops it is not about, keep their records. -/
structure OrdersEach (f : FeederId) (p : DropRecord → Bool) (g : DropRecord → DropRecord) (kind : OrderKind)
    (op : State → Nat → State) : Prop where
  idle : ∀ {s d}, p (s.drop f d) = false → op s d = s
  own : ∀ {s d}, p (s.drop f d) = true → (g (s.drop f d)).Ordered kind ((op s d).drop f d)
  others : ∀ {s d k}, d ≠ k → Spares f d s (op s k)
  status : ∀ {r r'}, r.SameButStatus r' → p r' = p r ∧ (g r).SameButStatus (g r')
  once : ∀ {r r'}, (g r).Ordered kind r' → p r' = false

namespace OrdersEach

variable {f : FeederId} {p : DropRecord → Bool} {g : DropRecord → DropRecord} {kind : OrderKind}
  {op : State → Nat → State} (each : OrdersEach f p g kind op) {d : Nat}
include each

theorem foldl_spared (l : List Nat) (s : State) (h : d ∉ l ∨ p (s.drop f d) = false) :
    (s.drop f d).SameButStatus ((l.foldl op s).drop f d) := by
  induction l generalizing s with
  | nil => exact .refl _
  | cons k l ih =>
    have first : (s.drop f d).SameButStatus ((op s k).drop f d) := by
      by_cases hk : d = k
      · subst hk
        rw [each.idle (h.resolve_left fun absent => absent List.mem_cons_self)]
        exact .refl _
      · exact (each.others hk).own.record
    refine first.trans (ih _ ?_)
    exact h.imp (fun absent tail => absent (List.mem_cons_of_mem k tail)) fun idle => (each.status first).1.trans idle

theorem foldl_ordered {l : List Nat} (s : State) (hd : d ∈ l) (h : p (s.drop f d) = true) :
    (g (s.drop f d)).Ordered kind ((l.foldl op s).drop f d) := by
  induction l generalizing s with
  | nil => cases hd
  | cons k l ih =>
    by_cases hk : d = k
    · subst hk
      have own := each.own h
      exact own.then_same (each.foldl_spared l _ (.inr (each.once own)))
    · have spared := (each.others (s := s) hk).own.record
      obtain ⟨same, kept⟩ := each.status spared
      exact .of_same kept (ih _ ((List.mem_cons.1 hd).resolve_left hk) (same.trans h))

end OrdersEach

theorem DropRecord.SameButStatus.state_eq {r r' : DropRecord} (h : r.SameButStatus r') : r'.state = r.state := by
  rw [h.1]

theorem DropRecord.SameButStatus.cause_eq {r r' : DropRecord} (h : r.SameButStatus r') : r'.cause = r.cause := by
  rw [h.1]

theorem DropRecord.SameButStatus.isolated_eq {r r' : DropRecord} (h : r.SameButStatus r') :
    r'.isolated = r.isolated := by
  rw [DropRecord.isolated, h.state_eq, h.cause_eq, DropRecord.isolated]

theorem DropRecord.Ordered.state_eq {kind : OrderKind} {r r' : DropRecord} (h : r.Ordered kind r') :
    r'.state = r.state := by rw [h.1]

theorem DropRecord.Ordered.cause_eq {kind : OrderKind} {r r' : DropRecord} (h : r.Ordered kind r') :
    r'.cause = r.cause := by rw [h.1]

theorem DropRecord.SameButStatus.darkenedBy {r r' : DropRecord} (h : r.SameButStatus r') (cause : DarkenCause) :
    (r.darkenedBy cause).SameButStatus (r'.darkenedBy cause) :=
  ⟨by rw [DropRecord.darkenedBy, h.1]; rfl, h.2⟩

theorem DropRecord.SameButStatus.relit {r r' : DropRecord} (h : r.SameButStatus r') : r.relit.SameButStatus r'.relit :=
  ⟨by rw [DropRecord.relit, h.1]; rfl, h.2⟩

section
variable {f : FeederId}

theorem spares_isolationRelight {d k : Nat} (s : State) (h : d ≠ k) : Spares f d s (isolationRelight f s k) := by
  unfold isolationRelight
  split
  · exact ((spares_onDrop _ s h).trans (spares_createOrder _ _ h)).trans (.onFeeder (.of_eq rfl rfl))
  · exact .refl s

theorem leaveShining_drop (d k : Nat) (s : State) : (leaveShining f d s).drop f k = s.drop f k := by
  obtain ⟨slots, counts, h⟩ := leaveShining_frame f d s
  rw [h, State.drop, State.feeder_onFeeder_self]
  rfl

theorem awaitResume_drop (d k : Nat) (s : State) : (awaitResume f d s).drop f k = s.drop f k := by
  rw [awaitResume, State.drop, State.feeder_onFeeder_self]
  rfl

theorem isolationDarken_each :
    OrdersEach f (fun r => r.state.shining) (·.darkenedBy .isolation) .darken (isolationDarken f) where
  idle {s d} dim := by simp [isolationDarken, dim]
  own {s d} shining := by
    have created := createOrder_drop_self (f := f) (d := d) .darken
      (leaveShining f d (s.onDrop f d fun r => r.darkenedBy .isolation))
    rw [leaveShining_drop, State.drop_onDrop_self] at created
    rw [isolationDarken, if_pos shining]
    exact created
  others := spares_isolationDarken _
  status same := ⟨congrArg DropState.shining same.state_eq, same.darkenedBy .isolation⟩
  once ordered := by rw [ordered.state_eq]; rfl

theorem isolationRelight_each : OrdersEach f DropRecord.isolated DropRecord.relit .relight (isolationRelight f) where
  idle {s d} dim := by simp [isolationRelight, dim]
  own {s d} isolated := by
    have created := createOrder_drop_self (f := f) (d := d) .relight (s.onDrop f d DropRecord.relit)
    rw [State.drop_onDrop_self] at created
    rw [isolationRelight, if_pos isolated, awaitResume_drop]
    exact created
  others := spares_isolationRelight _
  status same := ⟨same.isolated_eq, same.relit⟩
  once ordered := by rw [DropRecord.isolated, ordered.cause_eq]; simp [DropRecord.relit]

theorem onlyOrders_isolationDarken (s : State) (d : Nat) : OnlyOrders f s (isolationDarken f s d) := by
  unfold isolationDarken
  dsimp only
  split
  · exact ((onlyOrders_onDrop f s d _).trans (onlyOrders_leaveShining f _ d)).trans (onlyOrders_createOrder f _ d _)
  · exact .refl s

theorem onlyOrders_isolationRelight (s : State) (d : Nat) : OnlyOrders f s (isolationRelight f s d) := by
  unfold isolationRelight
  split
  · exact ((onlyOrders_onDrop f s d _).trans (onlyOrders_createOrder f _ d _)).trans (onlyOrders_awaitResume f _ d)
  · exact .refl s

theorem createOrder_marks (d : Nat) (kind : OrderKind) (s : State) :
    ((createOrder f d kind s).feeder f).marks = (s.feeder f).marks := by
  by_cases free : (s.drop f d).pending = none
  · rw [createOrder_of_free kind free, State.feeder_setFeeder_self, Feeder.fillOrders_frame]
    rfl
  · rw [createOrder_of_pending kind free, State.feeder_setFeeder_self]
    rfl

theorem isolationRelight_mark (s : State) (k d : Nat) : ((isolationRelight f s k).feeder f).mark d =
    if d = k ∧ (s.drop f d).isolated = true then some .waiting else (s.feeder f).mark d := by
  unfold isolationRelight
  split
  next isolated =>
    rw [awaitResume, State.feeder_onFeeder_self, Feeder.mark, Feeder.setMark, Tbl.get_set, createOrder_marks]
    by_cases hd : d = k
    · subst hd
      simp [isolated]
    · simp [hd, State.onDrop, Feeder.setDrop, Feeder.mark]
  next dim =>
    rw [if_neg]
    rintro ⟨rfl, isolated⟩
    exact dim isolated

theorem isolationRelights_mark (l : List Nat) (s : State) (d : Nat) :
    ((l.foldl (isolationRelight f) s).feeder f).mark d =
      if d ∈ l ∧ (s.drop f d).isolated = true then some .waiting else (s.feeder f).mark d := by
  induction l generalizing s with
  | nil => simp
  | cons k l ih =>
    rw [List.foldl_cons, ih, isolationRelight_mark]
    by_cases hd : d = k
    · subst hd
      cases isolated : (s.drop f d).isolated
      · simp [isolationRelight_each.idle isolated, isolated]
      · simp
    · have same := (spares_isolationRelight (f := f) s hd).own.record.isolated_eq
      rw [← State.drop, ← State.drop] at same
      simp [same, hd]

/-! ## A step begins (R131, R134, R137) -/

theorem onIsolation_eq (g : Isolation → Isolation) (s : State) :
    onIsolation f g s = s.setFeeder f { s.feeder f with isolation := g (s.feeder f).isolation } := rfl

theorem testHalf_eq (l : List Nat) : testHalf l = l.take ((l.length + 1) / 2) := rfl

theorem beginStep_of_none {s : State} (h : (s.feeder f).isolation.suspects = []) :
    beginStep f s = reachEnd f .unattributed s := by simp [beginStep, h]

/-- The record of the isolation once a step with suspects has begun. -/
def Isolation.darkening (i : Isolation) : Isolation :=
  { i with
    test := testHalf i.suspects, awaited := testHalf i.suspects, phase := some .darkening
    confirmStep := decide (i.suspects.length = 1) }

theorem beginStep_of_suspects {s : State} (h : (s.feeder f).isolation.suspects ≠ []) : beginStep f s =
    (testHalf (s.feeder f).isolation.suspects).foldl (isolationDarken f)
      (s.setFeeder f { s.feeder f with isolation := (s.feeder f).isolation.darkening }) := by
  rw [beginStep]
  dsimp only
  rw [if_neg (by simpa using h), onIsolation_eq]
  rfl

/-- What a step with suspects does: the isolation record and the drops it darkens (R118, R134, R137). -/
theorem beginStep_darkens {s : State} (h : (s.feeder f).isolation.suspects ≠ []) :
    ∃ t, beginStep f s = t ∧ t = s.setFeeder f (t.feeder f) ∧
      (t.feeder f).isolation = (s.feeder f).isolation.darkening ∧ (t.feeder f).rogue = (s.feeder f).rogue ∧
      (t.feeder f).lightCount = (s.feeder f).lightCount ∧
      (∀ d ∈ testHalf (s.feeder f).isolation.suspects, (s.drop f d).state.shining = true →
        ((s.drop f d).darkenedBy .isolation).Ordered .darken (t.drop f d)) ∧
      (∀ d, d ∉ testHalf (s.feeder f).isolation.suspects ∨ (s.drop f d).state.shining = false →
        (s.drop f d).SameButStatus (t.drop f d)) := by
  rw [beginStep_of_suspects h]
  generalize half_eq : testHalf (s.feeder f).isolation.suspects = half
  generalize begun_eq : s.setFeeder f { s.feeder f with isolation := (s.feeder f).isolation.darkening } = y
  have record : y.feeder f = { s.feeder f with isolation := (s.feeder f).isolation.darkening } := by
    rw [← begun_eq, State.feeder_setFeeder_self]
  have drops : ∀ d, y.drop f d = s.drop f d := fun d => Feeder.drop_of_drops (congrArg Feeder.drops record) d
  have frame := OnlyOrders.foldl (f := f) onlyOrders_isolationDarken half y
  refine ⟨_, rfl, ?_, frame.isolation.trans (by rw [record]), frame.rogue.trans (by rw [record]),
    frame.lightCount.trans (by rw [record]), fun d hd shining => ?_, fun d out => ?_⟩
  · refine frame.onlyFeeder.trans ?_
    rw [← begun_eq, State.setFeeder_setFeeder]
  · rw [← drops d] at shining ⊢
    exact isolationDarken_each.foldl_ordered y hd shining
  · rw [← drops d] at out ⊢
    exact isolationDarken_each.foldl_spared half y out

/-! ## An isolation begins (R131) -/

/-- The feeder as an isolation of some suspects begins, before its first step (R131). -/
def Feeder.isolating (x : Feeder) (kind : IsolationKind) (suspects : List Nat) : Feeder :=
  { x with
    rogue := .isolating
    isolation := { Isolation.none with kind := some kind, suspects := suspects, step := 1 }
    lightCount := { x.lightCount with isolations := x.lightCount.isolations + 1 } }

theorem beginIsolation_eq (kind : IsolationKind) (suspects : List Nat) (s : State) :
    beginIsolation f kind suspects s = beginStep f (s.setFeeder f ((s.feeder f).isolating kind suspects)) := rfl

theorem beginIsolation_darkens (kind : IsolationKind) {suspects : List Nat} (s : State) (h : suspects ≠ []) :
    ∃ t, beginIsolation f kind suspects s = t ∧ t = s.setFeeder f (t.feeder f) ∧
      (t.feeder f).isolation =
        { Isolation.none with kind := some kind, suspects := suspects, step := 1 : Isolation }.darkening ∧
      (t.feeder f).rogue = .isolating ∧
      (t.feeder f).lightCount =
        { (s.feeder f).lightCount with isolations := (s.feeder f).lightCount.isolations + 1 } ∧
      (∀ d ∈ testHalf suspects, (s.drop f d).state.shining = true →
        ((s.drop f d).darkenedBy .isolation).Ordered .darken (t.drop f d)) ∧
      (∀ d, d ∉ testHalf suspects ∨ (s.drop f d).state.shining = false →
        (s.drop f d).SameButStatus (t.drop f d)) := by
  rw [beginIsolation_eq]
  generalize begun_eq : s.setFeeder f ((s.feeder f).isolating kind suspects) = y
  have record : y.feeder f = (s.feeder f).isolating kind suspects := by rw [← begun_eq, State.feeder_setFeeder_self]
  have drops : ∀ d, y.drop f d = s.drop f d := fun d => Feeder.drop_of_drops (congrArg Feeder.drops record) d
  have named : (y.feeder f).isolation = { Isolation.none with kind := some kind, suspects := suspects, step := 1 } := by
    rw [record, Feeder.isolating]
  have listed : (y.feeder f).isolation.suspects = suspects := by rw [named]
  obtain ⟨t, ht, frame, isolation, rogue, counts, tested, spared⟩ := beginStep_darkens (listed.symm ▸ h)
  simp only [drops, listed] at tested spared
  refine ⟨t, ht, ?_, by rw [isolation, named], by rw [rogue, record, Feeder.isolating],
    by rw [counts, record, Feeder.isolating], tested, spared⟩
  rw [← begun_eq, State.setFeeder_setFeeder] at frame
  exact frame

theorem beginIsolation_of_none (kind : IsolationKind) (s : State) : beginIsolation f kind [] s =
    notify (.rogueUnattributed f 1) (s.setFeeder f { s.feeder f with
      rogue := .unattributed, isolation := Isolation.none, recent := [], quiet := 0,
      lightCount := { (s.feeder f).lightCount with
        isolations := (s.feeder f).lightCount.isolations + 1,
        unattributed := (s.feeder f).lightCount.unattributed + 1 } }) := by
  rw [beginIsolation_eq, beginStep_of_none (by simp [Feeder.isolating]), reachEnd, if_pos (by simp [Feeder.isolating]; rfl),
    finishIsolation]
  simp [Feeder.isolating]

end

/-! ## ISOLATE (R132) -/

theorem exec_isolate (h : MgmtHead) (n : Nat) (o : Option Nat) (s : State) :
    exec (.isolate h n o) s = live s (takeRequest (.isolate h n o) h 13 (isolateDecided n o)) := by
  have arm : exec (.isolate h n o) s = execIsolate h n o s := rfl
  rw [arm, execIsolate]

theorem isolateDecided_badIndex {n : Nat} {o : Option Nat} (s : State)
    (h : 3 < n ∨ o = some 0 ∨ ∃ d, o = some d ∧ 64 < d) : isolateDecided n o s = refuseWith .badIndex s := by
  unfold isolateDecided
  split
  · rfl
  next f hf =>
    have named : ¬ 3 < n := fun big => by simp [FeederId.ofNat?_of_lt big] at hf
    dsimp only
    rw [if_pos]
    obtain big | rfl | ⟨d, rfl, big⟩ := h
    · exact absurd big named
    · rfl
    · simp [within]
      omega

/-- The kind of the isolation that ISOLATE begins, and its suspects (R132). -/
def isolateKind (o : Option Nat) : IsolationKind := if o.isSome then .targeted else .full

def isolateSuspects (f : FeederId) (o : Option Nat) (s : State) : List Nat :=
  o.elim (s.feeder f).shiningDrops fun d => [d]

/-- ISOLATE with its operands in range (R132). -/
theorem isolateDecided_eq (f : FeederId) {o : Option Nat} (s : State) (h : ∀ d, o = some d → 1 ≤ d ∧ d ≤ 64) :
    isolateDecided f.toNat o s =
      if (s.feeder f).running = false then refuseWith .wrongState s
      else if (s.feeder f).rogue = .isolating then refuseWith .busy s
      else if ∃ d, o = some d ∧ (s.drop f d).state.shining = false then refuseWith .wrongState s
      else
        let y := beginIsolation f (isolateKind o) (isolateSuspects f o s) s
        (y, .done (.isolation (y.feeder f).isolation)) := by
  have inRange : o.all (within 1 64) = true := by
    cases o with
    | none => rfl
    | some d => simpa [within] using h d rfl
  rw [isolateDecided, FeederId.ofNat?_toNat]
  dsimp only
  rw [if_neg (by simp [inRange])]
  refine if_congr (by simp) rfl (if_congr Iff.rfl rfl ?_)
  cases o with
  | none => rw [if_neg (by simp)]; rfl
  | some d =>
    dsimp only
    by_cases shining : (s.drop f d).state.shining = false
    · rw [if_neg (by simpa [State.drop] using shining), if_pos ⟨d, rfl, shining⟩]
    · rw [if_pos (by simpa [State.drop] using shining), if_neg (by simpa using shining)]
      rfl

theorem testHalf_singleton (d : Nat) : testHalf [d] = [d] := by simp [testHalf, ceilDiv]

theorem testHalf_subset {l : List Nat} {d : Nat} (h : d ∈ testHalf l) : d ∈ l := List.mem_of_mem_take h

theorem shining_of_mem_shiningDrops {f : FeederId} {s : State} {d : Nat} (h : d ∈ (s.feeder f).shiningDrops) :
    (s.drop f d).state.shining = true := (List.mem_filter.1 h).2

/-- Settles O20: ISOLATE decides in its order, and an isolation begins with its first step. -/
theorem isolateBeginsAnIsolation : Obligations.IsolateBeginsAnIsolation := by
  unfold Obligations.IsolateBeginsAnIsolation
  intro h n o s ha
  have he := exec_isolate h n o s
  refine ⟨fun bad => refuses_of ha he (isolateDecided_badIndex s bad), ?_⟩
  rintro f rfl inRange
  have decided := isolateDecided_eq f s inRange
  refine ⟨fun stopped => refuses_of ha he (decided.trans (if_pos stopped)), fun running isolating => ?_,
    fun running quiet => ?_⟩
  · exact refuses_of ha he (decided.trans (by rw [if_neg (by simp [running]), if_pos isolating]))
  rw [if_neg (by simp [running]), if_neg quiet] at decided
  refine ⟨fun d hd dim => refuses_of ha he (decided.trans (if_pos ⟨d, hd, dim⟩)), fun d kind one => ?_,
    fun ho two => ?_, fun ho none => ?_⟩
  · have chosen : (s.drop f d).state.shining = true ∧ isolateKind o = kind ∧ isolateSuspects f o s = [d] := by
      obtain ⟨rfl, shining, rfl⟩ | ⟨rfl, one, rfl⟩ := one
      · exact ⟨shining, rfl, rfl⟩
      · exact ⟨shining_of_mem_shiningDrops (one ▸ List.mem_singleton_self d), rfl, one⟩
    obtain ⟨shining, hkind, hsuspects⟩ := chosen
    have lit : ¬ ∃ d, o = some d ∧ (s.drop f d).state.shining = false := by
      rintro ⟨e, rfl, dim⟩
      obtain rfl : e = d := List.singleton_inj.1 hsuspects
      simp [dim] at shining
    rw [if_neg lit, hkind, hsuspects] at decided
    obtain ⟨t, ht, frame, isolation, rogue, counts, tested, -⟩ :=
      beginIsolation_darkens (f := f) kind s (List.cons_ne_nil d [])
    rw [ht] at decided
    have darkened := tested d (by rw [testHalf_singleton]; exact List.mem_singleton_self d) shining
    refine ⟨t, done_of ha he decided, rogue, ?_, darkened.state_eq, by rw [darkened.1]; rfl, darkened.cause_eq, counts,
      frame⟩
    rw [isolation, Isolation.darkening]
    simp only [testHalf_singleton]
    rfl
  · subst ho
    rw [if_neg (by simp)] at decided
    have some : (s.feeder f).shiningDrops ≠ [] := fun none => by simp [none] at two
    obtain ⟨t, ht, frame, isolation, rogue, -, tested, spared⟩ := beginIsolation_darkens (f := f) .full s some
    rw [isolateKind, isolateSuspects, Option.elim_none] at decided
    simp only [Option.isSome_none, Bool.false_eq_true, if_false, ht] at decided
    refine ⟨t, done_of ha he decided, rogue, ?_, frame⟩
    rintro half rfl
    rw [← testHalf_eq]
    refine ⟨?_, fun d hd => ?_, fun d hd => (spared d (.inl hd)).1⟩
    · rw [isolation, Isolation.darkening]
      have single : decide ((s.feeder f).shiningDrops.length = 1) = false := decide_eq_false (by omega)
      simp only [single]
      rfl
    · have darkened := tested d hd (shining_of_mem_shiningDrops (testHalf_subset hd))
      exact ⟨darkened.state_eq, by rw [darkened.1]; rfl, darkened.cause_eq⟩
  · subst ho
    rw [if_neg (by simp), isolateKind, isolateSuspects, Option.elim_none, none] at decided
    simp only [Option.isSome_none, Bool.false_eq_true, if_false, beginIsolation_of_none, notify_feeder,
      State.feeder_setFeeder_self] at decided
    exact ⟨_, done_of ha he decided, rfl⟩

end Sys2Proof.Machine
end


section
/-! PROOFS. How the steps of an isolation go on and how it ends (R134 to R139), and the strikes and alerts that begin one
(R124, R125, R127, R131). -/

namespace Sys2Proof.Machine

section
variable {f : FeederId}

/-! ## Reports (R134, R136, R137) -/

theorem nextStep_eq (s : State) : nextStep f s = beginStep f (s.setFeeder f { s.feeder f with isolation :=
    { (s.feeder f).isolation with awaited := [], test := [], step := (s.feeder f).isolation.step + 1 } }) := rfl

/-- The isolation record as the observation of a step begins (R135). -/
def Isolation.observing (i : Isolation) (cycles : Nat) : Isolation :=
  { i with
    observeStart := i.lastDarken + 1, observeEnd := i.lastDarken + 1 + BitVec.ofNat 32 cycles - 1, faultSeen := false
    phase := some (if i.confirmStep then .confirming else .observing) }

theorem beginObservation_eq (s : State) : beginObservation f s = s.setFeeder f { s.feeder f with
    isolation := (s.feeder f).isolation.observing (s.feeder f).settings.observe } := rfl

section
variable {d : Nat} {m : CycleNo} {s : State} {i : Isolation} {rest : List Nat}

theorem isolationReport_of_not_awaited (k : OrderKind) (h : d ∉ (s.feeder f).isolation.awaited) :
    isolationReport f d k m s = s := by
  unfold isolationReport
  exact if_pos h

theorem isolationReport_of_ending {k : OrderKind} (held : (s.feeder f).isolation.ending ≠ none)
    (other : k ≠ .relight ∨ (s.feeder f).isolation.phase ≠ some .relighting) : isolationReport f d k m s = s := by
  unfold isolationReport
  dsimp only
  split
  · rfl
  · split <;> simp_all

variable (hi : i = (s.feeder f).isolation) (hrest : rest = i.awaited.filter fun k => decide (k ≠ d)) (awaited : d ∈ i.awaited)
include hi hrest awaited

theorem isolationReport_held_relight (held : i.ending ≠ none) (phase : i.phase = some .relighting) :
    isolationReport f d .relight m s = s.setFeeder f { s.feeder f with isolation := { i with awaited := rest } } := by
  subst hi hrest
  obtain ⟨e, he⟩ := Option.ne_none_iff_exists'.1 held
  unfold isolationReport
  dsimp only
  rw [if_neg (not_not_intro awaited)]
  conv_lhs => rw [phase, he]
  rfl

theorem isolationReport_darken (free : i.ending = none) (phase : i.phase = some .darkening) :
    isolationReport f d .darken m s =
      if rest = [] then beginObservation f
        (s.setFeeder f { s.feeder f with isolation := { i with awaited := rest, lastDarken := m } })
      else s.setFeeder f { s.feeder f with isolation := { i with awaited := rest, lastDarken := m } } := by
  subst hi hrest
  unfold isolationReport
  dsimp only
  rw [if_neg (not_not_intro awaited)]
  conv_lhs => rw [phase, free]
  exact if_congr List.isEmpty_iff rfl rfl

theorem isolationReport_relight (free : i.ending = none) (phase : i.phase = some .relighting) :
    isolationReport f d .relight m s =
      if rest = [] then nextStep f (s.setFeeder f { s.feeder f with isolation := { i with awaited := rest } })
      else s.setFeeder f { s.feeder f with isolation := { i with awaited := rest } } := by
  subst hi hrest
  unfold isolationReport
  dsimp only
  rw [if_neg (not_not_intro awaited)]
  conv_lhs => rw [phase, free]
  exact if_congr List.isEmpty_iff rfl rfl

theorem isolationReport_disable (free : i.ending = none) (phase : i.phase = some .confirming) :
    isolationReport f d .disable m s =
      reachEnd f .quarantine (s.setFeeder f { s.feeder f with isolation := { i with awaited := rest } }) := by
  subst hi hrest
  unfold isolationReport
  dsimp only
  rw [if_neg (not_not_intro awaited)]
  conv_lhs => rw [phase, free]
  rfl

end

/-! ## Observation (R135 to R137) -/

theorem Isolation.observes_iff (i : Isolation) (n : CycleNo) : i.observes n = true ↔
    (i.phase = some .observing ∨ i.phase = some .confirming) ∧ i.ending = Option.none ∧
      (n - i.observeStart).toNat < 2 ^ 31 ∧ (i.observeEnd - n).toNat < 2 ^ 31 := by
  simp only [Isolation.observes, Bool.and_eq_true, Bool.or_eq_true, decide_eq_true_eq, Option.isNone_iff_eq_none, and_assoc]
  rw [atOrBefore, atOrBefore, decide_eq_true_eq, decide_eq_true_eq]
  rfl

section
variable (n : CycleNo) (bore : Bool) {s : State}

/-- The state with the symptom of an observed cycle taken (R135). -/
def faultTaken (f : FeederId) (bore : Bool) (s : State) : State := s.setFeeder f { s.feeder f with isolation :=
  { (s.feeder f).isolation with faultSeen := (s.feeder f).isolation.faultSeen || bore } }

theorem observeCycle_of_outside (h : (s.feeder f).isolation.observes n = false) : observeCycle f n bore s = s := by
  unfold observeCycle
  exact if_neg (by simp [h])

theorem observeCycle_of_observes (h : (s.feeder f).isolation.observes n = true) : observeCycle f n bore s =
    if n = (s.feeder f).isolation.observeEnd then
      if (s.feeder f).isolation.phase = some .confirming then endConfirm f (faultTaken f bore s)
      else endObservation f (faultTaken f bore s)
    else faultTaken f bore s := by
  unfold observeCycle
  exact if_pos h

theorem faultTaken_drop (d : Nat) : (faultTaken f bore s).drop f d = s.drop f d := by
  rw [faultTaken, State.drop_setFeeder_self]
  rfl

end

/-- The end of a halving step's observation: the tested drops still darkened are relit, and the suspects become the other
half or the tested one (R136). -/
theorem endObservation_relights {s : State} {x : Feeder} {i : Isolation} {relit : List Nat} (hx : x = s.feeder f) (hi : i = x.isolation)
    (hrelit : relit = i.test.filter fun d => (s.drop f d).isolated) :
    ∃ y, y = s.setFeeder f (y.feeder f) ∧
      (y.feeder f).isolation = { i with
        awaited := relit, phase := some .relighting
        suspects := if i.faultSeen then i.suspects.filter (fun d => decide (d ∉ i.test)) else i.test } ∧
      (∀ d ∈ relit, (s.drop f d).relit.Ordered .relight (y.drop f d) ∧ (y.feeder f).mark d = some .waiting) ∧
      (∀ d ∉ relit, (s.drop f d).SameButStatus (y.drop f d) ∧ (y.feeder f).mark d = x.mark d) ∧
      endObservation f s = if relit = [] then nextStep f y else y := by
  subst hx hi hrelit
  generalize hi : (s.feeder f).isolation = i
  generalize hrelit : (i.test.filter fun d => (s.drop f d).isolated) = relit
  generalize hnext : { i with
        awaited := relit, phase := some .relighting
        suspects := if i.faultSeen then i.suspects.filter (fun d => decide (d ∉ i.test)) else i.test } = j
  generalize hz : s.setFeeder f { s.feeder f with isolation := j } = z
  have record : z.feeder f = { s.feeder f with isolation := j } := by rw [← hz, State.feeder_setFeeder_self]
  have drops : ∀ d, z.drop f d = s.drop f d := fun d => Feeder.drop_of_drops (congrArg Feeder.drops record) d
  have marks : ∀ d, (z.feeder f).mark d = (s.feeder f).mark d := fun d => by rw [record]; rfl
  have frame := OnlyOrders.foldl (f := f) onlyOrders_isolationRelight i.test z
  have listed : ∀ d, d ∈ relit ↔ d ∈ i.test ∧ (s.drop f d).isolated = true := fun d => by rw [← hrelit, List.mem_filter]
  refine ⟨i.test.foldl (isolationRelight f) z, ?_, frame.isolation.trans (by rw [record]), fun d hd => ?_, fun d hd => ?_, ?_⟩
  · refine frame.onlyFeeder.trans ?_
    rw [← hz, State.setFeeder_setFeeder]
  · obtain ⟨tested, isolated⟩ := (listed d).1 hd
    have ordered := isolationRelight_each.foldl_ordered z tested (by rwa [drops])
    rw [drops] at ordered
    rw [isolationRelights_mark, drops, if_pos ⟨tested, isolated⟩]
    exact ⟨ordered, rfl⟩
  · rw [listed] at hd
    have out : d ∉ i.test ∨ (s.drop f d).isolated = false := by
      rw [← Bool.not_eq_true]
      exact not_and_or.1 hd
    rw [isolationRelights_mark, drops, if_neg hd, marks]
    have spared := isolationRelight_each.foldl_spared i.test z (by rwa [drops])
    rw [drops] at spared
    exact ⟨spared, rfl⟩
  · unfold endObservation
    dsimp only
    rw [hi, hrelit, onIsolation_eq, hi, hnext, hz]
    exact if_congr List.isEmpty_iff rfl rfl

end

/-- Settles O48: a step begins by `beginStep_darkens`, reports move it, and an observation ends by `endObservation_relights`. -/
theorem isolationStepsGoOn : Obligations.IsolationStepsGoOn := by
  unfold Obligations.IsolationStepsGoOn
  refine ⟨fun f s => beginStep_of_none, ?begins, ?reports, ?observes⟩
  case begins =>
    rintro f s i half rfl suspects rfl
    obtain ⟨t, ht, frame, isolation, -, -, tested, spared⟩ := beginStep_darkens suspects
    refine ⟨t, ht, frame, isolation, fun d hd shining => ?_, fun d out => (spared d out).1⟩
    exact tested d hd shining
  case reports =>
    rintro f d m s x i rest rfl hi hrest
    refine ⟨fun k idle => ?_, fun held awaited => isolationReport_held_relight hi hrest awaited held, fun free awaited =>
      ⟨fun phase => ?_, fun phase => ⟨fun more => ?_, fun last => ?_⟩, isolationReport_disable hi hrest awaited free⟩⟩
    · subst hi
      obtain out | ⟨held, other⟩ := idle
      · exact isolationReport_of_not_awaited k out
      · exact isolationReport_of_ending held other
    · rw [isolationReport_darken hi hrest awaited free phase]
      by_cases last : rest = []
      · rw [if_pos last, if_pos last, beginObservation_eq, State.feeder_setFeeder_self, State.setFeeder_setFeeder, last]
        rfl
      · rw [if_neg last, if_neg last]
    · rw [isolationReport_relight hi hrest awaited free phase, if_neg more]
    · rw [isolationReport_relight hi hrest awaited free phase, if_pos last, nextStep_eq, State.feeder_setFeeder_self,
        State.setFeeder_setFeeder]
  case observes =>
    rintro f n bore fault inside s x i rfl rfl rfl hinside
    rw [← Isolation.observes_iff, ← Bool.eq_iff_iff] at hinside
    subst hinside
    refine ⟨observeCycle_of_outside n bore, fun observes early => ?_, fun relit observes last phase hrelit => ?_⟩
    · rw [observeCycle_of_observes n bore observes, if_neg early]
      rfl
    · have confirming : (s.feeder f).isolation.phase ≠ some .confirming := by rw [phase]; decide
      rw [observeCycle_of_observes n bore observes, if_pos last, if_neg confirming]
      obtain ⟨y, frame, isolation, relights, others, whole⟩ := endObservation_relights (f := f) (s := faultTaken f bore s)
        (relit := relit) rfl rfl (by
          rw [hrelit, faultTaken, State.feeder_setFeeder_self]
          refine List.filter_congr fun d _ => ?_
          rw [← faultTaken, faultTaken_drop, DropRecord.isolated, Bool.decide_and])
      simp only [faultTaken_drop] at relights others
      rw [faultTaken, State.feeder_setFeeder_self] at isolation
      refine ⟨y, ?_, isolation, fun d hd => ⟨_, rfl, ?_⟩, fun d hd => ?_, fun some => ?_, fun none => ?_⟩
      · rw [faultTaken, State.setFeeder_setFeeder] at frame
        exact frame
      · obtain ⟨⟨rest, kind⟩, mark⟩ := relights d hd
        exact ⟨rest, kind, mark⟩
      · obtain ⟨⟨rest, -⟩, mark⟩ := others d hd
        refine ⟨rest, mark.trans ?_⟩
        rw [faultTaken, State.feeder_setFeeder_self]
        rfl
      · rw [whole, if_neg some]
      · rw [whole, if_pos none, nextStep_eq, isolation]

/-! ## The end of an isolation (R137 to R139) -/

section
variable {f : FeederId} {d : Nat} {s : State}

theorem endConfirm_of_fault {others : List Nat} (suspects : (s.feeder f).isolation.suspects = d :: others)
    (fault : (s.feeder f).isolation.faultSeen = true) :
    endConfirm f s = reachEnd f .unattributed (isolationRelight f s d) := by
  unfold endConfirm
  simp only [suspects, fault, if_true]

/-- The state as the confirm step quarantines its drop, before the notice is asked for (R137, R138). -/
def quarantined (f : FeederId) (d : Nat) (s : State) : State :=
  (isolationQuarantine f (onIsolation f (fun i =>
    { i with suspects := i.suspects.filter (fun k => decide (k ≠ d)), awaited := insertAsc d i.awaited }) s) d).onFeeder f
    fun x => { x with lightCount := { x.lightCount with quarantines := x.lightCount.quarantines + 1 } }

theorem endConfirm_of_quiet {others : List Nat} (suspects : (s.feeder f).isolation.suspects = d :: others)
    (quiet : (s.feeder f).isolation.faultSeen = false) : endConfirm f s =
      notify (.rogueFound f d (s.drop f d).tag (s.drop f d).account (s.feeder f).isolation.step) (quarantined f d s) := by
  unfold endConfirm quarantined
  simp only [suspects, quiet, Bool.false_eq_true, if_false]

theorem onlyOrders_isolationQuarantine (s : State) : OnlyOrders f s (isolationQuarantine f s d) := by
  unfold isolationQuarantine
  split
  · exact (onlyOrders_onDrop f s d _).trans (onlyOrders_createOrder f _ d _)
  · exact .refl s

theorem isolationQuarantine_drop_self (h : (s.drop f d).isolated = true) :
    ({ s.drop f d with state := .quarantined, resume := none, cause := none } : DropRecord).Ordered .disable
      ((isolationQuarantine f s d).drop f d) := by
  have created := createOrder_drop_self (f := f) (d := d) .disable
    (s.onDrop f d fun r => { r with state := .quarantined, resume := none, cause := none })
  rw [State.drop_onDrop_self] at created
  rw [isolationQuarantine, if_pos h]
  exact created

theorem State.drop_onFeeder_of_drops (s : State) {k : Feeder → Feeder} (h : ∀ x, (k x).drops = x.drops) :
    (s.onFeeder f k).drop f d = s.drop f d := by
  rw [State.drop, State.feeder_onFeeder_self, Feeder.drop_of_drops (h _), ← State.drop]

theorem quarantined_spec (h : (s.drop f d).isolated = true) :
    quarantined f d s = s.setFeeder f ((quarantined f d s).feeder f) ∧
      ((quarantined f d s).feeder f).isolation = { (s.feeder f).isolation with
        suspects := (s.feeder f).isolation.suspects.filter (fun k => decide (k ≠ d))
        awaited := insertAsc d (s.feeder f).isolation.awaited } ∧
      ((quarantined f d s).feeder f).rogue = (s.feeder f).rogue ∧
      ((quarantined f d s).feeder f).lightCount =
        { (s.feeder f).lightCount with quarantines := (s.feeder f).lightCount.quarantines + 1 } ∧
      ({ s.drop f d with state := .quarantined, resume := none, cause := none } : DropRecord).Ordered .disable
        ((quarantined f d s).drop f d) := by
  unfold quarantined
  rw [onIsolation_eq]
  generalize { (s.feeder f).isolation with
        suspects := (s.feeder f).isolation.suspects.filter (fun k => decide (k ≠ d))
        awaited := insertAsc d (s.feeder f).isolation.awaited } = j
  generalize hz : s.setFeeder f { s.feeder f with isolation := j } = z
  have record : z.feeder f = { s.feeder f with isolation := j } := by rw [← hz, State.feeder_setFeeder_self]
  have same : z.drop f d = s.drop f d := Feeder.drop_of_drops (congrArg Feeder.drops record) d
  have frame := onlyOrders_isolationQuarantine (f := f) (d := d) z
  have moved := isolationQuarantine_drop_self (s := z) (by rwa [same])
  rw [same] at moved
  generalize hu : isolationQuarantine f z d = u at frame moved
  refine ⟨?_, ?_, ?_, ?_, ?_⟩
  · rw [State.feeder_onFeeder_self, State.onFeeder, frame.onlyFeeder, State.setFeeder_setFeeder, ← hz]
    simp
  · rw [State.feeder_onFeeder_self]
    exact frame.isolation.trans (by rw [record])
  · rw [State.feeder_onFeeder_self]
    exact frame.rogue.trans (by rw [record])
  · rw [State.feeder_onFeeder_self, frame.lightCount, record]
  · have same := State.drop_onFeeder_of_drops (f := f) (d := d) u (k := fun x =>
        { x with lightCount := { x.lightCount with quarantines := x.lightCount.quarantines + 1 } }) fun _ => rfl
    rw [same]
    exact moved

theorem reachEnd_held (e : IsolationEnding) (h : (s.feeder f).isolation.departed ≠ []) : reachEnd f e s =
    s.setFeeder f { s.feeder f with isolation := { (s.feeder f).isolation with ending := some e } } := by
  rw [reachEnd, if_neg (by simpa using h), onIsolation_eq]

theorem reachEnd_free (e : IsolationEnding) (h : (s.feeder f).isolation.departed = []) :
    reachEnd f e s = finishIsolation f e s := by
  rw [reachEnd, if_pos (by simpa using h)]

end

/-! ## Departures (R138, R139) -/

section
variable {f : FeederId} {d : Nat}

theorem enterLeaving_departs (why : RemoveReason) (s : State) : ∃ y : State,
    (y.feeder f).isolation = (s.feeder f).isolation ∧
      enterLeaving f d why s = departure f d (s.drop f d).isolated false y := by
  refine ⟨_, ?_, rfl⟩
  have left := (onlyOrders_onDrop f s d fun r =>
    { r with state := .leaving, leave := some why, resume := none, cause := none, phase := none, inFlight := none }).trans
    (onlyOrders_createOrder f _ d .remove)
  split
  · exact (left.trans (onlyOrders_leaveShining f _ d)).isolation
  · exact left.isolation

theorem freeRecord_departs (why : RemoveReason) (s : State) : ∃ z : State,
    (z.feeder f).isolation = (s.feeder f).isolation ∧
      freeRecord f d why s =
        notify (.dropRemoved f d (s.drop f d).tag (s.drop f d).account why) (departure f d false true z) := by
  refine ⟨_, ?_, rfl⟩
  rw [State.feeder_onFeeder_self]
  change Feeder.isolation (State.feeder (if _ then _ else _) f) = _
  split <;> simp

/-- The isolation record once the Light Monitor has taken a departure (R138, R139). -/
def Isolation.departs (i : Isolation) (d : Nat) (gone : List Nat) : Isolation :=
  if d ∈ i.suspects then { i with
    departed := gone, suspects := i.suspects.filter fun k => decide (k ≠ d)
    test := i.test.filter fun k => decide (k ≠ d), awaited := i.awaited.filter fun k => decide (k ≠ d) }
  else { i with departed := gone }

/-- The records that have departed and are not EMPTY yet (R138, R139). -/
def Isolation.departedAfter (i : Isolation) (d : Nat) (dark gone : Bool) : List Nat :=
  if gone then i.departed.filter fun k => decide (k ≠ d) else if dark then insertAsc d i.departed else i.departed

variable {dark gone : Bool} {s y : State} {i : Isolation}

section
variable (hi : i = (s.feeder f).isolation) (kind : i.kind ≠ none)
  (hy : y = s.setFeeder f { s.feeder f with isolation := i.departs d (i.departedAfter d dark gone) })
include hi kind hy

theorem departure_of_ending {e : IsolationEnding} (ending : i.ending = some e) : departure f d dark gone s =
    if i.departedAfter d dark gone = [] then finishIsolation f e y else y := by
  subst hi hy
  unfold departure
  dsimp only
  rw [if_neg (by simpa using kind), ending]
  simp only [decide_eq_true_eq]
  exact if_congr List.isEmpty_iff rfl rfl

theorem departure_of_free (free : i.ending = none) :
    departure f d dark gone s = if d ∈ i.suspects then afterDeparture f y else y := by
  subst hi hy
  unfold departure
  dsimp only
  rw [if_neg (by simpa using kind), free]
  simp only [decide_eq_true_eq]
  rfl

end

section
variable {y : State} {j : Isolation} (hj : (y.feeder f).isolation = j)
include hj

theorem afterDeparture_of_none (none : j.suspects = []) : afterDeparture f y = reachEnd f .unattributed y := by
  subst hj
  unfold afterDeparture
  exact if_pos (by simpa using none)

variable (suspects : j.suspects ≠ [])
include suspects

theorem afterDeparture_next (h : (j.phase = some .darkening ∧ j.test = []) ∨ (j.phase = some .observing ∧ j.test = []) ∨
    (j.phase = some .relighting ∧ j.awaited = [])) : afterDeparture f y = nextStep f y := by
  subst hj
  unfold afterDeparture
  dsimp only
  rw [if_neg (by simpa using suspects)]
  obtain ⟨phase, none⟩ | ⟨phase, none⟩ | ⟨phase, none⟩ := h <;> rw [phase] <;> simp [none]

theorem afterDeparture_observes (phase : j.phase = some .darkening) (tested : j.test ≠ []) (out : j.awaited = []) :
    afterDeparture f y = beginObservation f y := by
  subst hj
  unfold afterDeparture
  dsimp only
  rw [if_neg (by simpa using suspects), phase]
  simp [tested, out]

theorem afterDeparture_waits (h : (j.phase = some .darkening ∧ j.test ≠ [] ∧ j.awaited ≠ []) ∨
    (j.phase = some .observing ∧ j.test ≠ []) ∨ (j.phase = some .relighting ∧ j.awaited ≠ []) ∨
    j.phase = some .confirming ∨ j.phase = none) : afterDeparture f y = y := by
  subst hj
  unfold afterDeparture
  dsimp only
  rw [if_neg (by simpa using suspects)]
  obtain ⟨phase, tested, awaited⟩ | ⟨phase, tested⟩ | ⟨phase, awaited⟩ | phase | phase := h <;> rw [phase]
  · simp [tested, awaited]
  · simp [tested]
  · simp [awaited]

end

end

/-- Settles O49: the confirm step ends by `endConfirm`, an end comes at once or is held, and a departure is taken into the
record before the step goes on. -/
theorem isolationConfirmsAndEnds : Obligations.IsolationConfirmsAndEnds := by
  unfold Obligations.IsolationConfirmsAndEnds
  refine ⟨?confirms, ?ends, ?leaves, ?departs⟩
  case confirms =>
    rintro f n bore s x i d others rfl rfl phase free inside rfl suspects dark cause
    have observes : (s.feeder f).isolation.observes (s.feeder f).isolation.observeEnd = true :=
      (Isolation.observes_iff _ _).2 ⟨.inr phase, free, inside, by simp⟩
    have whole := observeCycle_of_observes _ bore observes
    rw [if_pos rfl, if_pos phase] at whole
    have isolated : (s.drop f d).isolated = true := by simp [DropRecord.isolated, dark, cause]
    generalize hz : faultTaken f bore s = z at whole
    have record : z.feeder f = { s.feeder f with isolation :=
        { (s.feeder f).isolation with faultSeen := (s.feeder f).isolation.faultSeen || bore } } := by
      rw [← hz, faultTaken, State.feeder_setFeeder_self]
    have same : z.drop f d = s.drop f d := hz ▸ faultTaken_drop bore d
    have listed : (z.feeder f).isolation.suspects = d :: others := by rw [record]; exact suspects
    have only : ∀ y : Feeder, z.setFeeder f y = s.setFeeder f y := fun y => by
      rw [← hz, faultTaken, State.setFeeder_setFeeder]
    constructor
    · intro fault
      rw [endConfirm_of_fault listed (by rw [record]; exact fault)] at whole
      have ordered := isolationRelight_each.own (f := f) (s := z) (d := d) (by rwa [same])
      have marked := isolationRelight_mark (f := f) z d d
      rw [same, if_pos ⟨rfl, isolated⟩] at marked
      rw [same] at ordered
      have frame := onlyOrders_isolationRelight (f := f) z d
      refine ⟨_, _, whole, rfl, frame.onlyFeeder.trans (only _), ?_, marked, ordered.1, ordered.2⟩
      rw [frame.isolation, record]
      simp only [fault]
    · intro quiet
      obtain ⟨unseen, -⟩ : (s.feeder f).isolation.faultSeen = false ∧ bore = false := by simpa using quiet
      rw [endConfirm_of_quiet listed (by rw [record]; exact quiet)] at whole
      obtain ⟨frame, isolation, rogue, counts, ordered⟩ := quarantined_spec (f := f) (s := z) (d := d) (by rwa [same])
      rw [same] at whole ordered
      rw [record] at whole isolation rogue counts
      refine ⟨_, whole, frame.trans (only _), ?_, rogue, counts, ordered.1, ordered.2⟩
      have seen : ((s.feeder f).isolation.faultSeen || bore) = (s.feeder f).isolation.faultSeen := quiet.trans unseen.symm
      rw [isolation]
      simp only [seen]
  case ends =>
    rintro f s x e rfl
    refine ⟨reachEnd_held e, fun none => ⟨?_, ?_⟩⟩
    · exact reachEnd_free _ none
    · exact reachEnd_free _ none
  case leaves =>
    intro f d why s
    obtain ⟨y, hy, leaves⟩ := enterLeaving_departs (f := f) (d := d) why s
    obtain ⟨z, hz, frees⟩ := freeRecord_departs (f := f) (d := d) why s
    rw [DropRecord.isolated, ← Bool.decide_and] at leaves
    exact ⟨y, z, hy, hz, leaves, frees⟩
  case departs =>
    rintro f d dark gone s y x i j gone' without rfl hi hwithout rfl hj hy
    obtain rfl : without = fun l => l.filter fun k => decide (k ≠ d) := funext hwithout
    change j = i.departs d (i.departedAfter d dark gone) at hj
    have jphase : j.phase = i.phase := by rw [hj, Isolation.departs]; split <;> rfl
    have jgone : j.departed = i.departedAfter d dark gone := by rw [hj, Isolation.departs]; split <;> rfl
    have record : (y.feeder f).isolation = j := by rw [hy, State.feeder_setFeeder_self]
    subst hj
    refine ⟨fun none => departure_of_no_isolation d dark gone (hi ▸ none), fun kind =>
      ⟨fun e ending => ?_, fun free other => ?_, fun free suspect => ?_⟩⟩
    · rw [departure_of_ending hi kind hy ending]
      refine if_ctx_congr Iff.rfl (fun none => ?_) fun _ => rfl
      rw [reachEnd_free e (by rw [record, jgone]; exact none)]
    · rw [departure_of_free hi kind hy free, if_neg other]
    · have goes := departure_of_free hi kind hy free
      rw [if_pos suspect] at goes
      rw [goes, ← jphase]
      refine ⟨afterDeparture_of_none record, fun some => ⟨fun next => ?_, fun phase tested out => ?_,
        afterDeparture_waits record some⟩⟩
      · rw [afterDeparture_next record some next, nextStep_eq, record, hy, State.feeder_setFeeder_self,
          State.setFeeder_setFeeder]
      · rw [afterDeparture_observes record some phase tested out, beginObservation_eq, record, hy,
          State.feeder_setFeeder_self, State.setFeeder_setFeeder]
        rfl

/-! ## Strikes (R124, R125, R127) -/

section
variable {f : FeederId} {d : Nat} (k : Nat) {s : State}

theorem DropState.shining_iff (st : DropState) :
    st.shining = true ↔ st = .active ∨ st = .dozing ∨ st = .silent := by cases st <;> decide

theorem scoreStrikes_of_unscored
    (h : (s.feeder f).running = false ∨ (s.drop f d).state = .empty ∨ (s.drop f d).state = .leaving) :
    scoreStrikes f d k s = s := by
  unfold scoreStrikes
  exact if_pos (by simpa [State.drop] using h)

/-- The state as a drop's strikes come to `count`, the strike limit counted where it is reached (R124, R125). -/
def struck (f : FeederId) (d count : Nat) (limit : Bool) (s : State) : State :=
  s.setFeeder f { (s.feeder f).setDrop d { s.drop f d with strikes := count } with
    lightCount := { (s.feeder f).lightCount with
      strikeLimits := (s.feeder f).lightCount.strikeLimits + (if limit then 1 else 0) } }

/-- A drop is scored: its strikes, and where they reach the limit an isolation or a notice (R125, R127, R131). -/
theorem scoreStrikes_of_scored {count : Nat} {limit : Bool} (running : (s.feeder f).running = true)
    (empty : (s.drop f d).state ≠ .empty) (leaving : (s.drop f d).state ≠ .leaving)
    (hcount : count = min ((s.drop f d).strikes + k) 15)
    (hlimit : limit = true ↔
      (s.drop f d).strikes < (s.feeder f).settings.strikeLimit ∧ (s.feeder f).settings.strikeLimit ≤ count) :
    scoreStrikes f d k s =
      if limit then
        if ((s.feeder f).rogue = .clear ∨ (s.feeder f).rogue = .watch) ∧ (s.feeder f).settings.autoIsolate = true ∧
          (s.drop f d).state.shining = true then beginIsolation f .targeted [d] (struck f d count limit s)
        else notify (.rogueAlert f (.strikes d count)) (struck f d count limit s)
      else struck f d count limit s := by
  subst hcount
  unfold scoreStrikes struck
  dsimp only
  rw [if_neg (by simpa [running] using ⟨empty, leaving⟩)]
  refine (if_congr hlimit.symm rfl rfl).trans ?_
  cases limit with
  | false =>
    have none : (s.feeder f).lightCount.strikeLimits + 0 = (s.feeder f).lightCount.strikeLimits := BitVec.add_zero ..
    simp only [Bool.false_eq_true, if_false, none]
    rfl
  | true =>
    simp only [if_true, State.onDrop, State.onFeeder_onFeeder]
    rfl

end

/-- Settles O47: a strike is scored by `scoreStrikes_of_scored`, and an alert begins a full isolation at a cycle start. -/
theorem strikesAndAlertsBeginIsolations : Obligations.StrikesAndAlertsBeginIsolations := by
  unfold Obligations.StrikesAndAlertsBeginIsolations
  refine ⟨?strikes, fun f named s out => ?named, fun f n s => ?auto⟩
  case strikes =>
    rintro f d k s t c x rfl taken
    have scored : t = scoreStrikes f d k (s.setFeeder f { s.feeder f with lightCount := c }) := by
      obtain ⟨rfl, rfl, rfl⟩ | ⟨rfl, low, high, rfl, rfl⟩ := taken
      · rfl
      · exact if_pos (by simp [within, low, high])
    generalize hy : s.setFeeder f { s.feeder f with lightCount := c } = y at scored
    have record : y.feeder f = { s.feeder f with lightCount := c } := by rw [← hy, State.feeder_setFeeder_self]
    have same : ∀ j, y.drop f j = (s.feeder f).drop j := fun j => Feeder.drop_of_drops (congrArg Feeder.drops record) j
    refine ⟨fun unscored => ?_, fun count limit running empty leaving hcount hlimit => ?_⟩
    · rw [scored, scoreStrikes_of_unscored k (by rwa [record, same])]
    · have goes := scoreStrikes_of_scored (f := f) (d := d) (count := count) (limit := limit) (s := y) k (by rwa [record]) (by rwa [same]) (by rwa [same])
        (by rwa [same]) (by rwa [record, same])
      rw [← scored, same] at goes
      have sets : struck f d count limit y = s.setFeeder f { s.feeder f with
          drops := ((struck f d count limit y).feeder f).drops
          lightCount := { c with strikeLimits := c.strikeLimits + (if limit then 1 else 0) } } := by
        rw [struck, State.feeder_setFeeder_self, record, ← hy, State.setFeeder_setFeeder]
        rfl
      have own : ∀ j, (struck f d count limit y).drop f j =
          if j = d then { (s.feeder f).drop d with strikes := count } else (s.feeder f).drop j := fun j => by
        rw [struck, State.drop_setFeeder_self, ← same, ← same]
        exact Feeder.drop_setDrop ..
      refine ⟨struck f d count limit y, by rw [own, if_pos rfl], fun j hj => by rw [own, if_neg hj], sets,
        fun below => by rw [goes, if_neg (by simp [below])], fun reached => ?_⟩
      rw [if_pos reached, record] at goes
      refine ⟨fun calm auto shining => ?_, fun other => ?_⟩
      · rw [goes, if_pos ⟨calm, auto, (DropState.shining_iff _).2 shining⟩]
      · rw [goes, if_neg]
        rintro ⟨calm, auto, shining⟩
        rw [DropState.shining_iff] at shining
        obtain ⟨notClear, notWatch⟩ | manual | ⟨notActive, notDozing, notSilent⟩ := other
        · exact calm.elim notClear notWatch
        · exact absurd (auto.symm.trans manual) Bool.noConfusion
        · exact shining.elim notActive (·.elim notDozing notSilent)
  case named =>
    unfold takeMislabel
    exact if_neg (by simp [within]; omega)
  case auto =>
    rfl

end Sys2Proof.Machine
end


section
/-! PROOFS. Admission: a DECLINE, the creation of a record, the host's answers and the lookup (R85 to R91). -/

namespace Sys2Proof.Machine

/-! ## What a filling leaves of the reply entries (R77) -/

/-- `e'` is `e` but for where its DECLINE stands. -/
def ReplyEntry.SameButStatus (e e' : ReplyEntry) : Prop :=
  e' = { e with decline := e'.decline } ∧ e'.decline.map Prod.fst = e.decline.map Prod.fst

theorem ReplyEntry.sameButStatus_queued (e : ReplyEntry) : e.SameButStatus e.queued :=
  ⟨rfl, by simp [ReplyEntry.queued, Function.comp_def]⟩

theorem placeDeclines_entries (hold : Nat) (l : List ReplyEntry) (q : List LineOrder) :
    List.Forall₂ ReplyEntry.SameButStatus l (placeDeclines hold l q).1 := by
  induction l generalizing q with
  | nil => exact .nil
  | cons e l ih =>
    rw [placeDeclines_cons]
    split
    · exact .cons e.sameButStatus_queued (ih _)
    · exact .cons ⟨rfl, rfl⟩ (ih _)

theorem Feeder.fillOrders_entries (x : Feeder) :
    List.Forall₂ ReplyEntry.SameButStatus x.replies x.fillOrders.replies := by
  obtain ⟨y, -, -, -, -, replies, -⟩ := fillOrders_parts x
  rw [replies]
  exact placeDeclines_entries ..

theorem ReplyEntry.SameButStatus.serial_eq {e e' : ReplyEntry} (h : e.SameButStatus e') : e'.serial = e.serial := by
  rw [h.1]

theorem ReplyEntry.SameButStatus.tag_eq {e e' : ReplyEntry} (h : e.SameButStatus e') : e'.tag = e.tag := by rw [h.1]

/-- What the entries keep, whatever becomes of their DECLINEs. -/
theorem map_of_sameButStatus {α : Type} {g : ReplyEntry → α} (hg : ∀ {e e'}, e.SameButStatus e' → g e' = g e)
    {l l' : List ReplyEntry} (h : List.Forall₂ ReplyEntry.SameButStatus l l') : l'.map g = l.map g := by
  induction h with
  | nil => rfl
  | cons same _ ih => rw [List.map_cons, List.map_cons, hg same, ih]

theorem exists_of_sameButStatus {l l' : List ReplyEntry} (h : List.Forall₂ ReplyEntry.SameButStatus l l') {y : ReplyEntry}
    (hy : y ∈ l') : ∃ z ∈ l, z.SameButStatus y := by
  induction h with
  | nil => cases hy
  | cons same _ ih =>
    obtain rfl | tail := List.mem_cons.1 hy
    · exact ⟨_, List.mem_cons_self, same⟩
    · obtain ⟨z, hz, both⟩ := ih tail
      exact ⟨z, List.mem_cons_of_mem _ hz, both⟩

/-- The entry of a tag is the same one, but for where its DECLINE stands. -/
theorem find_of_sameButStatus (tag : FactoryTag) {l l' : List ReplyEntry} (h : List.Forall₂ ReplyEntry.SameButStatus l l')
    {e : ReplyEntry} (he : l.find? (fun e => decide (e.tag = tag)) = some e) :
    ∃ e', l'.find? (fun e => decide (e.tag = tag)) = some e' ∧ e.SameButStatus e' := by
  induction h with
  | nil => cases he
  | cons same _ ih =>
    rw [List.find?_cons] at he ⊢
    rw [same.tag_eq]
    split at he
    next named =>
      cases he
      exact ⟨_, rfl, same⟩
    next => exact ih he

/-! ## A DECLINE (R91) -/

/-- An entry declined for a reason, its DECLINE HELD (R91). -/
def ReplyEntry.declinedFor (why : DeclineReason) (e : ReplyEntry) : ReplyEntry :=
  { e with decline := some (why, .held), timeoutDue := false }

/-- The feeder with an entry declined and counted, before the filling (R91). -/
def Feeder.withDecline (x : Feeder) (serial : Nat) (why : DeclineReason) : Feeder :=
  { x with
    replies := x.replies.map fun e => if e.serial = serial then e.declinedFor why else e
    enrolCount := { x.enrolCount with declines := x.enrolCount.declines + 1 } }

section
variable (f : FeederId) (e : ReplyEntry) (why : DeclineReason) (s : State)

theorem declineEntry_eq : declineEntry f e why s =
    (notify (.declined f e.tag why) s).setFeeder f ((s.feeder f).withDecline e.serial why).fillOrders := by
  have noticed := notify_frame (.declined f e.tag why) (onEntry f e.serial (·.declinedFor why) s)
  have agent := notify_agent_congr (.declined f e.tag why) (s := onEntry f e.serial (·.declinedFor why) s) (t := s) rfl rfl
  have own : (notify (.declined f e.tag why) s).feeder f = s.feeder f := notify_feeder ..
  unfold declineEntry
  change fillOrders f (onEnrolCount f _ (notify (.declined f e.tag why) (onEntry f e.serial (·.declinedFor why) s))) = _
  rw [noticed, agent, notify_frame (.declined f e.tag why) s]
  simp only [fillOrders, onEnrolCount, State.onFeeder_onFeeder]
  simp [State.onFeeder, State.setFeeder, onEntry, State.feeder, Feeder.withDecline]

theorem declineEntry_feeder_self :
    (declineEntry f e why s).feeder f = ((s.feeder f).withDecline e.serial why).fillOrders := by
  rw [declineEntry_eq, State.feeder_setFeeder_self]

/-- The entry that was declined still holds its tag, with its DECLINE pending. -/
theorem entryOf_declineEntry {f : FeederId} {e : ReplyEntry} {s : State} {tag : FactoryTag}
    (h : (s.feeder f).entryOf tag = some e) :
    ∃ e', ((declineEntry f e why s).feeder f).entryOf tag = some e' ∧ e'.decline ≠ none := by
  have declined : ((s.feeder f).withDecline e.serial why).entryOf tag = some (e.declinedFor why) := by
    unfold Feeder.entryOf at h ⊢
    rw [Feeder.withDecline, List.find?_map]
    have named : ((fun x : ReplyEntry => decide (x.tag = tag)) ∘
        fun y => if y.serial = e.serial then y.declinedFor why else y) = fun y => decide (y.tag = tag) := by
      funext y
      by_cases hy : y.serial = e.serial <;> simp [hy, ReplyEntry.declinedFor]
    rw [named, h, Option.map_some, if_pos rfl]
  obtain ⟨e', found, same⟩ := find_of_sameButStatus tag
    ((s.feeder f).withDecline e.serial why).fillOrders_entries declined
  refine ⟨e', (declineEntry_feeder_self f e why s).symm ▸ found, fun none => ?_⟩
  have kind := same.2
  rw [none] at kind
  cases kind

end

/-! ## ADMIT and REFUSE (R88) -/

theorem answerQuery_of_none {f : FeederId} {tag : FactoryTag} {g : ReplyEntry → State → State × Verdict} {s : State}
    (h : (s.feeder f).entryOf tag = none) : answerQuery f tag g s = refuseWith .tooLate s := by
  rw [answerQuery, timeoutFirst_none h]
  simp only [answerable, h]

section
variable {f : FeederId} {tag : FactoryTag} {g : ReplyEntry → State → State × Verdict} {s : State} {e : ReplyEntry}
  (h : (s.feeder f).entryOf tag = some e)
include h

theorem answerQuery_of_decline (declined : e.decline ≠ none) : answerQuery f tag g s = refuseWith .tooLate s := by
  rw [answerQuery, timeoutFirst_not_due h (.inr declined)]
  simp only [answerable, h]
  rw [if_pos (by simpa [Option.isSome_iff_ne_none] using declined)]

theorem answerQuery_of_timeout (free : e.decline = none) (due : e.timeoutDue = true) :
    answerQuery f tag g s = refuseWith .tooLate (declineEntry f e .timeout s) := by
  rw [answerQuery, timeoutFirst_due h due free]
  obtain ⟨e', found, declined⟩ := entryOf_declineEntry .timeout h
  simp only [answerable, found]
  rw [if_pos (by simpa [Option.isSome_iff_ne_none] using declined)]

theorem answerQuery_of_lookup (free : e.decline = none) (early : e.timeoutDue = false) (lookup : e.status = .lookup) :
    answerQuery f tag g s = refuseWith .wrongState s := by
  rw [answerQuery, timeoutFirst_not_due h (.inl early)]
  simp [answerable, h, free, lookup]

theorem answerQuery_of_waiting (free : e.decline = none) (early : e.timeoutDue = false)
    (waiting : e.status = .waitingHost) : answerQuery f tag g s = g e s := by
  rw [answerQuery, timeoutFirst_not_due h (.inl early)]
  simp [answerable, h, free, waiting]

end

/-- A request refused after the state has moved to `x` before it was decided (R179). -/
theorem refuses_from {c : Instr} {h : MgmtHead} {kind : Nat} {D : State → State × Verdict} {s x : State} {reason : Reject}
    (ha : Accepts c h s) (he : exec c s = live s (takeRequest c h kind D)) (hD : D s = refuseWith reason x) :
    ∃ t, exec c s = .next t ∧ Answered h kind (some reason) .empty x t ∧ OnlyAnswered x t := by
  obtain ⟨h1, h2⟩ := takeRequest_accepts (kind := kind) (D := D) ha
  rw [hD] at h1 h2
  exact ⟨_, by rw [he, live, ha.1]; rfl, h1, h2⟩

theorem admitOf_eq_none {r : AdmitFields} (h : 4 < r.restriction ∨ termsOk r.preferred r.account r.profiles = false) :
    admitOf r = none := by
  unfold admitOf
  split
  · rfl
  next restriction =>
    have range : ¬ 4 < r.restriction := fun lt => by simp [restrictionOf_eq_none lt] at restriction
    exact if_pos (by simp [h.resolve_left range])

theorem admitOf_eq_some {r : AdmitFields} {o : Option FeederId} (restriction : r.restriction = restrictionCode o)
    (terms : termsOk r.preferred r.account r.profiles = true) :
    admitOf r = some ⟨r.tag, .permit, o, r.preferred, r.account, r.profiles⟩ := by
  simp [admitOf, restriction, restrictionOf_code, terms]

theorem admitOutcome_ok {p : State × Except DeclineReason Nat} {d : Nat} (h : p.2 = .ok d) :
    admitOutcome p = (p.1, .done (.assigned d)) := by
  obtain ⟨x, outcome⟩ := p
  subst h
  rfl

theorem admitOutcome_error {p : State × Except DeclineReason Nat} {why : DeclineReason} (h : p.2 = .error why) :
    admitOutcome p = (p.1, .done (.declined why)) := by
  obtain ⟨x, outcome⟩ := p
  subst h
  rfl

/-- Settles O16: an answer goes to the entry as a timeout due leaves it. -/
theorem answersSettleTheQuery : Obligations.AnswersSettleTheQuery := by
  unfold Obligations.AnswersSettleTheQuery
  refine ⟨fun h n r s ha => ?accept, fun h n tag s ha => ?refuse⟩
  case accept =>
    have he : exec (.admitReply h n r) s = live s (takeRequest (.admitReply h n r) h 7 (admitDecided n r)) := rfl
    refine ⟨fun bad => refuses_of ha he (by rw [admitDecided, FeederId.ofNat?_of_lt bad]), ?_⟩
    rintro f rfl
    refine ⟨fun bad => refuses_of ha he ?_, fun o restriction preferred account p0 p1 p2 p3 => ?_⟩
    · have wrong : 4 < r.restriction ∨ termsOk r.preferred r.account r.profiles = false := by
        rw [← Bool.not_eq_true, termsOk_iff]
        by_cases big : 4 < r.restriction
        · exact .inl big
        · refine .inr fun ⟨ok, account, p0, p1, p2, p3⟩ => ?_
          obtain h | h | ⟨p, h, far⟩ | h := bad
          · exact big h
          · have := ok 0 h
            omega
          · have := ok p h
            omega
          · omega
      rw [admitDecided, FeederId.ofNat?_toNat]
      simp only [admitOf_eq_none wrong]
    · have decided : admitDecided f.toNat r s = answerQuery f r.tag (fun e s => admitOutcome
          (permit f e ⟨r.tag, .permit, o, r.preferred, r.account, r.profiles⟩ s)) s := by
        rw [admitDecided, FeederId.ofNat?_toNat]
        simp only [admitOf_eq_some restriction ((termsOk_iff ..).2 ⟨preferred, account, p0, p1, p2, p3⟩)]
      refine ⟨fun none => refuses_of ha he (decided.trans (answerQuery_of_none none)), fun e found =>
        ⟨fun declined => refuses_of ha he (decided.trans (answerQuery_of_decline found declined)),
          fun free due => refuses_from ha he (decided.trans (answerQuery_of_timeout found free due)),
          fun free early lookup => refuses_of ha he (decided.trans (answerQuery_of_lookup found free early lookup)),
          fun free early waiting => ⟨fun d ok => ?_, fun why error => ?_⟩⟩⟩
      · exact done_of ha he (decided.trans ((answerQuery_of_waiting found free early waiting).trans (admitOutcome_ok ok)))
      · exact done_of ha he
          (decided.trans ((answerQuery_of_waiting found free early waiting).trans (admitOutcome_error error)))
  case refuse =>
    have he : exec (.refuse h n tag) s = live s (takeRequest (.refuse h n tag) h 8 (refuseDecided n tag)) := rfl
    refine ⟨fun bad => refuses_of ha he (by rw [refuseDecided, FeederId.ofNat?_of_lt bad]), ?_⟩
    rintro f rfl
    have decided : refuseDecided f.toNat tag s =
        answerQuery f tag (fun e s => (declineEntry f e .hostRefused s, .done .empty)) s := by
      rw [refuseDecided, FeederId.ofNat?_toNat]
    exact ⟨fun none => refuses_of ha he (decided.trans (answerQuery_of_none none)), fun e found =>
      ⟨fun declined => refuses_of ha he (decided.trans (answerQuery_of_decline found declined)),
        fun free due => refuses_from ha he (decided.trans (answerQuery_of_timeout found free due)),
        fun free early lookup => refuses_of ha he (decided.trans (answerQuery_of_lookup found free early lookup)),
        fun free early waiting => done_of ha he (decided.trans (answerQuery_of_waiting found free early waiting))⟩⟩

/-! ## The lookup (R86) -/

theorem exec_admissionLookup {f : FeederId} {s : State} (hr : s.resetHeld = false) : exec (.admissionLookup f) s =
    .next ((s.feeder f).nextLookup.elim s fun e => lookupEntry f e s) := by
  have arm : exec (.admissionLookup f) s = execAdmissionLookup f s := rfl
  rw [arm, execAdmissionLookup, live, hr]
  cases (s.feeder f).nextLookup <;> rfl

theorem map_onEntry_of_unique {before after : List ReplyEntry} {e : ReplyEntry} (g : ReplyEntry → ReplyEntry)
    (h : ∀ y ∈ before ++ after, y.serial ≠ e.serial) :
    (before ++ e :: after).map (fun y => if y.serial = e.serial then g y else y) = before ++ g e :: after := by
  have stays : ∀ l : List ReplyEntry, (∀ y ∈ l, y.serial ≠ e.serial) →
      l.map (fun y => if y.serial = e.serial then g y else y) = l := fun l hl =>
    (List.map_congr_left fun y hy => if_neg (hl y hy)).trans (List.map_id l)
  rw [List.map_append, List.map_cons, if_pos rfl, stays before fun y hy => h y (List.mem_append_left _ hy),
    stays after fun y hy => h y (List.mem_append_right _ hy)]

/-- Settles O40. -/
theorem lookupDecidesTheOldestEntry : Obligations.LookupDecidesTheOldestEntry := by
  unfold Obligations.LookupDecidesTheOldestEntry
  intro f s hr
  rw [exec_admissionLookup hr]
  refine ⟨fun none => ?_, fun before after e replies earlier lookup free => ?_⟩
  · have next : (s.feeder f).nextLookup = Option.none := by
      rw [Feeder.nextLookup, List.find?_eq_none]
      intro e he goes
      simp only [Bool.and_eq_true, decide_eq_true_eq, Option.isNone_iff_eq_none] at goes
      exact none e he goes.1 goes.2
    rw [next, Option.elim_none]
  · have next : (s.feeder f).nextLookup = some e := by
      rw [Feeder.nextLookup, replies, List.find?_append, List.find?_eq_none.2 fun y hy goes => ?_]
      · simp [lookup, free]
      · simp only [Bool.and_eq_true, decide_eq_true_eq, Option.isNone_iff_eq_none] at goes
        exact earlier y hy goes.1 goes.2
    rw [next, Option.elim_some]
    unfold lookupEntry
    refine ⟨fun a place => ⟨fun verdict => ?_, fun verdict => ?_⟩, fun place unique => ?_⟩
    · simp only [place, verdict]
    · simp only [place, verdict]
    · simp only [place, onEntry, State.onFeeder, replies, map_onEntry_of_unique _ unique]

/-! ## A PERMIT (R86, R89, R90) -/

theorem Feeder.resetLanes_lane {d : Nat} (hd : 1 ≤ d) (lanes : List Nat) (hl : ∀ l ∈ lanes, l < 4) (x : Feeder) {k j : Nat}
    (hk : 1 ≤ k) (hj : j < 4) : (lanes.foldl (fun x l => x.setLane d l LaneRecord.zero) x).lane k j =
      if k = d ∧ j ∈ lanes then LaneRecord.zero else x.lane k j := by
  induction lanes generalizing x with
  | nil => simp
  | cons l lanes ih =>
    rw [List.foldl_cons, ih (fun j h => hl j (List.mem_cons_of_mem l h))]
    have here : (x.setLane d l LaneRecord.zero).lane k j = if k = d ∧ j = l then LaneRecord.zero else x.lane k j := by
      simp [Feeder.lane, Feeder.setLane, Tbl.get_set, laneKey_eq_iff hk hd hj (hl l List.mem_cons_self)]
    rw [here]
    by_cases own : k = d ∧ j ∈ lanes
    · rw [if_pos own, if_pos ⟨own.1, List.mem_cons_of_mem l own.2⟩]
    · rw [if_neg own]
      refine if_congr ⟨fun h => ⟨h.1, h.2 ▸ List.mem_cons_self⟩, fun h => ⟨h.1, ?_⟩⟩ rfl rfl
      exact (List.mem_cons.1 h.2).resolve_right fun tail => own ⟨h.1, tail⟩

/-- The first element of a list with rising keys that meets a test. -/
theorem find_rising_iff {α : Type} (key : α → Nat) {l : List α} (rising : l.Pairwise fun a b => key a < key b)
    (p : α → Bool) (d : α) : l.find? p = some d ↔ d ∈ l ∧ p d = true ∧ ∀ k ∈ l, key k < key d → p k = false := by
  induction l with
  | nil => simp
  | cons e l ih =>
    obtain ⟨below, rising⟩ := List.pairwise_cons.1 rising
    rw [List.find?_cons]
    cases he : p e with
    | true =>
      simp only [Option.some_inj, List.mem_cons, forall_eq_or_imp, he]
      constructor
      · rintro rfl
        exact ⟨.inl rfl, he, fun lt => absurd lt (lt_irrefl _), fun k hk lt => absurd (below k hk) (Nat.lt_asymm lt)⟩
      · rintro ⟨rfl | listed, -, first, -⟩
        · rfl
        · exact absurd (first (below d listed)) (by simp)
    | false =>
      simp only [ih rising, List.mem_cons, forall_eq_or_imp, he]
      constructor
      · rintro ⟨listed, own, first⟩
        exact ⟨.inr listed, own, fun _ => trivial, first⟩
      · rintro ⟨rfl | listed, own, -, first⟩
        · exact absurd (own.symm.trans he) (by simp)
        · exact ⟨listed, own, first⟩

theorem dropIndices_find_iff (p : Nat → Bool) (d : Nat) : dropIndices.find? p = some d ↔
    (1 ≤ d ∧ d ≤ 64) ∧ p d = true ∧ ∀ k, 1 ≤ k → k < d → p k = false := by
  rw [find_rising_iff id dropIndices_rising, mem_dropIndices]
  refine and_congr_right fun range => and_congr_right fun _ => ?_
  exact ⟨fun h k hk lt => h k (mem_dropIndices.2 ⟨hk, by omega⟩) lt, fun h k hk => h k (mem_dropIndices.1 hk).1⟩

theorem Feeder.chooseIndex_eq_none {x : Feeder} (p : Option Nat) (h : ∀ d, x.indexFree d = false) :
    x.chooseIndex p = none := by
  have none : p.filter x.indexFree = Option.none := by
    cases p with
    | none => rfl
    | some k => exact (Option.filter_some_neg (by simp [h]))
  simp only [Feeder.chooseIndex, none]
  exact List.find?_eq_none.2 fun d _ => by simp [h]

theorem Feeder.chooseIndex_eq_some {x : Feeder} {p : Option Nat} {d : Nat} (free : x.indexFree d = true)
    (h : p = some d ∨ (∀ k, p = some k → x.indexFree k = false) ∧ ∀ k, 1 ≤ k → k < d → x.indexFree k = false) :
    x.chooseIndex p = some d := by
  obtain rfl | ⟨other, first⟩ := h
  · simp only [Feeder.chooseIndex, Option.filter_some_pos free]
  · have none : p.filter x.indexFree = Option.none := by
      cases p with
      | none => rfl
      | some k => exact Option.filter_some_neg (by simp [other k rfl])
    simp only [Feeder.chooseIndex, none]
    obtain ⟨h1, h64, -⟩ := (x.indexFree_iff d).1 free
    exact (dropIndices_find_iff _ _).2 ⟨⟨h1, h64⟩, free, first⟩

/-- The feeder as a record is created, before the filling (R89, R90). -/
def Feeder.withCreated (x : Feeder) (d serial : Nat) (r : DropRecord) : Feeder :=
  laneNumbers.foldl (fun x l => x.setLane d l LaneRecord.zero)
    { x.setDrop d r with replies := x.replies.filter fun e => decide (e.serial ≠ serial) }

theorem createRecord_eq (f : FeederId) (d : Nat) (e : ReplyEntry) (t : AdmissionEntry) (s : State) :
    createRecord f d e t s = { (bindAccount t.account f d s).setFeeder f
      ((s.feeder f).withCreated d e.serial (createdRecord e t s.cycle s.serial)).fillOrders with serial := s.serial + 1 } := by
  simp [createRecord, fillOrders, resetLanes, bindAccount, State.onAccount, State.onMeter, State.onFeeder, State.setFeeder,
    State.feeder, Feeder.withCreated]

/-- What the created record's feeder shows after the filling. -/
theorem Feeder.withCreated_spec (x : Feeder) {d : Nat} (hd : 1 ≤ d) (serial : Nat) (r : DropRecord) :
    r.SameButStatus ((x.withCreated d serial r).fillOrders.drop d) ∧
      (∀ lane, lane < 4 → (x.withCreated d serial r).fillOrders.lane d lane = LaneRecord.zero) ∧
      (x.withCreated d serial r).fillOrders.replies.map ReplyEntry.serial =
        (x.replies.filter fun e => decide (e.serial ≠ serial)).map ReplyEntry.serial := by
  obtain ⟨table, frame⟩ := Feeder.resetLanes_frame d laneNumbers
    { x.setDrop d r with replies := x.replies.filter fun e => decide (e.serial ≠ serial) }
  have reset := fun lane (hl : lane < 4) => Feeder.resetLanes_lane hd laneNumbers (by decide)
    { x.setDrop d r with replies := x.replies.filter fun e => decide (e.serial ≠ serial) } hd hl
  generalize hy : x.withCreated d serial r = y
  have unfolded := hy
  unfold Feeder.withCreated at unfolded
  rw [unfolded] at frame reset
  refine ⟨?_, fun lane hl => ?_, ?_⟩
  · have filled := y.fillOrders_drop d
    have own : y.drop d = r := by
      rw [frame]
      exact Feeder.drop_setDrop_self ..
    rwa [own] at filled
  · have kept : y.fillOrders.lanes = y.lanes := by rw [Feeder.fillOrders_frame]
    rw [Feeder.lane, kept]
    refine (reset lane hl).trans (if_pos ⟨rfl, ?_⟩)
    simp [laneNumbers]
    omega
  · rw [map_of_sameButStatus (fun same => same.serial_eq) y.fillOrders_entries, frame]

theorem permit_of_error {f : FeederId} {t : AdmissionEntry} {s : State} (e : ReplyEntry) {why : DeclineReason}
    (here : t.restriction = none ∨ t.restriction = some f) (h : decideAssignment f t s = .error why) :
    permit f e t s = (declineEntry f e why s, .error why) := by
  have own : (t.restriction.any fun g => decide (g ≠ f)) = false := by
    obtain h | h := here <;> simp [h]
  unfold permit
  simp only [own, h, Bool.false_eq_true, if_false]

theorem permit_of_ok {f : FeederId} {t : AdmissionEntry} {s : State} (e : ReplyEntry) {d : Nat}
    (here : t.restriction = none ∨ t.restriction = some f) (h : decideAssignment f t s = .ok d) :
    permit f e t s = (createRecord f d e t s, .ok d) := by
  have own : (t.restriction.any fun g => decide (g ≠ f)) = false := by
    obtain h | h := here <;> simp [h]
  unfold permit
  simp only [own, h, Bool.false_eq_true, if_false]

/-- Settles O17: the checks of a PERMIT in their order, and what a created record and a DECLINE leave. -/
theorem permitAssignsAndDeclineKeepsTheEntry : Obligations.PermitAssignsAndDeclineKeepsTheEntry := by
  unfold Obligations.PermitAssignsAndDeclineKeepsTheEntry
  refine ⟨fun f e a s => ⟨fun g restriction other => ?_, fun here => ⟨fun unloaded => ?_, fun loaded bound => ?_,
    fun loaded free => ⟨fun full => ?_, fun d h1 h64 empty idle chosen => ?_⟩⟩⟩, fun f e why s listed => ?_⟩
  · unfold permit
    exact if_pos (by simp [restriction, other])
  · refine permit_of_error e here ?_
    simp [decideAssignment, unloaded]
  · refine permit_of_error e here ?_
    simp [decideAssignment, loaded, Option.isSome_iff_ne_none, bound]
  · refine permit_of_error e here ?_
    have none : (s.feeder f).chooseIndex a.preferred = Option.none := by
      refine Feeder.chooseIndex_eq_none _ fun d => ?_
      rw [← Bool.not_eq_true, Feeder.indexFree_iff]
      rintro ⟨h1, h64, empty, idle⟩
      obtain h | h := full d h1 h64
      · exact h empty
      · exact absurd (h.symm.trans idle) (by simp)
    simp [decideAssignment, loaded, free, none]
  · have taken : ∀ k, (s.drop f k).state ≠ .empty ∨ (s.feeder f).ringHolds k = true →
        (s.feeder f).indexFree k = false := fun k h => by
      rw [← Bool.not_eq_true, Feeder.indexFree_iff]
      rintro ⟨-, -, empty, idle⟩
      exact h.elim (· empty) fun held => absurd (held.symm.trans idle) (by simp)
    have some : (s.feeder f).chooseIndex a.preferred = some d := by
      refine Feeder.chooseIndex_eq_some ((Feeder.indexFree_iff _ _).2 ⟨h1, h64, empty, idle⟩) (chosen.imp_right ?_)
      rintro ⟨other, first⟩
      refine ⟨fun k preferred => ?_, fun k hk lt => taken k (first k hk lt)⟩
      obtain out | held := other k preferred
      · rw [← Bool.not_eq_true, Feeder.indexFree_iff]
        exact fun ⟨h1, h64, _⟩ => out ⟨h1, h64⟩
      · exact taken k held
    have decided : decideAssignment f a s = .ok d := by simp [decideAssignment, loaded, free, some]
    obtain ⟨record, lanes, replies⟩ :=
      (s.feeder f).withCreated_spec h1 e.serial (createdRecord e a s.cycle s.serial)
    have created := createRecord_eq f d e a s
    generalize ((s.feeder f).withCreated d e.serial (createdRecord e a s.cycle s.serial)).fillOrders = y at *
    have own : (createRecord f d e a s).feeder f = y := by
      rw [created]
      exact State.feeder_setFeeder_self ..
    refine ⟨_, permit_of_ok e here decided, ?_, fun k hk => ?_, ?_, fun lane hl => ?_, ?_, fun g hg => ?_, ?_, ?_⟩
    · rw [created]
      exact State.account_onAccount_self s a.account fun account => { account with bound := .some (f, d) }
    · rw [created]
      exact State.account_onAccount_ne (s := s) (fun account => { account with bound := .some (f, d) }) hk
    · rw [State.drop, own]
      exact record.exists_status rfl
    · rw [own]
      exact lanes lane hl
    · rw [own]
      exact replies
    · rw [created]
      exact State.feeder_setFeeder_ne (bindAccount a.account f d s) _ _ _ hg
    · rw [created]
      rfl
    · rw [created]
      rfl
  · have entries := ((s.feeder f).withDecline e.serial why).fillOrders_entries
    have record := declineEntry_feeder_self f e why s
    have whole := declineEntry_eq f e why s
    have entry : ∀ y ∈ ((declineEntry f e why s).feeder f).replies, ∃ z ∈ (s.feeder f).replies,
        (if z.serial = e.serial then z.declinedFor why else z).SameButStatus y ∧ y.serial = z.serial := fun y hy => by
      rw [record] at hy
      obtain ⟨z', hz', same⟩ := exists_of_sameButStatus entries hy
      obtain ⟨z, hz, rfl⟩ := List.mem_map.1 hz'
      refine ⟨z, hz, same, same.serial_eq.trans ?_⟩
      split <;> rfl
    refine ⟨_, rfl, ?_, fun y hy own => ?_, fun y hy other => ?_, ?_, ?_, ?_, ?_, fun g hg => ?_⟩
    · rw [record, map_of_sameButStatus (g := fun y => (y.serial, y.tag)) (fun same => by rw [same.serial_eq, same.tag_eq])
        entries, Feeder.withDecline, List.map_map]
      refine List.map_congr_left fun y _ => ?_
      by_cases hy : y.serial = e.serial <;> simp [hy, ReplyEntry.declinedFor]
    · obtain ⟨z, -, same, serial⟩ := entry y hy
      rw [if_pos (serial ▸ own)] at same
      obtain ⟨⟨reason, status⟩, pending, rfl⟩ := Option.map_eq_some_iff.1 same.2
      exact ⟨status, pending⟩
    · obtain ⟨z, hz, same, serial⟩ := entry y hy
      rw [if_neg (serial ▸ other)] at same
      exact ⟨z, hz, same⟩
    · rw [record, Feeder.fillOrders_frame]
      rfl
    · rw [whole]
      rfl
    · rw [whole, State.setFeeder_uplink, notify_frame]
    · rw [whole]
      exact notify_meter ..
    · rw [whole, State.feeder_setFeeder_ne (h := hg), notify_feeder]

/-! ## A discovery reply taken (R82 to R84, R97) -/

theorem Feeder.holdsTag_iff (x : Feeder) (tag : FactoryTag) (d : Nat) :
    (decide ((x.drop d).state ≠ .empty) && decide ((x.drop d).tag = tag)) = true ↔
      (x.drop d).state ≠ .empty ∧ (x.drop d).tag = tag := by simp

theorem Feeder.tagIndex_eq_some (x : Feeder) (tag : FactoryTag) (d : Nat) : x.tagIndex tag = some d ↔
    (1 ≤ d ∧ d ≤ 64 ∧ (x.drop d).state ≠ .empty ∧ (x.drop d).tag = tag) ∧
      ∀ k, 1 ≤ k → k < d → ¬ ((x.drop k).state ≠ .empty ∧ (x.drop k).tag = tag) := by
  rw [Feeder.tagIndex, dropIndices_find_iff, Feeder.holdsTag_iff]
  simp only [← Bool.not_eq_true, Feeder.holdsTag_iff]
  constructor
  · rintro ⟨⟨h1, h64⟩, holds, first⟩
    exact ⟨⟨h1, h64, holds⟩, first⟩
  · rintro ⟨⟨h1, h64, holds⟩, first⟩
    exact ⟨⟨h1, h64⟩, holds, first⟩

theorem Feeder.tagIndex_eq_none (x : Feeder) (tag : FactoryTag) : x.tagIndex tag = none ↔
    ∀ d, 1 ≤ d → d ≤ 64 → ¬ ((x.drop d).state ≠ .empty ∧ (x.drop d).tag = tag) := by
  rw [Feeder.tagIndex, List.find?_eq_none]
  simp only [mem_dropIndices, Feeder.holdsTag_iff, and_imp]

/-- Another feeder that holds the tag: the first (R83). -/
theorem State.clashFeeder_eq_some (s : State) (f : FeederId) (tag : FactoryTag) (g : FeederId) :
    s.clashFeeder f tag = some g ↔
      (g ≠ f ∧ ((s.feeder g).tagQueued tag = true ∨ (s.feeder g).tagIndex tag ≠ none)) ∧
      ∀ k : FeederId, k.toNat < g.toNat →
        ¬ (k ≠ f ∧ ((s.feeder k).tagQueued tag = true ∨ (s.feeder k).tagIndex tag ≠ none)) := by
  have all : ∀ k : FeederId, k ∈ FeederId.all := fun k => by cases k <;> decide
  rw [State.clashFeeder, find_rising_iff FeederId.toNat (by decide)]
  simp only [all, true_and, forall_const, ← Bool.not_eq_true, Bool.and_eq_true, Bool.or_eq_true, decide_eq_true_eq,
    Option.isSome_iff_ne_none]

theorem State.clashFeeder_eq_none (s : State) (f : FeederId) (tag : FactoryTag) : s.clashFeeder f tag = none ↔
    ∀ g, ¬ (g ≠ f ∧ ((s.feeder g).tagQueued tag = true ∨ (s.feeder g).tagIndex tag ≠ none)) := by
  have all : ∀ k : FeederId, k ∈ FeederId.all := fun k => by cases k <;> decide
  rw [State.clashFeeder, List.find?_eq_none]
  simp only [all, forall_const, Bool.and_eq_true, Bool.or_eq_true, decide_eq_true_eq, Option.isSome_iff_ne_none]

theorem Feeder.tagQueued_iff (x : Feeder) (tag : FactoryTag) : x.tagQueued tag = true ↔ ∃ e ∈ x.replies, e.tag = tag := by
  simp [Feeder.tagQueued]

theorem Settings.discoveryRtd_eq (u : Settings) (b : Int) (k : Nat) :
    (u.discoveryRtd b k : Int) = max 0 (min (b + u.td - 32 * u.s - 2048 * k) u.td) := by
  rw [Settings.discoveryRtd]
  omega

section
variable {f : FeederId} {n : CycleNo} {tag : FactoryTag} {s : State} (lanes k : Nat) (b : Int)

theorem takeReply_of_cancelled (h : ∃ e ∈ (s.feeder f).discoveries, e.cycle = n ∧ e.live = false) :
    takeReply f n tag lanes k b s = onEnrolCount f (fun c => { c with cancelled := c.cancelled + 1 }) s := by
  unfold takeReply
  exact if_pos (by simpa using h)

variable (live : ∀ e ∈ (s.feeder f).discoveries, e.cycle = n → e.live = true)
include live

theorem takeReply_of_duplicate (h : (s.feeder f).tagQueued tag = true) :
    takeReply f n tag lanes k b s = onEnrolCount f (fun c => { c with duplicate := c.duplicate + 1 }) s := by
  unfold takeReply
  dsimp only
  rw [if_neg (by simpa using live), if_pos h]

variable (new : (s.feeder f).tagQueued tag = false)
include new

theorem takeReply_of_clash {g : FeederId} (clash : s.clashFeeder f tag = some g) : takeReply f n tag lanes k b s =
    notify (.tagClash f tag g) (onEnrolCount f (fun c => { c with clash := c.clash + 1 }) s) := by
  unfold takeReply
  dsimp only
  rw [if_neg (by simpa using live), if_neg (by simp [new]), clash]

variable (only : s.clashFeeder f tag = none)
include only

theorem takeReply_of_held {d : Nat} (held : (s.feeder f).tagIndex tag = some d)
    (dim : (s.drop f d).state.shining = false) :
    takeReply f n tag lanes k b s = onEnrolCount f (fun c => { c with heldTag := c.heldTag + 1 }) s := by
  unfold takeReply
  dsimp only
  rw [if_neg (by simpa using live), if_neg (by simp [new]), only, held]
  exact if_pos (by simpa [State.drop] using dim)

variable (heard : ∀ d, (s.feeder f).tagIndex tag = some d → (s.drop f d).state.shining = true)
include heard

theorem takeReply_of_full (full : 4 ≤ (s.feeder f).replies.length) : takeReply f n tag lanes k b s =
    setReplyOverrun f (onEnrolCount f (fun c => { c with overrun := c.overrun + 1 }) s) := by
  have lit : (((s.feeder f).tagIndex tag).all fun d => ((s.feeder f).drop d).state.shining) = true := by
    rw [Option.all_eq_true]
    exact heard
  unfold takeReply
  dsimp only
  rw [if_neg (by simpa using live), if_neg (by simp [new]), only]
  dsimp only
  rw [if_neg (by simp [lit])]
  exact if_pos full

theorem takeReply_of_room (room : (s.feeder f).replies.length < 4) : takeReply f n tag lanes k b s =
    joinReplies f n tag lanes k b (((s.feeder f).tagIndex tag).elim s fun d => freeRecord f d .reappeared s) := by
  have lit : (((s.feeder f).tagIndex tag).all fun d => ((s.feeder f).drop d).state.shining) = true := by
    rw [Option.all_eq_true]
    exact heard
  unfold takeReply
  dsimp only
  rw [if_neg (by simpa using live), if_neg (by simp [new]), only]
  dsimp only
  rw [if_neg (by simp [lit])]
  refine (if_neg (Nat.not_le.2 room)).trans ?_
  cases (s.feeder f).tagIndex tag <;> rfl

end

/-- Settles O39: the discards of a reply in their order. -/
theorem replyStepsDecideInOrder : Obligations.ReplyStepsDecideInOrder := by
  unfold Obligations.ReplyStepsDecideInOrder
  refine ⟨?holders, fun f n tag lanes k b s => ⟨takeReply_of_cancelled lanes k b, fun live => ⟨fun queued => ?_,
    fun new => ?_⟩⟩⟩
  case holders =>
    intro f tag s recorded holds held hheld hrecorded hholds
    have index : ∀ g, (s.feeder g).tagIndex tag ≠ none ↔ recorded g := fun g => by
      rw [hrecorded, ne_eq, Feeder.tagIndex_eq_none]
      simp only [hheld, not_forall, not_not, exists_prop]
      rfl
    have any : ∀ g, ((s.feeder g).tagQueued tag = true ∨ (s.feeder g).tagIndex tag ≠ none) ↔ holds g := fun g => by
      rw [hholds, index, Feeder.tagQueued_iff, or_comm]
    simp only [State.clashFeeder_eq_none, State.clashFeeder_eq_some, any]
    refine ⟨?_, fun g => ?_, ?_, fun d => ?_⟩
    · simp
    · simp [and_assoc]
    · rw [← index, not_not]
    · rw [Feeder.tagIndex_eq_some, hheld]
      refine and_congr_right fun ⟨_, h64, _⟩ => ?_
      simp only [hheld]
      refine ⟨fun h k lt ⟨h1, _, holds⟩ => h k h1 lt holds, fun h k h1 lt holds => h k lt ⟨h1, by omega, holds⟩⟩
  · exact takeReply_of_duplicate lanes k b live ((Feeder.tagQueued_iff _ _).2 queued)
  · have new : (s.feeder f).tagQueued tag = false := by
      rw [← Bool.not_eq_true, Feeder.tagQueued_iff]
      rintro ⟨e, he, own⟩
      exact new e he own
    refine ⟨fun g => takeReply_of_clash lanes k b live new, fun only =>
      ⟨fun d held dim => takeReply_of_held lanes k b live new only held dim, fun heard => ⟨?_, ?_⟩⟩⟩
    · rintro full y rfl
      rw [takeReply_of_full lanes k b live new only heard full, setReplyOverrun]
      by_cases overrun : (s.feeder f).replyOverrun = true
      · rw [if_pos (by simpa [onEnrolCount] using overrun), if_pos overrun]
        conv_rhs => rw [← overrun]
        rfl
      · rw [if_neg (by simpa [onEnrolCount] using overrun), if_neg overrun, onEnrolCount, State.onFeeder_onFeeder]
        rfl
    · rintro room u rtd rfl rfl
      refine ⟨(s.feeder f).settings.discoveryRtd b k, Settings.discoveryRtd_eq .., fun y hy => ?_⟩
      have freed : y = ((s.feeder f).tagIndex tag).elim s fun d => freeRecord f d .reappeared s := by
        rw [hy]
        cases (s.feeder f).tagIndex tag <;> rfl
      have settings : (y.feeder f).settings = (s.feeder f).settings := by
        rw [freed]
        cases (s.feeder f).tagIndex tag with
        | none => rfl
        | some d => exact (lineKept_freeRecord f d _ s).settings
      rw [takeReply_of_room lanes k b live new only heard room, ← freed, ← settings]
      exact ⟨rfl, rfl⟩

end Sys2Proof.Machine
end


section
/-! PROOFS. The onset of STUCK (R123, R130), and a WRITE of the FEEDER table (R95, R107, R120). -/

namespace Sys2Proof.Machine

/-! ## The onset of STUCK (R123, R130) -/

/-- The rogue state once STUCK has become active (R130). -/
def RogueState.alerted (r : RogueState) : RogueState := if r = .clear ∨ r = .watch then .alert else r

/-- The feeder as STUCK becomes active (R123, R124, R130). -/
def Feeder.withOnset (x : Feeder) : Feeder :=
  { x with
    stuck := some x.onsetCycle, ring := markRing x.onsetCycle x.detector.cycle x.ring, rogue := x.rogue.alerted
    lightCount := { x.lightCount with stuckOnsets := x.lightCount.stuckOnsets + 1 } }

/-- The alert that the onset of STUCK gives in CLEAR or WATCH is asked for (R130). -/
def alertStuck (f : FeederId) (rogue : RogueState) (s : State) : State :=
  if rogue = .clear ∨ rogue = .watch then notify (.rogueAlert f .stuck) s else s

section
variable {f : FeederId} {s : State}

theorem checkOnset_of_not (h : (s.feeder f).detector.measured < 25000 * (s.feeder f).settings.stuckLimit ∨
    (s.feeder f).detector.looking = false ∨ (s.feeder f).stuck ≠ none) : checkOnset f s = s := by
  unfold checkOnset
  refine if_neg ?_
  rintro ⟨looking, calm, long⟩
  have words : (s.feeder f).settings.stuckWords = (s.feeder f).settings.stuckLimit * 25000 := rfl
  rw [words] at long
  obtain short | blind | active := h
  · omega
  · exact absurd (looking.symm.trans blind) Bool.noConfusion
  · exact active (Option.isNone_iff_eq_none.1 calm)

theorem checkOnset_of_onset (long : 25000 * (s.feeder f).settings.stuckLimit ≤ (s.feeder f).detector.measured)
    (looking : (s.feeder f).detector.looking = true) (calm : (s.feeder f).stuck = none) :
    checkOnset f s = alertStuck f (s.feeder f).rogue (s.setFeeder f (s.feeder f).withOnset) := by
  have words : (s.feeder f).settings.stuckWords ≤ (s.feeder f).detector.measured := by
    have : (s.feeder f).settings.stuckWords = (s.feeder f).settings.stuckLimit * 25000 := rfl
    omega
  unfold checkOnset alertStuck
  dsimp only
  rw [if_pos ⟨looking, by rw [calm]; rfl, words⟩, Feeder.withOnset]
  by_cases quiet : (s.feeder f).rogue = .clear ∨ (s.feeder f).rogue = .watch
  · rw [if_pos quiet, if_pos quiet, RogueState.alerted, if_pos quiet, State.onFeeder_onFeeder]
    rfl
  · rw [if_neg quiet, if_neg quiet, RogueState.alerted, if_neg quiet]
    rfl

end

theorem alertStuck_feeder (f g : FeederId) (rogue : RogueState) (s : State) :
    (alertStuck f rogue s).feeder g = s.feeder g := by
  unfold alertStuck
  split
  · exact notify_feeder ..
  · rfl

/-- What the onset of STUCK does to the part: the feeder and, where it alerts, the notices. -/
theorem alertStuck_frame (f : FeederId) (rogue : RogueState) (s : State) :
    alertStuck f rogue s = { s with agent := (alertStuck f rogue s).agent } := by
  unfold alertStuck
  split
  · exact notify_frame ..
  · rfl

theorem markRing_get (onset present : CycleNo) (r : Quad (Option Slot)) (i : Nat) :
    (markRing onset present r).get i = markStuck onset present (r.get i) := by
  rcases i with _ | _ | _ | i <;> rfl

/-- Every held plan's slot under way or draining from the onset on bears STUCK (R123). -/
theorem Feeder.slotOf_withOnset (x : Feeder) (m : CycleNo) : x.withOnset.slotOf m = (x.slotOf m).map fun sl =>
    if sl.state ≠ .waiting ∧ (sl.cycle - x.onsetCycle).toNat < 2 ^ 31 ∧ (x.detector.cycle - sl.cycle).toNat < 2 ^ 31
      then { sl with light := { sl.light with stuck := true } } else sl := by
  have held : x.withOnset.ring.get (slotNumber m) = markStuck x.onsetCycle x.detector.cycle (x.ring.get (slotNumber m)) :=
    markRing_get ..
  unfold Feeder.slotOf
  rw [held]
  cases x.ring.get (slotNumber m) with
  | none => rfl
  | some sl =>
    have marked : ∀ sl : Slot, (sl.state ≠ .waiting ∧ atOrBefore x.onsetCycle sl.cycle = true ∧
        atOrBefore sl.cycle x.detector.cycle = true) ↔ (sl.state ≠ .waiting ∧
        (sl.cycle - x.onsetCycle).toNat < 2 ^ 31 ∧ (x.detector.cycle - sl.cycle).toNat < 2 ^ 31) := fun sl => by
      rw [atOrBefore, atOrBefore, decide_eq_true_eq, decide_eq_true_eq]
      rfl
    simp only [markStuck, Option.map_some, marked]
    by_cases bears : sl.state ≠ .waiting ∧
        (sl.cycle - x.onsetCycle).toNat < 2 ^ 31 ∧ (x.detector.cycle - sl.cycle).toNat < 2 ^ 31
    · simp only [if_pos bears]
      by_cases own : sl.cycle = m
      · simp only [if_pos own, Option.map_some, if_pos bears]
      · simp only [if_neg own, Option.map_none]
    · simp only [if_neg bears]
      by_cases own : sl.cycle = m
      · simp only [if_pos own, Option.map_some, if_neg bears]
      · simp only [if_neg own, Option.map_none]

/-! ## A WRITE of the FEEDER table (R95, R107, R120) -/

theorem Feeder.drop_store (x : Feeder) (u : Settings) (d : Nat) : (x.store u).drop d =
    if (x.drop d).state = .leaving then x.drop d else { x.drop d with rouse := min (x.drop d).rouse u.rouseLimit } := by
  exact Tbl.get_update DropRecord.empty (fun _ r => r.capRouse u.rouseLimit) (fun _ => DropRecord.capRouse_empty _) x.drops d

theorem sameReach_iff (a b : Settings) :
    sameReach a b = true ↔ a.td = b.td ∧ a.rtdMin = b.rtdMin ∧ a.rtdMax = b.rtdMax ∧ a.dk = b.dk := by
  simp [sameReach, and_assoc]

theorem settingsOf_eq_none (r : FeederFields) : settingsOf r = none ↔ ¬ (reachOk r = true ∧ lineSettingsOk r = true) := by
  unfold settingsOf
  split
  next ok => simpa using ok
  next bad => simpa using bad

theorem settingsOf_eq_some {r : FeederFields} {u : Settings} (h : settingsOf r = some u) :
    u = ⟨r.td, r.rtdMin, r.rtdMax, r.dk, r.poll, r.keepalive, r.period, r.timeout, r.declineHold, r.idleLimit,
      r.missLimit, r.rouseInterval, r.rouseLimit, r.filter, r.stuckLimit, r.alertLimit, r.strikeLimit, r.observe,
      decide (r.autoIsolate = 0)⟩ := by
  unfold settingsOf at h
  split at h
  · exact (Option.some.inj h).symm
  · cases h

theorem writeFeeder_badIndex {n : Nat} (r : FeederFields) (s : State) (h : 3 < n) :
    writeFeeder n r s = refuseWith .badIndex s := by rw [writeFeeder, FeederId.ofNat?_of_lt h]

theorem writeFeeder_badValue (f : FeederId) {r : FeederFields} (s : State) (h : settingsOf r = none) :
    writeFeeder f.toNat r s = refuseWith .badValue s := by
  rw [writeFeeder, FeederId.ofNat?_toNat]
  simp only [h]

theorem writeFeeder_of_settings (f : FeederId) {r : FeederFields} {u : Settings} (s : State) (h : settingsOf r = some u) :
    writeFeeder f.toNat r s =
      if (s.feeder f).running = true ∧ ¬ (u.td = (s.feeder f).settings.td ∧ u.rtdMin = (s.feeder f).settings.rtdMin ∧
        u.rtdMax = (s.feeder f).settings.rtdMax ∧ u.dk = (s.feeder f).settings.dk) then refuseWith .wrongState s
      else (checkOnset f (s.setFeeder f ((s.feeder f).store u)), .done (.feeder u)) := by
  rw [writeFeeder, FeederId.ofNat?_toNat]
  simp only [h, ← sameReach_iff, Bool.not_eq_true']
  exact if_congr (by simp) rfl rfl

/-- Settles O13: the checks in their order, the settings stored, and the onset that a lowered limit brings. -/
theorem feederWriteKeepsTheReachOfARun : Obligations.FeederWriteKeepsTheReachOfARun := by
  unfold Obligations.FeederWriteKeepsTheReachOfARun
  refine ⟨fun r => ?_, fun h n r s ha => ?_⟩
  · rw [settingsOf_eq_none]
    refine not_congr ?_
    simp only [reachOk, lineSettingsOk, Bool.and_eq_true, Bool.or_eq_true, decide_eq_true_eq, within_iff, and_assoc, or_assoc]
  · have he : exec (.writeFeeder h n r) s = live s (takeRequest (.writeFeeder h n r) h 3 (writeFeeder n r)) := rfl
    refine ⟨fun bad => refuses_of ha he (writeFeeder_badIndex r s bad), ?_⟩
    rintro f rfl
    refine ⟨fun bad => refuses_of ha he (writeFeeder_badValue f s bad), fun u given => ?_⟩
    have decided := writeFeeder_of_settings f s given
    refine ⟨settingsOf_eq_some given, fun running moved => refuses_of ha he (decided.trans (if_pos ⟨running, moved⟩)),
      fun may => ?_⟩
    rw [if_neg fun ⟨running, moved⟩ => may.elim (fun stopped => absurd (running.symm.trans stopped) Bool.noConfusion) moved]
      at decided
    generalize stored : s.setFeeder f ((s.feeder f).store u) = y at decided
    have record : y.feeder f = (s.feeder f).store u := by rw [← stored, State.feeder_setFeeder_self]
    have drops : ∀ d, (y.feeder f).drop d = if ((s.feeder f).drop d).state = .leaving then (s.feeder f).drop d
        else { (s.feeder f).drop d with rouse := min ((s.feeder f).drop d).rouse u.rouseLimit } := fun d => by
      rw [record, Feeder.drop_store]
    by_cases onset : 25000 * u.stuckLimit ≤ (s.feeder f).detector.measured ∧
        (s.feeder f).detector.looking = true ∧ (s.feeder f).stuck = none
    · obtain ⟨long, looking, calm⟩ := onset
      have begins := checkOnset_of_onset (f := f) (s := y) (by rwa [record]) (by rwa [record]) (by rwa [record])
      have rogue : (y.feeder f).rogue = (s.feeder f).rogue := by rw [record]; rfl
      rw [begins, rogue] at decided
      have own : (alertStuck f (s.feeder f).rogue (y.setFeeder f (y.feeder f).withOnset)).feeder f =
          (y.feeder f).withOnset := by rw [alertStuck_feeder, State.feeder_setFeeder_self]
      refine ⟨_, done_of ha he decided, ?_, fun d => ?_, fun not => ?_, fun past onset _ _ _ hpast honset => ?_⟩
      · rw [own, record]
        rfl
      · rw [own, ← drops]
        rfl
      · obtain short | blind | active := not
        · omega
        · exact absurd (looking.symm.trans blind) Bool.noConfusion
        · exact absurd calm active
      · have since : (y.feeder f).onsetCycle = onset := by
          rw [honset, hpast, record, Nat.mul_comm 25000]
          rfl
        have cycle : (y.feeder f).detector = (s.feeder f).detector := by rw [record]; rfl
        refine ⟨?_, fun m => ?_, fun g hg => ?_, ?_, ?_⟩
        · rw [own, Feeder.withOnset, since, record]
          rfl
        · rw [own, Feeder.slotOf_withOnset, since, cycle]
          have slot : (y.feeder f).slotOf m = (s.feeder f).slotOf m := by rw [record]; rfl
          rw [slot]
        · rw [alertStuck_feeder, State.feeder_setFeeder_ne (h := hg), ← stored, State.feeder_setFeeder_ne (h := hg)]
        · rw [alertStuck_frame, ← stored]
          rfl
        · rw [← stored]
          unfold alertStuck
          split
          · exact notify_agent_congr _ rfl rfl
          · rfl
    · have stays := checkOnset_of_not (f := f) (s := y) (by
        rw [record]
        by_contra all
        obtain ⟨long, all⟩ := not_or.1 all
        obtain ⟨looking, calm⟩ := not_or.1 all
        exact onset ⟨Nat.not_lt.1 long, by simpa [Feeder.store] using looking, by simpa [Feeder.store] using calm⟩)
      rw [stays] at decided
      refine ⟨y, done_of ha he decided, by rw [record]; rfl, drops, fun _ => ?_,
        fun past since long looking calm _ _ => absurd ⟨long, looking, calm⟩ onset⟩
      rw [record, ← stored]
      rfl

end Sys2Proof.Machine
end


section
/-! PROOFS. What is due and the commands that take it (R69, R87, R110, R126), the quarter boundary and the close pass
(R165, R169 to R175), and what a cycle start counts. -/

namespace Sys2Proof.Machine

/-! ## DOZE, ADMISSION_TIMEOUT, REASSEMBLY_AGE_OUT and STRIKE_DECAY -/

theorem mem_enabledLanes {r : DropRecord} {l : Nat} :
    l ∈ r.enabledLanes ↔ r.state ≠ .empty ∧ l < 4 ∧ r.profiles.get l ≠ 0 := by
  unfold DropRecord.enabledLanes
  split
  next empty => simp [empty]
  next other =>
    rw [List.mem_filter, decide_eq_true_eq, mem_laneNumbers]
    exact (and_iff_right other).symm

theorem State.hasFixedLane_iff (s : State) (r : DropRecord) : s.hasFixedLane r = true ↔ r.state ≠ .empty ∧
    ∃ lane, lane < 4 ∧ r.profiles.get lane ≠ 0 ∧ (s.profile (r.profiles.get lane)).cls = .fixed := by
  simp only [State.hasFixedLane, List.any_eq_true, mem_enabledLanes, decide_eq_true_eq]
  constructor
  · rintro ⟨l, ⟨present, low, on⟩, fixed⟩
    exact ⟨present, l, low, on, fixed⟩
  · rintro ⟨present, l, low, on, fixed⟩
    exact ⟨l, ⟨present, low, on⟩, fixed⟩

/-- The condition of the doze test (R110). -/
def Dozes (f : FeederId) (d : Nat) (s : State) : Prop :=
  (s.drop f d).dozeDue = true ∧ (s.feeder f).running = true ∧ (s.drop f d).state = .active ∧
    (s.feeder f).settings.idleLimit ≤ (s.drop f d).idle ∧
    ∀ lane, lane < 4 → (s.drop f d).profiles.get lane ≠ 0 → (s.profile ((s.drop f d).profiles.get lane)).cls ≠ .fixed

theorem dozeTest_of_dozes {f : FeederId} {d : Nat} {s : State} (h : Dozes f d s) :
    dozeTest f s d = s.onDrop f d fun r => { r with state := .dozing, dozeDue := false } := by
  obtain ⟨due, running, active, idle, free⟩ := h
  have unfixed : s.hasFixedLane (s.drop f d) = false := by
    rw [← Bool.not_eq_true, State.hasFixedLane_iff]
    rintro ⟨-, l, low, on, fixed⟩
    exact free l low on fixed
  unfold dozeTest
  dsimp only
  rw [if_neg (by simp [due]), if_pos ⟨running, active, idle, by simp [unfixed]⟩]

theorem dozeTest_of_not {f : FeederId} {d : Nat} {s : State} (h : ¬ Dozes f d s) :
    dozeTest f s d = s ∧ (s.drop f d).dozeDue = false ∨
      dozeTest f s d = s.onDrop f d fun r => { r with dozeDue := false } := by
  unfold dozeTest
  dsimp only
  by_cases due : (s.drop f d).dozeDue = true
  · right
    rw [if_neg (by simp [due]), if_neg]
    rintro ⟨running, active, idle, unfixed⟩
    refine h ⟨due, running, active, idle, fun l low on fixed => ?_⟩
    have fixedLane := (s.hasFixedLane_iff (s.drop f d)).2 ⟨by rw [active]; decide, l, low, on, fixed⟩
    rw [fixedLane] at unfixed
    cases unfixed
  · exact .inl ⟨if_pos (by simpa using due), by simpa using due⟩

theorem timeoutEntry_eq (f : FeederId) (s : State) (e : ReplyEntry) : timeoutEntry f s e =
    if e.timeoutDue = true ∧ e.decline = none then declineEntry f e .timeout s else s := by
  unfold timeoutEntry
  exact if_congr (by rw [Option.isNone_iff_eq_none]) rfl rfl

/-- A partial frame that is due to age out is discarded and counted (R69). -/
theorem ageOutSlot_of_old {f : FeederId} {d lane : Nat} {s : State} {p : Partial}
    (h : (s.feeder f).partialFrame d lane = some p) (old : 4000 ≤ (s.cycle - p.arrival).toNat) :
    ageOutSlot f s (d, lane) = s.setFeeder f { (s.feeder f).setPartial d lane none with
      upCount := { (s.feeder f).upCount with agedOut := (s.feeder f).upCount.agedOut + 1 } } := by
  unfold ageOutSlot State.onFeeder
  simp only [h]
  rw [if_pos (show Config.longCycles ≤ cyclesFrom p.arrival s.cycle from old), discardPartial, if_pos (by rw [h]; rfl)]

theorem ageOutSlot_of_young {f : FeederId} {d lane : Nat} {s : State}
    (h : ∀ p, (s.feeder f).partialFrame d lane = some p → (s.cycle - p.arrival).toNat < 4000) :
    ageOutSlot f s (d, lane) = s := by
  cases held : (s.feeder f).partialFrame d lane with
  | none =>
    simp only [ageOutSlot, State.onFeeder, held]
    exact State.setFeeder_feeder ..
  | some p =>
    have young : ¬ Config.longCycles ≤ cyclesFrom p.arrival s.cycle := Nat.not_le.2 (h p held)
    simp only [ageOutSlot, State.onFeeder, held, if_neg young]
    exact State.setFeeder_feeder ..

theorem strikeDecay_of_not_due {f : FeederId} {s : State} (h : (s.feeder f).decayDue = false) : strikeDecay f s = s := by
  unfold strikeDecay State.onFeeder
  refine (congrArg (s.setFeeder f) (if_neg (by simp [h]))).trans ?_
  exact State.setFeeder_feeder ..

theorem exec_live {c : Instr} {g : State → State} {s : State} (arm : exec c s = live s g) (h : s.resetHeld = false) :
    exec c s = .next (g s) := by rw [arm, live, h]; rfl

theorem strikeDecay_drop {f : FeederId} {s : State} (due : (s.feeder f).decayDue = true) (d : Nat) :
    (strikeDecay f s).drop f d = (s.drop f d).decayed := by
  rw [strikeDecay, State.drop, State.feeder_onFeeder_self, if_pos due]
  exact Tbl.get_update DropRecord.empty (fun _ r => r.decayed) (fun _ => rfl) (s.feeder f).drops d

/-- Settles O32. -/
theorem dueWorkIsDoneByItsCommand : Obligations.DueWorkIsDoneByItsCommand := by
  unfold Obligations.DueWorkIsDoneByItsCommand
  refine ⟨fun f d s hr => ?doze, fun f e s hr only => ?timeout, fun f d lane s hr hd hl => ?ageOut, fun f s hr => ?decay⟩
  case doze =>
    have run := exec_live (c := .doze f d) (g := fun s => dozeTest f s d) rfl hr
    have others : ∀ g : DropRecord → DropRecord, ∀ k, k ≠ d → (s.onDrop f d g).drop f k = s.drop f k := fun g k hk =>
      State.drop_onDrop_ne (h := hk) ..
    have frame : ∀ g : DropRecord → DropRecord, s.onDrop f d g =
        s.setFeeder f { s.feeder f with drops := ((s.onDrop f d g).feeder f).drops } := fun g => by
      rw [State.onDrop, State.feeder_onFeeder_self]
      rfl
    refine ⟨fun due running active idle free => ?_, fun not => ?_⟩
    · rw [dozeTest_of_dozes ⟨due, running, active, idle, free⟩] at run
      exact ⟨_, run, State.drop_onDrop_self .., others _, frame _⟩
    · have stays : ¬ Dozes f d s := by
        rintro ⟨due, running, active, idle, free⟩
        obtain h | h | h | h | ⟨l, low, on, fixed⟩ := not
        · exact absurd (due.symm.trans h) Bool.noConfusion
        · exact absurd (running.symm.trans h) Bool.noConfusion
        · exact h active
        · omega
        · exact free l low on fixed
      obtain ⟨same, off⟩ | cleared := dozeTest_of_not stays
      · rw [same] at run
        refine ⟨s, run, ?_, fun _ _ => rfl, (State.setFeeder_feeder ..).symm⟩
        rw [← off]
      · rw [cleared] at run
        exact ⟨_, run, State.drop_onDrop_self .., others _, frame _⟩
  case timeout =>
    have run := exec_live (c := .admissionTimeout f e.tag)
      (g := fun s => ((s.feeder f).replies.filter fun y => decide (y.tag = e.tag)).foldl (timeoutEntry f) s) rfl hr
    rw [only] at run
    simp only [List.foldl_cons, List.foldl_nil, timeoutEntry_eq] at run
    refine ⟨fun due free => run.trans (congrArg _ (if_pos ⟨due, free⟩)), fun not => run.trans (congrArg _ (if_neg ?_))⟩
    rintro ⟨due, free⟩
    exact not.elim (fun early => absurd (due.symm.trans early) Bool.noConfusion) fun declined => declined free
  case ageOut =>
    have run := exec_live (c := .reassemblyAgeOut f d lane) (g := fun s => ageOutSlot f s (d, lane)) rfl hr
    refine ⟨fun p held old => ?_, fun young => by rw [run, ageOutSlot_of_young young]⟩
    rw [ageOutSlot_of_old held old] at run
    refine ⟨_, run, ?_, fun k l hk hlow other => ?_, ?_⟩
    · rw [State.feeder_setFeeder_self]
      exact (Feeder.partialFrame_setPartial (x := s.feeder f) (p := none) hd hd hl hl).trans (if_pos ⟨rfl, rfl⟩)
    · rw [State.feeder_setFeeder_self]
      refine (Feeder.partialFrame_setPartial (x := s.feeder f) (p := none) hd hk hl hlow).trans (if_neg ?_)
      rintro ⟨rfl, rfl⟩
      exact other.elim (· rfl) (· rfl)
    · rw [State.feeder_setFeeder_self]
      rfl
  case decay =>
    have run := exec_live (c := .strikeDecay f) (g := strikeDecay f) rfl hr
    refine ⟨fun due => ⟨_, run, fun d => ?_, ?_⟩, fun early => by rw [run, strikeDecay_of_not_due early]⟩
    · rw [strikeDecay_drop due]
      rfl
    · unfold strikeDecay
      rw [State.feeder_onFeeder_self, State.onFeeder, if_pos due]

/-! ## The quarter boundary and the close pass (R165, R169 to R173) -/

theorem TariffClock.nextQuarter_eq (c : TariffClock) : c.nextQuarter =
    ⟨if c.quarter < 95 then c.day else (c.day + 1) % 65536, if c.quarter < 95 then c.quarter + 1 else 0, 0,
      c.closeEvery⟩ := by
  unfold TariffClock.nextQuarter
  by_cases h : c.quarter < 95
  · rw [if_pos (by omega), if_pos h, if_pos h]
  · rw [if_neg (by omega), if_neg h, if_neg h]

theorem quarterBoundary_plan {s : State} (due : s.meter.boundaryDue = true) (n : Nat) :
    (quarterBoundary s).tariffPlan n = (s.tariffPlan n).activate := by
  rw [quarterBoundary, if_neg (by simp [due])]
  exact Tbl.get_update TariffPlan.reset (fun _ p => p.activate) (fun _ => rfl) s.meter.plans n

theorem arbitrate_onMeter (g : Meter → Meter) (s : State) : arbitrate (s.onMeter g) = (arbitrate s).onMeter g := by
  unfold arbitrate
  rw [State.onMeter_uplink]
  by_cases free : s.uplink.linkUp = true ∧ s.uplink.sending = none
  · rw [if_pos free, if_pos free]
    rfl
  · rw [if_neg free, if_neg free]

/-- The pass after the step at cursor `c` (R170). -/
def ClosePass.next (p : ClosePass) : Option ClosePass := if p.cursor < 255 then some ⟨p.cursor + 1, p.stamp⟩ else none

theorem closeStep_of_pass {s : State} {p : ClosePass} (h : s.meter.pass = some p) : closeStep s =
    (if (s.account p.cursor).loaded then closeAccount p.cursor p.stamp s else s).onMeter
      fun m => { m with pass := p.next } := by
  have next : (if p.cursor + 1 < Config.accountSlots then some { p with cursor := p.cursor + 1 } else none) = p.next := by
    have slots : Config.accountSlots = 256 := rfl
    rw [ClosePass.next]
    exact if_congr (by omega) rfl rfl
  simp only [closeStep, h, next]

/-- The state as a record joins the queue (R172). -/
def recordJoined (r : Statement) (s : State) : State :=
  s.onMeter fun m => { m with queue := m.queue ++ [r], nextNumber := m.nextNumber + 1 }

theorem appendStatement_stays {r : Statement} {s : State} (h : s.meter.queue ≠ [] ∨ s.meter.held = true ∨
    4 ≤ s.meter.exportCount ∨ 8 ≤ s.uplink.statements.length) : appendStatement r s = recordJoined r s := by
  rw [appendStatement]
  split
  next empty =>
    have none : exportNumber (recordJoined r s) = 0 :=
      (exportNumber_eq_zero _).2 (.inr (h.resolve_left fun some => some (List.isEmpty_iff.1 empty)))
    exact if_pos none
  next => rfl

theorem appendStatement_goes {r : Statement} {s : State} (empty : s.meter.queue = []) (running : s.meter.held = false)
    (few : s.meter.exportCount < 4) (places : s.uplink.statements.length < 8) :
    appendStatement r s = arbitrate { s with
      meter := { s.meter with
        nextNumber := s.meter.nextNumber + 1, exportCount := s.meter.exportCount + 1, exported := s.meter.exported + 1 }
      uplink := { s.uplink with statements := s.uplink.statements ++ [r] } } := by
  have one : exportNumber (recordJoined r s) = 1 := by
    have hfew : s.meter.exportCount < Config.exportsPerCycle := few
    have hplaces : s.uplink.statements.length < Config.classPlaces := places
    simp only [exportNumber, recordJoined, State.onMeter_meter, State.onMeter_uplink, running, empty,
      List.nil_append, List.length_singleton, Bool.false_eq_true, if_false]
    omega
  have records : exportRecords (recordJoined r s) = { s with
      meter := { s.meter with
        nextNumber := s.meter.nextNumber + 1, exportCount := s.meter.exportCount + 1, exported := s.meter.exported + 1 }
      uplink := { s.uplink with statements := s.uplink.statements ++ [r] } } := by
    rw [exportRecords, one]
    simp [exportFirst, recordJoined, State.onMeter, State.onUplink, empty]
  rw [appendStatement, if_pos (by simp [empty])]
  change exportAndSend (recordJoined r s) = _
  rw [exportAndSend, one, if_neg (by decide), records]

theorem appendStatement_account (r : Statement) (s : State) (k : Nat) :
    (appendStatement r s).account k = s.account k := by
  unfold appendStatement
  dsimp only
  split
  · change (exportAndSend (recordJoined r s)).account k = s.account k
    obtain ⟨same, -⟩ | ⟨-, sent⟩ := exportAndSend_cases (recordJoined r s)
    · rw [same]
      rfl
    · rw [sent, State.account, arbitrate_meter]
      rfl
  · rfl

theorem closeSteps_none (n : Nat) {s : State} (h : s.meter.pass = none) : closeSteps n s = s := by
  cases n with
  | zero => rfl
  | succ n => rw [closeSteps, if_neg (by simp [h])]

theorem closeThrough_step {j : Nat} {s : State} {p : ClosePass} (h : s.meter.pass = some p) (hj : p.cursor ≤ j) :
    closeThrough j s = closeThrough j (closeStep s) := by
  have moved : (closeStep s).meter.pass = p.next := by rw [closeStep_of_pass h, State.onMeter_meter]
  obtain ⟨k, hk⟩ : ∃ k, j + 1 - p.cursor = k + 1 := ⟨j - p.cursor, by omega⟩
  have first : closeThrough j s = closeSteps k (closeStep s) := by
    simp only [closeThrough, h, hk]
    rw [closeSteps, if_pos (by simp [h])]
  rw [first]
  unfold ClosePass.next at moved
  split at moved
  · have rest : j + 1 - (p.cursor + 1) = k := by omega
    simp only [closeThrough, moved, rest]
  · rw [closeSteps_none k moved, closeThrough_none moved]

/-- Settles O33. -/
theorem boundaryAndClosePassKeepTheBooks : Obligations.BoundaryAndClosePassKeepTheBooks := by
  unfold Obligations.BoundaryAndClosePassKeepTheBooks
  refine ⟨fun s hr => ?boundary, fun s hr => ?step, fun j n s hr => ?through⟩
  case boundary =>
    have run := exec_live (c := .quarterBoundary) (g := quarterBoundary) rfl hr
    refine ⟨fun early => by rw [run, quarterBoundary_not_due early], ?_⟩
    rintro q day due rfl rfl
    refine ⟨_, run, ?_, fun n => ?_⟩
    · rw [quarterBoundary, if_neg (by simp [due])]
      simp only [State.onMeter, TariffClock.nextQuarter_eq]
    · rw [quarterBoundary_plan due]
      obtain ⟨active, _ | c⟩ := s.tariffPlan n <;> rfl
  case step =>
    have run := exec_live (c := .closeStep) (g := closeStep) rfl hr
    refine ⟨fun none => by rw [run]; simp only [closeStep, none], ?_⟩
    rintro p a next pass rfl hnext
    change next = p.next at hnext
    subst hnext
    rw [closeStep_of_pass pass] at run
    refine ⟨fun unloaded => ?_, fun r loaded room hr => ?_, fun loaded full => ?_⟩
    · rw [run, if_neg (by simp [unloaded]), State.onMeter]
    · rw [if_pos loaded, closeAccount, if_pos (show s.meter.queue.length < Config.statementPlaces from room)] at run
      have record : (s.account p.cursor).statement s.meter.nextNumber p.cursor p.stamp = r := hr.symm
      rw [record] at run
      refine ⟨_, run, fun stays => ?_, fun empty running few places => ?_, ?_, fun k hk => ?_⟩
      · rw [appendStatement_stays stays]
        rfl
      · rw [appendStatement_goes empty running few places, State.onAccount, ← arbitrate_onMeter, ← arbitrate_onMeter,
          arbitrate_meter]
        rfl
      · refine (State.account_onAccount_self (appendStatement r s) p.cursor Account.closed).trans ?_
        rw [appendStatement_account]
        rfl
      · exact (State.account_onAccount_ne Account.closed hk).trans (appendStatement_account r s k)
    · rw [if_pos loaded, closeAccount, if_neg (show ¬ s.meter.queue.length < Config.statementPlaces from Nat.not_lt.2 full)]
        at run
      refine ⟨_, run, rfl, ?_, fun k hk => ?_⟩
      · exact State.account_onAccount_self ..
      · exact State.account_onAccount_ne _ hk
  case through =>
    have run := exec_live (c := .closeStep) (g := closeStep) rfl hr
    refine ⟨closeThrough_none, fun p pass => ⟨fun past => ?_, fun ahead => ⟨_, run, closeThrough_step pass ahead⟩⟩⟩
    have zero : j + 1 - p.cursor = 0 := by omega
    change closeThrough j s = s
    simp only [closeThrough, pass, zero, closeSteps]

end Sys2Proof.Machine
end


section
/-! PROOFS. What a cycle start counts (R87, R110, R126, R146, R164, R165, R173, R176). -/

namespace Sys2Proof.Machine

/-! ## The counts of one feeder (R87, R110, R126) -/

theorem countIdle_of_stopped {f : FeederId} {s : State} (h : (s.feeder f).running = false) : countIdle f s = s :=
  (congrArg (s.setFeeder f) (if_neg (by simp [h]))).trans (State.setFeeder_feeder ..)

theorem countIdle_drop {f : FeederId} {s : State} (h : (s.feeder f).running = true) (d : Nat) :
    (countIdle f s).drop f d = (s.drop f d).countIdle (s.feeder f).settings.idleLimit := by
  rw [countIdle, State.drop, State.feeder_onFeeder_self, if_pos h]
  exact Tbl.get_update DropRecord.empty (fun _ r => r.countIdle (s.feeder f).settings.idleLimit) (fun _ => rfl)
    (s.feeder f).drops d

theorem countDecay_of_stopped {f : FeederId} {s : State} (h : (s.feeder f).running = false) : countDecay f s = s :=
  (congrArg (s.setFeeder f) (if_pos (by simp [h]))).trans (State.setFeeder_feeder ..)

theorem countDecay_of_running {f : FeederId} {s : State} (h : (s.feeder f).running = true) :
    countDecay f s = s.setFeeder f { s.feeder f with
      decay := if (s.feeder f).decay + 1 < 4000 then (s.feeder f).decay + 1 else (s.feeder f).decay
      decayDue := (s.feeder f).decayDue || decide (4000 ≤ (s.feeder f).decay + 1) } := by
  rw [countDecay, State.onFeeder]
  refine congrArg (s.setFeeder f) ((if_neg (by simp [h])).trans ?_)
  by_cases early : (s.feeder f).decay + 1 < 4000
  · have notDue : decide (4000 ≤ (s.feeder f).decay + 1) = false := decide_eq_false (Nat.not_le.2 early)
    rw [if_pos early, notDue, Bool.or_false]
    exact if_pos early
  · have due : decide (4000 ≤ (s.feeder f).decay + 1) = true := decide_eq_true (Nat.not_lt.1 early)
    rw [if_neg early, due, Bool.or_true]
    exact if_neg early

theorem growQueryAges_eq (f : FeederId) (s : State) : growQueryAges f s =
    s.setFeeder f { s.feeder f with replies := (s.feeder f).replies.map fun e =>
      if e.status = .waitingHost ∧ e.decline = none then
        { e with age := e.age + 1, timeoutDue := decide ((s.feeder f).settings.timeout ≤ e.age + 1) }
      else e } := by
  have entry : ∀ e : ReplyEntry, e.grow (s.feeder f).settings.timeout =
      if e.status = .waitingHost ∧ e.decline = none then
        { e with age := e.age + 1, timeoutDue := decide ((s.feeder f).settings.timeout ≤ e.age + 1) }
      else e := fun e => if_congr (and_congr_right fun _ => Option.isNone_iff_eq_none) rfl rfl
  simp only [growQueryAges, State.onFeeder, entry]

theorem queryTimeouts_eq (f : FeederId) (s : State) : queryTimeouts f s =
    ((s.feeder f).replies.filter fun e => e.timeoutDue && e.decline.isNone).foldl
      (fun y e => declineEntry f e .timeout y) s := by
  rw [List.foldl_filter, queryTimeouts]
  refine congrArg (fun g => List.foldl g s (s.feeder f).replies) (funext fun y => funext fun e => ?_)
  exact if_congr (by rw [Bool.and_eq_true]) rfl rfl

/-! ## The counts of the accounts, the clock and the records exported (R146, R164, R165, R173) -/

theorem refillBuckets_account (s : State) (k : Nat) : (refillBuckets s).account k = { s.account k with
    bucket := if (s.account k).loaded = true ∧ (s.account k).state = .throttled
      then min ((s.account k).bucket + (s.account k).floorRate) (4 * (s.account k).floorRate)
      else (s.account k).bucket } := by
  have updated : (refillBuckets s).account k = (s.account k).refill :=
    Tbl.get_update Account.reset (fun _ a => a.refill) (fun _ => rfl) s.meter.accounts k
  rw [updated, Account.refill]
  split <;> rfl

/-- An account after one outage cycle is counted, if its bound drop is DARKENED (R164). -/
def Account.outageCounted (s : State) (a : Account) : Account :=
  match a.bound with
  | some (f, d) =>
    if a.loaded ∧ (s.drop f d).state = .darkened then { a with outage := min (a.outage + 1) Config.max32 } else a
  | none => a

theorem countOutage_account (s : State) (k : Nat) : (countOutage s).account k = (s.account k).outageCounted s :=
  Tbl.get_update Account.reset (fun _ a => a.outageCounted s) (fun _ => rfl) s.meter.accounts k

theorem countQuarter_eq (s : State) : countQuarter s = { s with meter := { s.meter with
    clock := { s.meter.clock with
      count := if s.meter.clock.count + 1 < 3600000 then s.meter.clock.count + 1 else s.meter.clock.count }
    boundaryDue := s.meter.boundaryDue || decide (3600000 ≤ s.meter.clock.count + 1) } } := by
  rw [countQuarter, State.onMeter]
  by_cases early : s.meter.clock.count + 1 < 3600000
  · have notDue : decide (3600000 ≤ s.meter.clock.count + 1) = false := decide_eq_false (Nat.not_le.2 early)
    rw [if_pos early, notDue, Bool.or_false]
    exact congrArg (fun m => { s with meter := m }) (if_pos early)
  · have due : decide (3600000 ≤ s.meter.clock.count + 1) = true := decide_eq_true (Nat.not_lt.1 early)
    rw [if_neg early, due, Bool.or_true]
    exact congrArg (fun m => { s with meter := m }) (if_neg early)

theorem exportCounted_number {s : State} {k : Nat} (hk : k = (if s.meter.held = true then 0
    else min 4 (min s.meter.queue.length (8 - s.uplink.statements.length)))) :
    exportNumber (s.onMeter fun m => { m with exportCount := 0 }) = k := by
  rw [hk]
  rfl

/-! ## What a cycle start makes due, taken by its commands (R69, R110) -/

theorem dozeTest_resetHeld (f : FeederId) (d : Nat) (s : State) : (dozeTest f s d).resetHeld = s.resetHeld := by
  by_cases h : Dozes f d s
  · rw [dozeTest_of_dozes h]
    rfl
  · obtain ⟨same, -⟩ | cleared := dozeTest_of_not h
    · rw [same]
    · rw [cleared]
      rfl

theorem ran_dozes (f : FeederId) {s : State} (hr : s.resetHeld = false) :
    Ran ((List.range 64).map fun k => .doze f (k + 1)) s (dozeTests f s) := by
  have ran := Ran.foldl (c := fun d => .doze f d) (g := dozeTest f) (fun _ _ => rfl) (fun d s => dozeTest_resetHeld f d s)
    dropIndices hr
  rw [dropIndices, List.map_map] at ran
  exact ran

theorem ageOuts_feeder_ne {f g : FeederId} (s : State) (h : g ≠ f) : (ageOuts f s).feeder g = s.feeder g := by
  unfold ageOuts
  generalize (s.feeder f).reassembly.map _ = l
  induction l generalizing s with
  | nil => rfl
  | cons k l ih => exact (ih _).trans (State.feeder_onFeeder_ne (h := h) ..)

theorem ageOuts_resetHeld (f : FeederId) (s : State) : (ageOuts f s).resetHeld = s.resetHeld := by
  unfold ageOuts
  generalize (s.feeder f).reassembly.map _ = l
  induction l generalizing s with
  | nil => rfl
  | cons k l ih => exact ih _

theorem ran_ageOuts (f : FeederId) {s : State} (hr : s.resetHeld = false) :
    Ran ((s.feeder f).reassembly.map fun e => .reassemblyAgeOut f (e.1 / 4 + 1) (e.1 % 4)) s (ageOuts f s) := by
  have ran := Ran.foldl (c := fun k : Nat × Nat => .reassemblyAgeOut f k.1 k.2) (g := ageOutSlot f) (fun _ _ => rfl)
    (fun _ _ => rfl) ((s.feeder f).reassembly.map fun e => (e.1 / 4 + 1, e.1 % 4)) hr
  rw [List.map_map] at ran
  exact ran

theorem ran_allAgeOuts {l : List FeederId} (nodup : l.Nodup) {s : State} (hr : s.resetHeld = false) :
    Ran (l.flatMap fun f => (s.feeder f).reassembly.map fun e => .reassemblyAgeOut f (e.1 / 4 + 1) (e.1 % 4)) s
      (l.foldl (fun s f => ageOuts f s) s) := by
  induction l generalizing s with
  | nil => rfl
  | cons f l ih =>
    obtain ⟨other, nodup⟩ := List.nodup_cons.1 nodup
    have later := ih nodup (s := ageOuts f s) (by rwa [ageOuts_resetHeld])
    have same : (l.flatMap fun g => ((ageOuts f s).feeder g).reassembly.map fun e =>
        Instr.reassemblyAgeOut g (e.1 / 4 + 1) (e.1 % 4)) =
        l.flatMap fun g => (s.feeder g).reassembly.map fun e => .reassemblyAgeOut g (e.1 / 4 + 1) (e.1 % 4) :=
      List.flatMap_congr fun g hg => by rw [ageOuts_feeder_ne s (ne_of_mem_of_not_mem hg other)]
    rw [same] at later
    rw [List.flatMap_cons]
    exact (ran_ageOuts f hr).append later

/-- Settles O29. -/
theorem cycleStartCounts : Obligations.CycleStartCounts := by
  unfold Obligations.CycleStartCounts
  refine ⟨fun f n s => ⟨fun running => ⟨_, rfl, ?_, fun d => ?_⟩, fun stopped =>
      ⟨countIdle_of_stopped stopped, countDecay_of_stopped stopped⟩, growQueryAges_eq f s, countDecay_of_running⟩,
    fun n s => ⟨⟨_, rfl, rfl, refillBuckets_account s⟩, ⟨_, rfl, rfl, fun k => ⟨fun f d loaded bound dark => ?_,
      fun not => ?_⟩⟩, countQuarter_eq s, fun k hk => ⟨fun zero => ?_, fun more => ?_⟩, ?_, fun hr =>
      ⟨exec_live (g := quarterBoundary) rfl hr, exec_live (g := bindTimeout) rfl hr, ran_allAgeOuts (by decide) hr,
        fun f => ⟨exec_live (g := strikeDecay f) rfl hr, ran_dozes f hr, queryTimeouts_eq f s⟩⟩⟩⟩
  · change countIdle f s = s.setFeeder f { s.feeder f with drops := ((countIdle f s).feeder f).drops }
    rw [countIdle, State.feeder_onFeeder_self, State.onFeeder, if_pos running]
  · exact countIdle_drop running d
  · change (countOutage s).account k = _
    rw [countOutage_account]
    simp only [Account.outageCounted, bound]
    exact if_pos ⟨loaded, dark⟩
  · change (countOutage s).account k = _
    rw [countOutage_account, Account.outageCounted]
    split
    next f d bound =>
      refine if_neg ?_
      rintro ⟨loaded, dark⟩
      obtain h | h | ⟨g, e, h, lit⟩ := not
      · exact absurd (loaded.symm.trans h) Bool.noConfusion
      · exact absurd (bound.symm.trans h) (by simp)
      · cases bound.symm.trans h
        exact lit dark
    next => rfl
  · exact if_pos ((exportCounted_number hk).trans zero)
  · have number := exportCounted_number hk
    change exportAndSend (s.onMeter fun m => { m with exportCount := 0 }) = _
    rw [exportAndSend, if_neg (by rwa [number]), exportRecords, number]
    simp [exportFirst, State.onMeter, State.onUplink]
  · change growBindAge s = _
    rw [growBindAge, State.onAgent]
    by_cases binding : s.agent.bind = .binding
    · rw [if_pos binding, if_pos binding]
      rfl
    · rw [if_neg binding, if_neg binding]

end Sys2Proof.Machine
end


section
/-! PROOFS. The framing of a cycle: the frames taken from the head of the downstream queue while they fit (R5, R6, R156). -/

namespace Sys2Proof.Machine

/-! ## Metering beside a feeder's other work -/

theorem notify_setFeeder (n : Notice) (f : FeederId) (x : Feeder) (s : State) :
    notify n (s.setFeeder f x) = (notify n s).setFeeder f x := by
  rw [notify_frame n (s.setFeeder f x), notify_agent_congr n (s := s.setFeeder f x) (t := s) rfl rfl]
  conv_rhs => rw [notify_frame]
  rfl

theorem meterFrame_setFeeder (up : Bool) (g : FeederId) (d len : Nat) (f : FeederId) (x : Feeder) (s : State) :
    meterFrame up g d len (s.setFeeder f x) = (meterFrame up g d len s).setFeeder f x := by
  unfold meterFrame
  have bound : (s.setFeeder f x).boundAccount g d = s.boundAccount g d := rfl
  rw [bound]
  cases s.boundAccount g d with
  | none => rfl
  | some slot =>
    have account : (s.setFeeder f x).account slot = s.account slot := rfl
    have band : ∀ a, (s.setFeeder f x).bandOf a = s.bandOf a := fun _ => rfl
    have weight : ∀ a, (s.setFeeder f x).weightOf a = s.weightOf a := fun _ => rfl
    have written : ∀ k, (s.setFeeder f x).onAccount slot k = (s.onAccount slot k).setFeeder f x := fun _ => rfl
    simp only [account, band, weight, written, notify_setFeeder]
    split <;> rfl

theorem meterFrame_frame (up : Bool) (f : FeederId) (d len : Nat) (s : State) : meterFrame up f d len s =
    { s with meter := (meterFrame up f d len s).meter, agent := (meterFrame up f d len s).agent } := by
  unfold meterFrame
  split
  · rfl
  · dsimp only
    split
    · rw [notify_frame]
      rfl
    · rfl

/-- Frames metered downstream one after another (R156). -/
def meterDown (f : FeederId) (l : List DownFrame) (s : State) : State :=
  l.foldl (fun y fr => meterFrame false f fr.index (fr.data.length + 4) y) s

theorem meterDown_setFeeder (f g : FeederId) (l : List DownFrame) (x : Feeder) (s : State) :
    meterDown f l (s.setFeeder g x) = (meterDown f l s).setFeeder g x := by
  induction l generalizing s with
  | nil => rfl
  | cons fr l ih =>
    change meterDown f l (meterFrame false f fr.index _ (s.setFeeder g x)) = _
    rw [meterFrame_setFeeder, ih]
    rfl

theorem meterDown_frame (f : FeederId) (l : List DownFrame) (s : State) :
    meterDown f l s = { s with meter := (meterDown f l s).meter, agent := (meterDown f l s).agent } := by
  induction l generalizing s with
  | nil => rfl
  | cons fr l ih =>
    have first := meterFrame_frame false f fr.index (fr.data.length + 4) s
    change meterDown f l (meterFrame false f fr.index (fr.data.length + 4) s) = { s with
      meter := (meterDown f l (meterFrame false f fr.index (fr.data.length + 4) s)).meter
      agent := (meterDown f l (meterFrame false f fr.index (fr.data.length + 4) s)).agent }
    generalize meterFrame false f fr.index (fr.data.length + 4) s = y at *
    refine (ih y).trans ?_
    generalize (meterDown f l y).meter = meter
    generalize (meterDown f l y).agent = agent
    rw [first]

theorem meterDown_append (f : FeederId) (l k : List DownFrame) (s : State) :
    meterDown f (l ++ k) s = meterDown f k (meterDown f l s) := List.foldl_append

/-! ## The frames that fit -/

/-- The frames at the head of a queue that are taken in `room` bytes: while the head fits, where only those that go out
use room (R6). -/
def fitting (goes : DownFrame → Bool) : Nat → List DownFrame → List DownFrame
  | _, [] => []
  | room, fr :: rest =>
    if room < fr.bytes then [] else fr :: fitting goes (if goes fr then room - fr.bytes else room) rest

/-- Bytes of those of the frames that go out (R5). -/
def bytesOut (goes : DownFrame → Bool) (l : List DownFrame) : Nat := ((l.filter goes).map DownFrame.bytes).sum

section
variable (goes : DownFrame → Bool)

theorem bytesOut_cons (fr : DownFrame) (l : List DownFrame) :
    bytesOut goes (fr :: l) = (if goes fr then fr.bytes else 0) + bytesOut goes l := by
  unfold bytesOut
  cases h : goes fr <;> simp [h]

theorem bytesOut_fitting (room : Nat) (q : List DownFrame) : bytesOut goes (fitting goes room q) ≤ room := by
  induction q generalizing room with
  | nil => exact Nat.zero_le _
  | cons fr q ih =>
    rw [fitting]
    split
    · exact Nat.zero_le _
    next fits =>
      have rest := ih (if goes fr then room - fr.bytes else room)
      rw [bytesOut_cons]
      cases out : goes fr with
      | true =>
        simp only [out, if_true] at rest ⊢
        omega
      | false =>
        simp only [out, Bool.false_eq_true, if_false] at rest ⊢
        omega

/-- The queue is what fits and what is left of it; the head of the rest does not fit. -/
theorem fitting_append (room : Nat) (q : List DownFrame) : ∃ rest, q = fitting goes room q ++ rest ∧
    ∀ fr more, rest = fr :: more → room < bytesOut goes (fitting goes room q) + fr.bytes := by
  induction q generalizing room with
  | nil => exact ⟨[], rfl, fun fr more h => by cases h⟩
  | cons e q ih =>
    rw [fitting]
    split
    next full =>
      refine ⟨e :: q, rfl, ?_⟩
      rintro fr more ⟨rfl, -⟩
      simpa [bytesOut] using full
    next fits =>
      obtain ⟨rest, whole, stops⟩ := ih (if goes e then room - e.bytes else room)
      refine ⟨rest, congrArg (e :: ·) whole, fun fr more h => ?_⟩
      have stop := stops fr more h
      rw [bytesOut_cons]
      cases out : goes e with
      | true =>
        simp only [out, if_true] at stop ⊢
        omega
      | false =>
        simp only [out, Bool.false_eq_true, if_false] at stop ⊢
        omega

theorem fitting_whole (room : Nat) (q : List DownFrame) :
    q = fitting goes room q ++ q.drop (fitting goes room q).length := by
  obtain ⟨rest, whole, -⟩ := fitting_append goes room q
  have left := congrArg (List.drop (fitting goes room q).length) whole
  rw [List.drop_left] at left
  rw [left]
  exact whole

theorem fitting_stops {room : Nat} {q : List DownFrame} {fr : DownFrame} {more : List DownFrame}
    (h : q.drop (fitting goes room q).length = fr :: more) :
    room < bytesOut goes (fitting goes room q) + fr.bytes := by
  obtain ⟨rest, whole, stops⟩ := fitting_append goes room q
  have left := congrArg (List.drop (fitting goes room q).length) whole
  rw [List.drop_left] at left
  exact stops fr more (left.symm.trans h)

/-- Taking what fits of a front, and then what fits of the rest in the room left, is taking what fits. -/
theorem fitting_front (room : Nat) (front back : List DownFrame) : fitting goes room (front ++ back) =
    fitting goes room front ++ fitting goes (room - bytesOut goes (fitting goes room front))
      (front.drop (fitting goes room front).length ++ back) := by
  induction front generalizing room with
  | nil => rfl
  | cons e front ih =>
    rw [List.cons_append, fitting, fitting]
    split
    next full =>
      rw [List.nil_append, List.length_nil, List.drop_zero, List.cons_append]
      exact (if_pos (by simpa [bytesOut] using full)).symm
    next fits =>
      rw [ih, List.cons_append, List.length_cons, List.drop_succ_cons, bytesOut_cons]
      have left : (if goes e then room - e.bytes else room) -
          bytesOut goes (fitting goes (if goes e then room - e.bytes else room) front) =
          room - ((if goes e then e.bytes else 0) +
            bytesOut goes (fitting goes (if goes e then room - e.bytes else room) front)) := by
        split <;> omega
      rw [left]

end

/-! ## What the framer leaves (R6, R148, R156) -/

/-- A drop's frames go out in the states in which they are delivered (R6). -/
def State.goesOut (s : State) (f : FeederId) (fr : DownFrame) : Bool := (s.drop f fr.index).state.delivering

/-- The feeder once frames have been taken into its cycle, or discarded and counted, and `rest` waits. -/
def Feeder.framed (x : Feeder) (c : DownCycle) (goes : DownFrame → Bool) (taken rest : List DownFrame) : Feeder :=
  { x with
    downQueue := rest
    sending := some { c with segments := c.segments ++ taken.filter goes }
    downCount := { x.downCount with
      notDelivering := x.downCount.notDelivering + BitVec.ofNat 32 (taken.filter fun fr => !goes fr).length } }

/-- The state once frames have been taken: those that go out are metered. -/
def State.framed (s : State) (f : FeederId) (c : DownCycle) (taken rest : List DownFrame) : State :=
  (meterDown f (taken.filter (s.goesOut f)) s).setFeeder f ((s.feeder f).framed c (s.goesOut f) taken rest)

theorem State.framed_nil {s : State} {f : FeederId} {c : DownCycle} (h : (s.feeder f).sending = some c)
    (rest : List DownFrame) : s.framed f c [] rest = s.onFeeder f fun x => { x with downQueue := rest } := by
  have none : (s.feeder f).downCount.notDelivering + BitVec.ofNat 32 0 = (s.feeder f).downCount.notDelivering :=
    BitVec.add_zero ..
  simp only [State.framed, Feeder.framed, meterDown, List.filter_nil, List.foldl_nil, List.append_nil, List.length_nil,
    none, ← h]
  rfl

/-- The cycle with a frame placed in it, if it goes out. -/
def DownCycle.placed (c : DownCycle) (goes : DownFrame → Bool) (fr : DownFrame) : DownCycle :=
  if goes fr then { c with segments := c.segments ++ [fr] } else c

section
variable {f : FeederId} {s : State} {c : DownCycle} (h : (s.feeder f).sending = some c) (fr : DownFrame)
include h

/-- One frame taken: metered and placed, or counted as discarded (R6, R156). -/
theorem placeFrame_eq : placeFrame f fr s = (meterDown f ([fr].filter (s.goesOut f)) s).setFeeder f { s.feeder f with
    sending := some (c.placed (s.goesOut f) fr)
    downCount := { (s.feeder f).downCount with
      notDelivering := (s.feeder f).downCount.notDelivering + (if s.goesOut f fr then 0 else 1) } } := by
  have none : (s.feeder f).downCount.notDelivering + 0 = (s.feeder f).downCount.notDelivering := BitVec.add_zero ..
  unfold placeFrame DownCycle.placed
  by_cases out : s.goesOut f fr = true
  · have metered : [fr].filter (s.goesOut f) = [fr] := by simp [out]
    rw [if_pos out, if_pos out, none, metered]
    refine (if_pos out).trans ?_
    rw [State.onFeeder, meterFrame_setFeeder, h]
    rfl
  · have discarded : [fr].filter (s.goesOut f) = [] := by simp [out]
    rw [if_neg out, if_neg out, discarded, ← h]
    exact if_neg out

theorem placeFrame_feeder : (placeFrame f fr s).feeder f = { s.feeder f with
    sending := some (c.placed (s.goesOut f) fr)
    downCount := { (s.feeder f).downCount with
      notDelivering := (s.feeder f).downCount.notDelivering + (if s.goesOut f fr then 0 else 1) } } := by
  rw [placeFrame_eq h, State.feeder_setFeeder_self]

theorem placeFrame_goesOut : (placeFrame f fr s).goesOut f = s.goesOut f := by
  funext e
  rw [State.goesOut, State.drop, placeFrame_feeder h]
  rfl

/-- Taking a frame and then others is taking them all. -/
theorem placeFrame_framed (taken rest : List DownFrame) :
    (placeFrame f fr s).framed f (c.placed (s.goesOut f) fr) taken rest = s.framed f c (fr :: taken) rest := by
  have record : ((s.feeder f).framed c (s.goesOut f) (fr :: taken) rest) =
      ((placeFrame f fr s).feeder f).framed (c.placed (s.goesOut f) fr) (s.goesOut f) taken rest := by
    rw [placeFrame_feeder h]
    unfold Feeder.framed DownCycle.placed
    cases out : s.goesOut f fr with
    | true => simp [out]
    | false =>
      have one : ∀ k : Counter, k + BitVec.ofNat 32 ((taken.filter fun e => !s.goesOut f e).length + 1) =
          k + 1 + BitVec.ofNat 32 (taken.filter fun e => !s.goesOut f e).length := fun k => by
        rw [BitVec.ofNat_add, BitVec.add_comm (BitVec.ofNat 32 _), ← BitVec.add_assoc]
        rfl
      simp [out, one]
  have metered : meterDown f ((fr :: taken).filter (s.goesOut f)) s =
      meterDown f (taken.filter (s.goesOut f)) (meterDown f ([fr].filter (s.goesOut f)) s) := by
    rw [← meterDown_append, ← List.filter_append, List.singleton_append]
  rw [State.framed, State.framed, placeFrame_goesOut h, record, metered]
  conv_lhs => rw [placeFrame_eq h, meterDown_setFeeder, State.setFeeder_setFeeder]
  rw [placeFrame_feeder h, State.feeder_setFeeder_self]

end

/-- What the framer takes from a queue in the room that it has (R6). -/
theorem takeFrames_eq (f : FeederId) (q : List DownFrame) (room : Nat) {s : State} {c : DownCycle}
    (h : (s.feeder f).sending = some c) : takeFrames f q room s =
      s.framed f c (fitting (s.goesOut f) room q) (q.drop (fitting (s.goesOut f) room q).length) := by
  induction q generalizing room s c with
  | nil => exact (State.framed_nil h []).symm
  | cons fr q ih =>
    rw [takeFrames, fitting]
    split
    next full => exact (State.framed_nil h (fr :: q)).symm
    next fits =>
      have placed : ((placeFrame f fr s).feeder f).sending = some (c.placed (s.goesOut f) fr) := by
        rw [placeFrame_feeder h]
      dsimp only
      rw [ih _ placed, placeFrame_goesOut h, placeFrame_framed h, List.length_cons, List.drop_succ_cons]
      rfl

/-! ## The framing and its parts (R3, R5, R6, R160) -/

section
variable {f : FeederId} {n : CycleNo} {s : State} {c : DownCycle} (running : (s.feeder f).running = true)
  (sending : (s.feeder f).sending = some c)
include running sending

theorem frameCycle_eq : frameCycle f s = s.framed f c
    (fitting (s.goesOut f) (c.dataArea - c.segmentBytes) (s.feeder f).downQueue)
    ((s.feeder f).downQueue.drop
      (fitting (s.goesOut f) (c.dataArea - c.segmentBytes) (s.feeder f).downQueue).length) := by
  simp only [frameCycle, sending]
  rw [if_pos running, takeFrames_eq f _ _ sending]

/-- Bytes that a part of the framing has: beside the plan, or beside the largest one while it is to be built (R5, log 28). -/
def partArea (x : Feeder) (n : CycleNo) (c : DownCycle) : Nat :=
  if x.slotOf n = none then 398004 else c.dataArea

theorem framePart_eq (k : Nat) {front taken : List DownFrame}
    (hfront : front = frontHolding (s.goesOut f) (k - c.segments.length) (s.feeder f).downQueue)
    (htaken : taken = fitting (s.goesOut f) (partArea (s.feeder f) n c - c.segmentBytes) front) :
    framePart f n k s =
      s.framed f c taken (front.drop taken.length ++ (s.feeder f).downQueue.drop front.length) := by
  have area : (if ((s.feeder f).slotOf n).isSome then c.dataArea else Config.leastDataArea) =
      partArea (s.feeder f) n c := by
    unfold partArea
    cases (s.feeder f).slotOf n <;> rfl
  have front_eq : frontHolding (fun fr => (s.drop f fr.index).state.delivering) (k - c.segments.length)
      (s.feeder f).downQueue = front := hfront.symm
  simp only [framePart, sending, area, front_eq]
  rw [if_pos running, takeFrames_eq f _ _ sending, ← htaken, State.framed, State.setFeeder_onFeeder]
  rfl

end

theorem frameCycle_of_stopped {f : FeederId} {s : State} (h : (s.feeder f).running = false) : frameCycle f s = s := by
  unfold frameCycle
  split
  · exact if_neg (by simp [h])
  · rfl

theorem framePart_of_stopped {f : FeederId} {n : CycleNo} {k : Nat} {s : State} (h : (s.feeder f).running = false) :
    framePart f n k s = s := by
  unfold framePart
  dsimp only
  split
  · exact if_neg (by simp [h])
  · rfl

/-- What the frames taken leave, in the words of R6: a front of the queue, the rest, and the metering. -/
theorem State.framed_spec (s : State) (f : FeederId) (c : DownCycle) (taken rest : List DownFrame) :
    s.framed f c taken rest = (meterDown f (taken.filter (s.goesOut f)) s).setFeeder f { s.feeder f with
      downQueue := rest
      sending := some { c with segments := c.segments ++ taken.filter (s.goesOut f) }
      downCount := { (s.feeder f).downCount with
        notDelivering := (s.feeder f).downCount.notDelivering +
          BitVec.ofNat 32 (taken.filter fun fr => !s.goesOut f fr).length } } := rfl

theorem State.framed_goesOut (s : State) (f : FeederId) (c : DownCycle) (taken rest : List DownFrame) :
    (s.framed f c taken rest).goesOut f = s.goesOut f := by
  funext fr
  rw [State.framed, State.goesOut, State.drop_setFeeder_self]
  rfl

/-- Frames taken in two parts are taken as in one. -/
theorem State.framed_framed (s : State) (f : FeederId) (c : DownCycle) (taken rest more left : List DownFrame) :
    (s.framed f c taken rest).framed f { c with segments := c.segments ++ taken.filter (s.goesOut f) } more left =
      s.framed f c (taken ++ more) left := by
  have record : (s.framed f c taken rest).feeder f = (s.feeder f).framed c (s.goesOut f) taken rest := by
    rw [State.framed, State.feeder_setFeeder_self]
  have counted : ∀ k : Counter, k + BitVec.ofNat 32 (taken.filter fun fr => !s.goesOut f fr).length +
      BitVec.ofNat 32 (more.filter fun fr => !s.goesOut f fr).length =
      k + BitVec.ofNat 32 ((taken ++ more).filter fun fr => !s.goesOut f fr).length := fun k => by
    rw [List.filter_append, List.length_append, BitVec.ofNat_add, BitVec.add_assoc]
  rw [State.framed, State.framed_goesOut, record, State.framed_spec s f c taken rest, meterDown_setFeeder,
    State.setFeeder_setFeeder, ← meterDown_append, ← List.filter_append, State.framed_spec]
  simp [Feeder.framed, counted]

theorem DownCycle.segmentBytes_append (c : DownCycle) (goes : DownFrame → Bool) (taken : List DownFrame) :
    ({ c with segments := c.segments ++ taken.filter goes } : DownCycle).segmentBytes =
      c.segmentBytes + bytesOut goes taken := by
  simp [DownCycle.segmentBytes, bytesOut]

/-- A part of the framing beside the plan, and then the rest, is the framing. -/
theorem frameCycle_framePart {f : FeederId} {n : CycleNo} {s : State} {c : DownCycle}
    (running : (s.feeder f).running = true) (sending : (s.feeder f).sending = some c) (k : Nat)
    (planned : (s.feeder f).slotOf n ≠ none) : frameCycle f (framePart f n k s) = frameCycle f s := by
  have part := framePart_eq (n := n) running sending k rfl rfl
  rw [partArea, if_neg planned] at part
  generalize hfront : frontHolding (s.goesOut f) (k - c.segments.length) (s.feeder f).downQueue = front at part
  generalize htaken : fitting (s.goesOut f) (c.dataArea - c.segmentBytes) front = taken at part
  have whole : (s.feeder f).downQueue = front ++ (s.feeder f).downQueue.drop front.length :=
    (hfront ▸ frontHolding_append (s.goesOut f) (k - c.segments.length) (s.feeder f).downQueue).symm
  have record : (framePart f n k s).feeder f = (s.feeder f).framed c (s.goesOut f) taken
      (front.drop taken.length ++ (s.feeder f).downQueue.drop front.length) := by
    rw [part, State.framed, State.feeder_setFeeder_self]
  have stays : ((framePart f n k s).feeder f).running = true := by rw [record]; exact running
  have goes : (framePart f n k s).goesOut f = s.goesOut f := by rw [part, State.framed_goesOut]
  have second := frameCycle_eq stays (c := { c with segments := c.segments ++ taken.filter (s.goesOut f) })
    (by rw [record]; rfl)
  have room : ({ c with segments := c.segments ++ taken.filter (s.goesOut f) } : DownCycle).dataArea -
      ({ c with segments := c.segments ++ taken.filter (s.goesOut f) } : DownCycle).segmentBytes =
      c.dataArea - c.segmentBytes - bytesOut (s.goesOut f) taken := by
    rw [DownCycle.segmentBytes_append]
    exact (Nat.sub_sub ..).symm
  have queue : ((framePart f n k s).feeder f).downQueue =
      front.drop taken.length ++ (s.feeder f).downQueue.drop front.length := by rw [record]; rfl
  rw [room, queue, goes] at second
  rw [second, frameCycle_eq running sending, part, State.framed_framed]
  have together := fitting_front (s.goesOut f) (c.dataArea - c.segmentBytes) front
    ((s.feeder f).downQueue.drop front.length)
  rw [← whole, htaken] at together
  have prefix_le : taken.length ≤ front.length := by
    have split := fitting_whole (s.goesOut f) (c.dataArea - c.segmentBytes) front
    rw [htaken] at split
    rw [split, List.length_append]
    omega
  rw [together, List.length_append, ← List.drop_drop]
  congr 2
  conv_rhs => rw [whole]
  rw [List.drop_append_of_le_length prefix_le]

/-- Settles O31: what is taken is what fits, and a part of the framing goes on in the next. -/
theorem framesAreTakenWhileTheyFit : Obligations.FramesAreTakenWhileTheyFit := by
  unfold Obligations.FramesAreTakenWhileTheyFit
  refine ⟨?_, fun f n k s stopped => ⟨frameCycle_of_stopped stopped, framePart_of_stopped stopped⟩⟩
  intro f n s c area used room k goes size running sending harea hgoes hsize hused hroom
  obtain rfl : goes = s.goesOut f := by
    funext fr
    rw [Bool.eq_iff_iff, hgoes, State.goesOut]
    cases (s.drop f fr.index).state <;> simp [DropState.delivering]
  obtain rfl : size = DownFrame.bytes := by
    funext fr
    rw [hsize, DownFrame.bytes, ceilDiv]
    rfl
  obtain rfl : area = c.dataArea := by
    refine harea.trans ?_
    unfold DownCycle.dataArea
    refine congrArg (fun l : List Nat => 400000 - 16 - (4 + l.sum) - 16 * c.orders.length)
      (List.map_congr_left fun e _ => ?_)
    cases e <;> rfl
  obtain rfl : used = c.segmentBytes := hused
  have partRoom : room = partArea (s.feeder f) n c - c.segmentBytes := hroom
  constructor
  · exact ⟨_, _, _, _, frameCycle_eq running sending, fitting_whole .., bytesOut_fitting ..,
      fun fr more h => fitting_stops _ h, rfl, State.framed_spec .., meterDown_frame ..⟩
  · have part := framePart_eq (n := n) running sending k rfl rfl
    rw [← partRoom] at part
    generalize hfront : frontHolding (s.goesOut f) (k - c.segments.length) (s.feeder f).downQueue = front at part
    have whole : front ++ (s.feeder f).downQueue.drop front.length = (s.feeder f).downQueue :=
      hfront ▸ frontHolding_append (s.goesOut f) (k - c.segments.length) (s.feeder f).downQueue
    have few : (front.filter (s.goesOut f)).length ≤ k - c.segments.length :=
      hfront ▸ frontHolding_goes (s.goesOut f) (k - c.segments.length) (s.feeder f).downQueue
    refine ⟨_, _, _, _, part, ?whole, ?few, bytesOut_fitting .., fun fr more h => ?stops, rfl, State.framed_spec ..,
      meterDown_frame .., fun planned => ?later⟩
    case whole => rw [← List.append_assoc, ← fitting_whole, whole]
    case few =>
      refine le_trans (List.Sublist.length_le (List.Sublist.filter _ ?_)) few
      conv_rhs => rw [fitting_whole (s.goesOut f) room front]
      exact List.sublist_append_left ..
    case stops =>
      cases left : front.drop (fitting (s.goesOut f) room front).length with
      | cons e rest =>
        rw [left, List.cons_append] at h
        obtain ⟨rfl, -⟩ := List.cons.inj h
        exact .inr (fitting_stops _ left)
      | nil =>
        rw [left, List.nil_append] at h
        have all : fitting (s.goesOut f) room front = front := by
          have split := fitting_whole (s.goesOut f) room front
          rw [left, List.append_nil] at split
          exact split.symm
        left
        rw [all]
        refine le_antisymm few (Nat.not_lt.1 fun less => ?_)
        rw [← hfront] at less h
        rw [frontHolding_whole less, List.drop_length] at h
        cases h
    case later =>
      rw [← part]
      exact frameCycle_framePart running sending k planned

end Sys2Proof.Machine
end

section
/-! PROOFS. The transmission reports of the line orders (R15, R48, R75, R77, R78, R98, R102, R105, R115). -/

namespace Sys2Proof.Machine

section
variable {f : FeederId} {d : Nat} {m : CycleNo}

theorem State.onDrop_drops (s : State) (g : DropRecord → DropRecord) :
    s.onDrop f d g = s.setFeeder f { s.feeder f with drops := ((s.onDrop f d g).feeder f).drops } := by
  rw [State.onDrop, State.feeder_onFeeder_self]
  rfl

theorem State.onDrop_onDrop (s : State) (g h : DropRecord → DropRecord) :
    (s.onDrop f d g).onDrop f d h = s.onDrop f d fun r => h (g r) := by
  simp [State.onDrop]

/-- The record after an EQUALISE went out in cycle `m` (R105). -/
def DropRecord.equalisedIn (m : CycleNo) (r : DropRecord) : DropRecord :=
  { r with equaliseCycle := if r.correctionPending then some m else r.equaliseCycle }

/-- The record that an EQUALISE enrols (R102). -/
def DropRecord.enrolled (r : DropRecord) : DropRecord := { r with state := .active, phase := none, idle := 0 }

theorem DropRecord.equalisedIn_eq (m : CycleNo) (r : DropRecord) :
    (if r.correctionPending then { r with equaliseCycle := some m } else r) = r.equalisedIn m := by
  unfold DropRecord.equalisedIn
  by_cases pending : r.correctionPending
  · rw [if_pos pending, if_pos pending]
  · rw [if_neg pending, if_neg pending]

theorem equaliseReported_of_equalising {s : State} (ranging : (s.drop f d).state = .ranging)
    (last : (s.drop f d).phase = some .equalising) : equaliseReported f d m s =
      notify (.dropEnrolled f d (s.drop f d).tag (s.drop f d).account (s.drop f d).rtd (s.drop f d).eqd)
        (s.onDrop f d fun r => (r.equalisedIn m).enrolled) := by
  simp only [equaliseReported, DropRecord.equalisedIn_eq, State.drop_onDrop_self, State.onDrop_onDrop]
  exact if_pos ⟨ranging, last⟩

theorem equaliseReported_of_other {s : State}
    (other : (s.drop f d).state ≠ .ranging ∨ (s.drop f d).phase ≠ some .equalising) :
    equaliseReported f d m s = s.onDrop f d (DropRecord.equalisedIn m) := by
  simp only [equaliseReported, DropRecord.equalisedIn_eq, State.drop_onDrop_self]
  exact if_neg fun h => other.elim (· h.1) (· h.2)

/-- What the report of an EQUALISE does, in both cases. -/
theorem equaliseReported_spec (y : State) : ∃ t, equaliseReported f d m y = t ∧
    t = { y with feeders := t.feeders, agent := t.agent } ∧
    t.feeders = (y.setFeeder f { y.feeder f with drops := (t.feeder f).drops }).feeders ∧
    (∀ k, k ≠ d → t.drop f k = y.drop f k) ∧
    ((y.drop f d).state = .ranging → (y.drop f d).phase = some .equalising →
      t.drop f d = ((y.drop f d).equalisedIn m).enrolled ∧ t.agent = (notify (.dropEnrolled f d (y.drop f d).tag
        (y.drop f d).account (y.drop f d).rtd (y.drop f d).eqd) y).agent) ∧
    ((y.drop f d).state ≠ .ranging ∨ (y.drop f d).phase ≠ some .equalising →
      t.drop f d = (y.drop f d).equalisedIn m ∧ t.agent = y.agent) := by
  by_cases last : (y.drop f d).state = .ranging ∧ (y.drop f d).phase = some .equalising
  · refine ⟨_, equaliseReported_of_equalising last.1 last.2, ?_⟩
    generalize hn : Notice.dropEnrolled f d _ _ _ _ = n
    have feeders : (notify n (y.onDrop f d fun r => (r.equalisedIn m).enrolled)).feeders =
        (y.onDrop f d fun r => (r.equalisedIn m).enrolled).feeders := by rw [notify_frame]
    have drops : ∀ k, (notify n (y.onDrop f d fun r => (r.equalisedIn m).enrolled)).drop f k =
        (y.onDrop f d fun r => (r.equalisedIn m).enrolled).drop f k := fun k => by
      rw [State.drop, notify_feeder, State.drop]
    refine ⟨?_, ?_, fun k hk => (drops k).trans (State.drop_onDrop_ne (h := hk) ..),
      fun _ _ => ⟨(drops d).trans (State.drop_onDrop_self ..), notify_agent_congr n rfl rfl⟩,
      fun h => absurd last fun both => h.elim (· both.1) (· both.2)⟩
    · rw [notify_frame]
      rfl
    · rw [notify_feeder, feeders]
      exact congrArg State.feeders (State.onDrop_drops ..)
  · exact ⟨_, equaliseReported_of_other (not_and_or.1 last), rfl, congrArg State.feeders (State.onDrop_drops ..),
      fun k hk => State.drop_onDrop_ne (h := hk) .., fun ranging equalising => absurd ⟨ranging, equalising⟩ last,
      fun _ => ⟨State.drop_onDrop_self .., rfl⟩⟩

theorem Feeder.mark_setMark_ne (x : Feeder) {k : Nat} (h : k ≠ d) (v : Option ResumeMark) :
    (x.setMark d v).mark k = x.mark k := by
  simp [Feeder.mark, Feeder.setMark, Tbl.get_set, h]

/-- A WAITING resume mark takes the cycle; no other mark moves. -/
theorem markTransmitted_spec (s : State) : ∃ z, markTransmitted f d m s = z ∧
    z = s.setFeeder f { s.feeder f with marks := (z.feeder f).marks } ∧
    (∀ k, k ≠ d → (z.feeder f).mark k = (s.feeder f).mark k) ∧
    (z.feeder f).mark d = if (s.feeder f).mark d = some .waiting then some (.cycle m) else (s.feeder f).mark d := by
  refine ⟨_, rfl, ?_⟩
  by_cases waiting : (s.feeder f).mark d = some .waiting
  · have taken : markTransmitted f d m s = s.setFeeder f ((s.feeder f).setMark d (some (.cycle m))) :=
      congrArg (s.setFeeder f) (if_pos waiting)
    rw [taken, State.feeder_setFeeder_self, if_pos waiting]
    exact ⟨rfl, fun k hk => Feeder.mark_setMark_ne _ hk _, Feeder.mark_setMark_self ..⟩
  · have left : markTransmitted f d m s = s :=
      (congrArg (s.setFeeder f) (if_neg waiting)).trans (State.setFeeder_feeder ..)
    rw [left, if_neg waiting]
    exact ⟨(State.setFeeder_feeder ..).symm, fun _ _ => rfl, rfl⟩

/-! ## A REMOVE that frees its record (R75, R115) -/

theorem leavingTest_of_not_ready {s : State} (h : (s.drop f d).state ≠ .leaving ∨ (s.feeder f).ringHolds d = true) :
    leavingTest f s d = s := by
  refine if_neg ?_
  obtain other | held := h
  · simp [Feeder.readyToFree, show ((s.feeder f).drop d).state ≠ .leaving from other]
  · simp [Feeder.readyToFree, held]

theorem leavingTest_of_ready {s : State} {why : RemoveReason} (leaving : (s.drop f d).state = .leaving)
    (sent : (s.drop f d).lastSent = some (.remove, m)) (reason : (s.drop f d).leave = some why)
    (clear : (s.feeder f).ringHolds d = false) : leavingTest f s d = freeRecord f d why s := by
  have ready : (s.feeder f).readyToFree d = true := by
    simp [Feeder.readyToFree, show ((s.feeder f).drop d).state = .leaving from leaving,
      show ((s.feeder f).drop d).lastSent = some (.remove, m) from sent, clear]
  exact (if_pos ready).trans (by rw [reason]; rfl)

theorem unbindAccount_account (s : State) (a : Nat) : (unbindAccount f d s).account a =
    { s.account a with bound := if s.boundAccount f d = some a then none else (s.account a).bound } := by
  unfold unbindAccount
  cases s.boundAccount f d with
  | none => rfl
  | some slot =>
    refine (State.account_onAccount ..).trans ?_
    by_cases own : a = slot
    · simp [own]
    · simp [own, Ne.symm own]

theorem unbindAccount_frame (s : State) : unbindAccount f d s =
    { s with meter := { s.meter with accounts := (unbindAccount f d s).meter.accounts } } :=
  (unbindAccount_spec f d s).1

theorem Feeder.resetLanes_lane_self (d : Nat) (x : Feeder) {l : Nat} (hl : l < 4) :
    (laneNumbers.foldl (fun x l => x.setLane d l LaneRecord.zero) x).lane d l = LaneRecord.zero := by
  have apart : ∀ i j : Nat, i < 4 → j < 4 → (laneKey d i = laneKey d j ↔ i = j) := fun i j _ _ => by
    unfold laneKey
    omega
  obtain rfl | rfl | rfl | rfl : l = 0 ∨ l = 1 ∨ l = 2 ∨ l = 3 := by omega
  all_goals simp [laneNumbers, Feeder.lane, Feeder.setLane, Tbl.get_set, apart]

/-- A LEAVING record of a feeder without an isolation is freed with everything R75 clears. -/
theorem freeRecord_leaving {s : State} {why : RemoveReason} (quiet : (s.feeder f).isolation.kind = none)
    (leaving : (s.drop f d).state = .leaving) : ∃ t, freeRecord f d why s = t ∧
    t.drop f d = DropRecord.empty ∧ (t.feeder f).mark d = none ∧
    (∀ l, l < 4 → (t.feeder f).lane d l = ⟨0, 0, 0, 0⟩) ∧ (∀ k, k ≠ d → t.drop f k = s.drop f k) ∧
    (∀ a, t.account a = { s.account a with bound := if s.boundAccount f d = some a then none
      else (s.account a).bound }) ∧
    t.agent = (notify (.dropRemoved f d (s.drop f d).tag (s.drop f d).account why) s).agent := by
  refine ⟨_, rfl, ?_⟩
  have dim : (s.drop f d).state.shining = false := by rw [leaving]; rfl
  have freed := freeRecord_of_no_isolation d why quiet
  rw [dim, if_neg Bool.false_ne_true, resetLanes, State.onFeeder_onFeeder, State.onFeeder, unbindAccount_feeder] at freed
  have own : (freeRecord f d why s).feeder f = ((laneNumbers.foldl (fun x l => x.setLane d l LaneRecord.zero)
      (s.feeder f)).setDrop d DropRecord.empty).setMark d none := by
    rw [freed, notify_feeder, State.feeder_setFeeder_self]
  obtain ⟨table, lanes⟩ := Feeder.resetLanes_frame d laneNumbers (s.feeder f)
  have drops : ∀ k, (freeRecord f d why s).drop f k = if k = d then DropRecord.empty else s.drop f k := fun k => by
    rw [State.drop, own, Feeder.drop_of_drops (Feeder.setMark_drops ..), Feeder.drop_setDrop, lanes]
    rfl
  refine ⟨(drops d).trans (if_pos rfl), ?_, fun l hl => ?_, fun k hk => (drops k).trans (if_neg hk), fun a => ?_, ?_⟩
  · rw [own, Feeder.mark_setMark_self]
  · rw [own]
    exact Feeder.resetLanes_lane_self d (s.feeder f) hl
  · rw [freed, notify_account]
    exact unbindAccount_account s a
  · rw [freed]
    refine notify_agent_congr _ ?_ ?_
    · rw [State.setFeeder_cycle, unbindAccount_frame]
    · rw [State.setFeeder_agent, unbindAccount_frame]

/-! ## Taking the orders of a cycle (R15, R77) -/

theorem runWork_orders_of_running {n : CycleNo} {s : State} {c : DownCycle} (running : (s.feeder f).running = true)
    (sending : (s.feeder f).sending = some c) : runWork n s (.orders f) =
      ((s.feeder f).orderQueue.take 8).foldl (orderReport f n) (fillOrders f (s.setFeeder f { s.feeder f with
        orderQueue := (s.feeder f).orderQueue.drop 8
        sending := some { c with orders := c.orders ++ (s.feeder f).orderQueue.take 8 } })) := by
  have arm : runWork n s (.orders f) = takeOrders f n s := rfl
  rw [arm, takeOrders, if_pos running]
  simp only [State.onFeeder, sending, Option.map_some]
  rfl

theorem runWork_orders_of_stopped {n : CycleNo} {s : State} (stopped : (s.feeder f).running = false) :
    runWork n s (.orders f) = s := by
  have arm : runWork n s (.orders f) = takeOrders f n s := rfl
  rw [arm, takeOrders, if_neg (by rw [stopped]; exact Bool.false_ne_true)]

theorem orderReport_of_gone {s : State} {o : LineOrder} {serial : Nat} (origin : o.origin = .drop d serial)
    (gone : (s.drop f d).state = .empty ∨ (s.drop f d).serial ≠ serial) : orderReport f m s o = s := by
  unfold orderReport
  rw [origin]
  exact if_pos gone

theorem orderReport_of_held {s : State} {o : LineOrder} {serial : Nat} (origin : o.origin = .drop d serial)
    (filled : (s.drop f d).state ≠ .empty) (own : (s.drop f d).serial = serial) : orderReport f m s o =
      reportHandedOn f d o.kind m (fillOrders f (s.onDrop f d fun r => r.reported o.kind m)) := by
  unfold orderReport
  rw [origin]
  exact if_neg fun h => h.elim filled (· own)

/-- The record whose order went out, and what the filling after it leaves of the rest of the state. -/
theorem reported_spec (f : FeederId) (d : Nat) (kind : OrderKind) (m : CycleNo) (s : State) :
    ∃ y, fillOrders f (s.onDrop f d fun r => r.reported kind m) = y ∧
      ((s.drop f d).reported kind m).SameButStatus (y.drop f d) ∧
      y = s.setFeeder f { s.feeder f with
        drops := (y.feeder f).drops, replies := (y.feeder f).replies, orderQueue := (y.feeder f).orderQueue } := by
  refine ⟨_, rfl, ?_⟩
  have eq : fillOrders f (s.onDrop f d fun r => r.reported kind m) =
      s.setFeeder f ((s.feeder f).setDrop d ((s.drop f d).reported kind m)).fillOrders := by
    rw [fillOrders, State.onDrop, State.onFeeder_onFeeder, State.onFeeder, State.drop]
  have same := ((s.feeder f).setDrop d ((s.drop f d).reported kind m)).fillOrders_drop d
  have frame := ((s.feeder f).setDrop d ((s.drop f d).reported kind m)).fillOrders_frame
  rw [Feeder.drop_setDrop_self] at same
  rw [eq, State.drop_setFeeder_self, State.feeder_setFeeder_self]
  generalize ((s.feeder f).setDrop d ((s.drop f d).reported kind m)).fillOrders = x at same frame ⊢
  exact ⟨same, congrArg (s.setFeeder f) frame⟩

end

/-- Settles O30. -/
theorem orderReportsMoveTheRecord : Obligations.OrderReportsMoveTheRecord := by
  unfold Obligations.OrderReportsMoveTheRecord
  refine ⟨fun f n s c x hx running sending => ?_, fun f n s => runWork_orders_of_stopped,
    fun f m s o serial origin => ?_, fun f m s o d serial r origin hr => ?_,
    fun f m s y o d serial r origin hr filled own hy => ?_⟩
  · subst hx
    exact runWork_orders_of_running running sending
  · unfold orderReport
    rw [origin]
    rfl
  · subst hr
    exact orderReport_of_gone origin
  · subst hr
    obtain ⟨y', filled', same, frame⟩ := reported_spec f d o.kind m s
    obtain rfl : y = y' := hy.trans filled'
    clear hy
    have record : y.drop f d = { (s.drop f d).reported o.kind m with pending := (y.drop f d).pending } := same.1
    have kinds : ((s.drop f d).reported o.kind m).pending.map PendingOrder.kind = (s.drop f d).following := by
      simp only [DropRecord.reported, Option.map_map]
      exact Option.map_id'
    refine ⟨record, same.2.trans kinds, _, orderReport_of_held origin filled own, ?_⟩
    rw [filled']
    clear filled'
    have state : (y.drop f d).state = (s.drop f d).state := by rw [record]; rfl
    have phase : (y.drop f d).phase = (s.drop f d).phase := by rw [record]; rfl
    have agent : y.agent = s.agent := by rw [frame, State.setFeeder_agent]
    have cycle : y.cycle = s.cycle := by rw [frame, State.setFeeder_cycle]
    have meter : y.meter = s.meter := by rw [frame, State.setFeeder_meter]
    have feeder := congrArg (fun t : State => t.feeder f) frame
    simp only [State.feeder_setFeeder_self] at feeder
    have corrected : (y.drop f d).equalisedIn m = { y.drop f d with
        equaliseCycle := if (s.drop f d).correctionPending then some m else (s.drop f d).equaliseCycle } := by
      rw [record]; rfl
    have rings : (y.feeder f).ringHolds d = (s.feeder f).ringHolds d := by rw [feeder]; rfl
    have marked := markTransmitted_spec (f := f) (d := d) (m := m) y
    have marks : ∀ k, (y.feeder f).mark k = (s.feeder f).mark k := fun k => by rw [feeder]; rfl
    simp only [marks] at marked
    obtain ⟨z, hz, markFrame, others, here⟩ := marked
    refine ⟨fun kind => ?_, fun kind => ?_, fun kind => ?_, fun kind => ?_, fun kind => ?_, fun kind h => ?_,
      fun why kind leaving reason clear => ?_⟩
    · rw [kind]
      refine ⟨State.onDrop_drops .., fun k hk => State.drop_onDrop_ne (h := hk) .., ?_⟩
      refine (State.drop_onDrop_self ..).trans ?_
      by_cases waits : (s.drop f d).state = .ranging ∧ (s.drop f d).phase = some .awaitingAssign
      · rw [if_pos waits]
        exact if_pos ⟨state.trans waits.1, phase.trans waits.2⟩
      · rw [if_neg waits, ← phase]
        exact if_neg fun h => waits ⟨state.symm.trans h.1, phase.symm.trans h.2⟩
    · rw [kind]
      obtain ⟨t, reported, rest, feeders, others, enrols, stays⟩ := equaliseReported_spec (f := f) (d := d) (m := m) y
      simp only [reportHandedOn, reported]
      refine ⟨rest, feeders, others, fun ranging equalising => ?_, fun other => ?_⟩
      · obtain ⟨drop, notices⟩ := enrols (state.trans ranging) (phase.trans equalising)
        refine ⟨by rw [drop, corrected]; rfl, ?_⟩
        rw [notices, record]
        exact notify_agent_congr _ cycle agent
      · obtain ⟨drop, same⟩ := stays (by rwa [state, phase])
        exact ⟨by rw [drop, corrected], same.trans agent⟩
    · have isolated : (y.drop f d).isolated = true ↔
          (s.drop f d).state = .darkened ∧ (s.drop f d).cause = some .isolation := by
        rw [record]
        rw [DropRecord.isolated, Bool.and_eq_true, decide_eq_true_eq, decide_eq_true_eq]
        rfl
      rw [kind]
      exact if_congr isolated rfl rfl
    · rw [kind]
      rfl
    · refine ⟨z, ?_, markFrame, others, here⟩
      rw [← hz]
      obtain relight | enable := kind
      · rw [relight]; rfl
      · rw [enable]; rfl
    · rw [kind]
      exact leavingTest_of_not_ready (by rwa [state, rings])
    · have sent : (y.drop f d).lastSent = some (.remove, m) := by rw [record, kind]; rfl
      have why' : (y.drop f d).leave = some why := by rw [record]; exact reason
      rw [kind]
      have free := leavingTest_of_ready (state.trans leaving) sent why' (rings.trans clear)
      refine ⟨free, fun quiet => ?_⟩
      obtain ⟨t, freed, emptied, mark, lanes, drops, accounts, notices⟩ := freeRecord_leaving (why := why)
        (show (y.feeder f).isolation.kind = none by rw [feeder]; exact quiet) (state.trans leaving)
      change (leavingTest f y d).drop f d = _ ∧ _
      simp only [reportHandedOn, free, freed]
      have account : ∀ a, y.account a = s.account a := fun a => by rw [State.account, meter]; rfl
      have bound : y.boundAccount f d = s.boundAccount f d := by rw [State.boundAccount, meter]; rfl
      refine ⟨emptied, mark, lanes, drops, fun a => ?_, ?_⟩
      · rw [accounts, account, bound]
      · rw [notices, record]
        exact notify_agent_congr _ cycle agent

end Sys2Proof.Machine
end

section
/-! PROOFS. The judgement of a cycle's light record (R122 to R124, R128, R129). -/

namespace Sys2Proof.Machine

/-! ## Runs of words (R122) -/

/-- Word `p` lies in one of the runs. -/
def LitBy (l : List (Nat × Nat)) (p : Nat) : Prop := ∃ r ∈ l, r.1 ≤ p ∧ p < r.1 + r.2

theorem litWithin_iff (a b : Nat) (l : List (Nat × Nat)) : litWithin a b l = true ↔ ∃ p, LitBy l p ∧ a ≤ p ∧ p < b := by
  rw [litWithin, List.any_eq_true]
  constructor
  · rintro ⟨r, hr, overlap⟩
    rw [decide_eq_true_eq] at overlap
    exact ⟨max r.1 a, ⟨r, hr, by omega, by omega⟩, by omega, by omega⟩
  · rintro ⟨p, ⟨r, hr, h1, h2⟩, h3, h4⟩
    exact ⟨r, hr, decide_eq_true (by omega)⟩

theorem litBy_withoutWords (a b : Nat) (l : List (Nat × Nat)) (p : Nat) :
    LitBy (withoutWords a b l) p ↔ LitBy l p ∧ (p < a ∨ b ≤ p) := by
  unfold LitBy withoutWords
  simp only [List.mem_flatMap, List.mem_append]
  constructor
  · rintro ⟨r, ⟨q, hq, left | right⟩, h1, h2⟩
    · split at left
      · obtain rfl := List.mem_singleton.1 left
        exact ⟨⟨q, hq, h1, by dsimp only at *; omega⟩, .inl (by dsimp only at *; omega)⟩
      · cases left
    · split at right
      · obtain rfl := List.mem_singleton.1 right
        exact ⟨⟨q, hq, by dsimp only at *; omega, by dsimp only at *; omega⟩, .inr (by dsimp only at *; omega)⟩
      · cases right
  · rintro ⟨⟨q, hq, h1, h2⟩, before | behind⟩
    · refine ⟨(q.1, min a (q.1 + q.2) - q.1), ⟨q, hq, .inl ?_⟩, h1, by dsimp only; omega⟩
      rw [if_pos (by omega)]
      exact List.mem_singleton_self _
    · refine ⟨(max q.1 b, q.1 + q.2 - max q.1 b), ⟨q, hq, .inr ?_⟩, by dsimp only; omega, by dsimp only; omega⟩
      rw [if_pos (by omega)]
      exact List.mem_singleton_self _

/-- No run that is left over is empty. -/
theorem withoutWords_pos (a b : Nat) (l : List (Nat × Nat)) {r : Nat × Nat} (h : r ∈ withoutWords a b l) : 0 < r.2 := by
  obtain ⟨q, -, hr⟩ := List.mem_flatMap.1 h
  obtain left | right := List.mem_append.1 hr
  · split at left
    · obtain rfl := List.mem_singleton.1 left
      dsimp only
      omega
    · cases left
  · split at right
    · obtain rfl := List.mem_singleton.1 right
      dsimp only
      omega
    · cases right

/-- Taking the covered words of the windows out of `l`, window by window. -/
theorem litBy_foldl_withoutWords (edge : Nat) (windows : List Window) (l : List (Nat × Nat)) (p : Nat) :
    LitBy (windows.foldl (fun l w => if w.entry.windowId.isSome
      then withoutWords (w.entry.start - 8) (min (w.entry.start + w.entry.len + 8) edge) l else l) l) p ↔
    LitBy l p ∧ ∀ w ∈ windows, w.entry.windowId ≠ none →
      p < w.entry.start - 8 ∨ min (w.entry.start + w.entry.len + 8) edge ≤ p := by
  induction windows generalizing l with
  | nil => simp
  | cons w windows ih =>
    rw [List.foldl_cons, ih, List.forall_mem_cons, ← and_assoc]
    refine and_congr_left fun _ => ?_
    cases id : w.entry.windowId with
    | none => simp
    | some i => simpa using litBy_withoutWords (w.entry.start - 8) (min (w.entry.start + w.entry.len + 8) edge) l p

/-- If no run of a list is empty, neither is any that is left of it. -/
theorem foldl_withoutWords_pos (edge : Nat) (windows : List Window) {l : List (Nat × Nat)} (pos : ∀ r ∈ l, 0 < r.2) :
    ∀ r ∈ windows.foldl (fun l w => if w.entry.windowId.isSome
      then withoutWords (w.entry.start - 8) (min (w.entry.start + w.entry.len + 8) edge) l else l) l, 0 < r.2 := by
  induction windows generalizing l with
  | nil => exact pos
  | cons w windows ih =>
    rw [List.foldl_cons]
    refine ih ?_
    split
    · exact fun r => withoutWords_pos _ _ _
    · exact pos

theorem isEmpty_eq_false_of_pos {l : List (Nat × Nat)} (pos : ∀ r ∈ l, 0 < r.2) : l.isEmpty = false ↔ ∃ p, LitBy l p := by
  rw [List.isEmpty_eq_false_iff_exists_mem]
  constructor
  · rintro ⟨r, hr⟩
    exact ⟨r.1, r, hr, Nat.le_refl _, Nat.lt_add_of_pos_right (pos r hr)⟩
  · rintro ⟨p, r, hr, -⟩
    exact ⟨r, hr⟩

theorem uncovered_isEmpty (dk : Nat) {sl : Slot} (inside : ∀ r ∈ sl.light.lit, r.1 + r.2 ≤ 25000) :
    (uncovered dk sl).isEmpty = false ↔ ∃ p, LitBy sl.light.lit p ∧ p < 25000 - dk ∧
      ∀ v ∈ sl.windows, v.entry.windowId ≠ none → p + 8 < v.entry.start ∨ v.entry.start + v.entry.len + 8 ≤ p := by
  have edge : (uncovered dk sl).isEmpty = false ↔ ∃ p, LitBy (uncovered dk sl) p :=
    isEmpty_eq_false_of_pos (foldl_withoutWords_pos _ _ fun r => withoutWords_pos _ _ _)
  rw [edge]
  refine exists_congr fun p => ?_
  have lit : LitBy (uncovered dk sl) p ↔ (LitBy sl.light.lit p ∧ (p < 25000 - dk ∨ 25000 ≤ p)) ∧ _ :=
    (litBy_foldl_withoutWords (25000 - dk) sl.windows _ p).trans
      (and_congr_left fun _ => litBy_withoutWords (25000 - dk) 25000 sl.light.lit p)
  rw [lit, and_assoc]
  refine and_congr_right fun ⟨r, hr, h1, h2⟩ => ?_
  have short := inside r hr
  rw [or_iff_left (by omega)]
  exact and_congr_right fun before => forall₃_congr fun w _ _ => by omega

/-! ## The judgement (R122 to R124) -/

theorem strayWindow_iff (sl : Slot) (w : Window) : sl.strayWindow w = true ↔ w.resolution = .excused ∧
    ((∃ p, LitBy sl.light.lit p ∧ w.entry.start ≤ p ∧ p < w.entry.start + w.entry.len) ∨
      ∃ i ∈ sl.light.strays, w.entry.windowId = some i) := by
  rw [Slot.strayWindow, Bool.and_eq_true, decide_eq_true_eq, Bool.or_eq_true, litWithin_iff]
  refine and_congr_right fun _ => or_congr_right ?_
  cases w.entry.windowId <;> simp

theorem darkLight_iff (dk : Nat) {sl : Slot} (inside : ∀ r ∈ sl.light.lit, r.1 + r.2 ≤ 25000) :
    darkLight dk sl = true ↔ ∃ p, LitBy sl.light.lit p ∧ 25000 - dk ≤ p := by
  refine (litWithin_iff (25000 - dk) 25000 sl.light.lit).trans (exists_congr fun p => and_congr_right fun ⟨r, hr, h1, h2⟩ => ?_)
  have short := inside r hr
  omega

/-! ## The symptom record and the rogue state (R128, R129) -/

section
variable {f : FeederId} {n : CycleNo} {s : State}

theorem keepRecent_eq (n : CycleNo) (l : List CycleNo) :
    keepRecent n l = l.filter fun m => decide ((n - m).toNat < 64) := rfl

/-- A cycle that bore a symptom (R129). -/
theorem updateRogue_bore {x : Feeder} (hx : x = s.feeder f) {kept : List CycleNo}
    (hk : kept = x.recent.filter fun m => decide ((n - m).toNat < 64)) {alert : Bool}
    (h : alert = true ↔ (x.rogue = .clear ∨ x.rogue = .watch) ∧ x.settings.alertLimit ≤ kept.length + 1) :
    updateRogue f n true s =
      (if alert then notify (.rogueAlert f .symptoms) else id) (s.setFeeder f { x with
        quiet := 0, recent := kept ++ [n]
        rogue := if alert then .alert else if x.rogue = .clear then .watch else x.rogue }) := by
  subst hx
  have reached : ((if (s.feeder f).rogue = .clear then RogueState.watch else (s.feeder f).rogue) = .watch ∧
      (s.feeder f).settings.alertLimit ≤ (keepRecent n (s.feeder f).recent ++ [n]).length) ↔ alert = true := by
    rw [h, keepRecent_eq, ← hk, List.length_append]
    refine and_congr_left fun _ => ?_
    cases (s.feeder f).rogue <;> simp
  unfold updateRogue
  dsimp only
  rw [if_pos rfl, if_congr reached rfl rfl, keepRecent_eq, ← hk]
  cases alert <;> rfl

/-- A quiet cycle (R129). -/
theorem updateRogue_quiet {x : Feeder} (hx : x = s.feeder f) {kept : List CycleNo}
    (hk : kept = x.recent.filter fun m => decide ((n - m).toNat < 64)) {quiet : Nat} (hq : quiet = min (x.quiet + 1) 4000)
    {clears : Bool} (h : clears = true ↔ (x.rogue = .watch ∧ 64 ≤ quiet) ∨
      ((x.rogue = .alert ∨ x.rogue = .unattributed) ∧ 4000 ≤ quiet)) :
    updateRogue f n false s =
      (if clears = true ∧ x.rogue ≠ .watch then notify (.rogueCleared f) else id) (s.setFeeder f { x with
        quiet := quiet, recent := if clears then [] else kept, rogue := if clears then .clear else x.rogue }) := by
  subst hx
  have limit : min ((s.feeder f).quiet + 1) Config.longCycles = quiet := hq.symm
  unfold updateRogue
  dsimp only
  rw [if_neg Bool.false_ne_true, limit, keepRecent_eq, ← hk]
  by_cases watch : (s.feeder f).rogue = .watch ∧ 64 ≤ quiet
  · have clear : clears = true := h.2 (.inl watch)
    refine (if_pos watch).trans ?_
    rw [clear, if_neg (c := true = true ∧ (s.feeder f).rogue ≠ .watch) fun both => both.2 watch.1]
    rfl
  · refine (if_neg watch).trans ?_
    by_cases long : ((s.feeder f).rogue = .alert ∨ (s.feeder f).rogue = .unattributed) ∧ 4000 ≤ quiet
    · have clear : clears = true := h.2 (.inr long)
      have other : (s.feeder f).rogue ≠ .watch := by obtain e | e := long.1 <;> simp [e]
      refine (if_pos long).trans ?_
      rw [clear, if_pos (c := true = true ∧ _) ⟨rfl, other⟩]
      rfl
    · have stays : clears = false := Bool.eq_false_iff.2 fun clear => (h.1 clear).elim watch long
      refine (if_neg long).trans ?_
      rw [stays, if_neg (c := false = true ∧ _) fun both => Bool.false_ne_true both.1]
      rfl

/-- A state that a notice may follow: the notice's only trace is the agent's. -/
theorem notified_if {c : Prop} [Decidable c] (nt : Notice) (s : State) (x : Feeder) :
    ∃ t, (if c then notify nt else id) (s.setFeeder f x) = t ∧ t = { s.setFeeder f x with agent := t.agent } ∧
      t.agent = if c then (notify nt s).agent else s.agent := by
  refine ⟨_, rfl, ?_⟩
  by_cases told : c
  · rw [if_pos told, if_pos told]
    exact ⟨notify_frame .., notify_agent_congr _ rfl rfl⟩
  · rw [if_neg told, if_neg told]
    exact ⟨rfl, rfl⟩

end

/-- Settles O46: the symptoms are counted word by word, and the rogue state moves by them. -/
theorem lightIsJudgedOnce : Obligations.LightIsJudgedOnce := by
  unfold Obligations.LightIsJudgedOnce
  refine ⟨fun f sl s y dk lit dark open1 bore excused strays hdk inside hlit hdark hopen hexcused hstrays hbore hy => ?_,
    fun f n s x kept hx hk => ⟨fun alert h => ?_, fun quiet clears hq h => ?_⟩⟩
  · subst hdk
    have lit_eq : ∀ p, lit p = true ↔ LitBy sl.light.lit p := hlit
    have isDark : darkLight (s.feeder f).settings.dk sl = dark := by
      rw [Bool.eq_iff_iff, darkLight_iff _ inside, hdark]
      simp only [lit_eq]
    have isOpen : (uncovered (s.feeder f).settings.dk sl).isEmpty = !open1 := by
      rw [← Bool.not_eq_eq_eq_not, Bool.eq_iff_iff, Bool.not_eq_true', uncovered_isEmpty _ inside, hopen]
      simp only [lit_eq]
    have isExcused : sl.strayWindow = excused := by
      funext w
      rw [Bool.eq_iff_iff, strayWindow_iff, hexcused]
      simp only [lit_eq]
    have isStray : strayCount (s.feeder f).settings.dk sl = strays := by
      rw [strayCount, isOpen, isExcused, hstrays]
      cases open1 <;> rfl
    have isBore : (dark || decide (0 < strays) || (sl.light.stuck ||
        (s.feeder f).stuck.any fun c => atOrBefore c sl.cycle)) = bore := by
      rw [Bool.eq_iff_iff, hbore]
      simp only [Bool.or_eq_true, decide_eq_true_eq, Option.any_eq_true, atOrBefore, or_assoc]
      rfl
    have judged : judgeLight f sl s =
        if (s.feeder f).rogue = .isolating then observeCycle f sl.cycle bore y else updateRogue f sl.cycle bore y := by
      rw [hy, ← isBore, ← isStray, ← isDark]
      rfl
    exact ⟨fun isolating => judged.trans (if_pos isolating), fun free => judged.trans (if_neg free)⟩
  · rw [updateRogue_bore hx hk h]
    exact notified_if ..
  · rw [updateRogue_quiet hx hk hq h]
    exact notified_if ..

end Sys2Proof.Machine
end

section
/-! PROOFS. The ring's slots and the light detector (R43, R121, R123, R130). -/

namespace Sys2Proof.Machine

/-! ## Slots of the ring (R43) -/

/-- Writing the slot of a held plan: every other plan stands as it stood. -/
theorem Feeder.slotOf_setSlot {x : Feeder} {n : CycleNo} {sl : Slot} (held : x.slotOf n = some sl) {o : Option Slot}
    (own : ∀ sl', o = some sl' → sl'.cycle = n) (m : CycleNo) :
    (x.setSlot n o).slotOf m = if m = n then o else x.slotOf m := by
  have present : x.ring.get (slotNumber n) = some sl := by
    unfold Feeder.slotOf at held
    split at held
    · next sl' at_n =>
      split at held
      · rw [at_n, Option.some.inj held]
      · cases held
    · cases held
  have owner := Feeder.cycle_of_slotOf held
  by_cases same : m = n
  · subst same
    rw [if_pos rfl]
    cases o with
    | none => simp [Feeder.slotOf, Feeder.setSlot]
    | some sl' => simp [Feeder.slotOf, Feeder.setSlot, own sl' rfl]
  · rw [if_neg same]
    by_cases place : m.toNat % 4 = n.toNat % 4
    · have place : slotNumber m = slotNumber n := place
      have none_before : x.slotOf m = none := by
        simp [Feeder.slotOf, place, present, owner, Ne.symm same]
      rw [none_before]
      cases o with
      | none => simp [Feeder.slotOf, Feeder.setSlot, place]
      | some sl' => simp [Feeder.slotOf, Feeder.setSlot, place, own sl' rfl, Ne.symm same]
    · exact Feeder.slotOf_setSlot_ne x place o

theorem Feeder.slotOf_onLight (x : Feeder) (n : CycleNo) (g : LightRecord → LightRecord) (m : CycleNo) :
    (x.onLight n g).slotOf m =
      (x.slotOf m).map fun sl => if m = n then { sl with light := g sl.light } else sl := by
  unfold Feeder.onLight
  cases held : x.slotOf n with
  | none =>
    by_cases same : m = n
    · rw [same, held]; rfl
    · simp [same]
  | some sl =>
    dsimp only
    have owner := Feeder.cycle_of_slotOf held
    rw [Feeder.slotOf_setSlot held fun sl' h => by rw [← Option.some.inj h]; exact owner]
    by_cases same : m = n
    · simp [same, held]
    · simp [same]

theorem Feeder.onLight_only_ring (x : Feeder) (n : CycleNo) (g : LightRecord → LightRecord) :
    x.onLight n g = { x with ring := (x.onLight n g).ring } := by
  unfold Feeder.onLight
  cases x.slotOf n <;> rfl

/-! ## The words of a run (R121, R123) -/

theorem Detector.clip_of_fits {t : Detector} {words : Nat} (inside : t.inCycle = true) (fits : t.pos + words ≤ 25000) :
    t.clip words = words := by
  have cut : t.clip words = min words (25000 - t.pos) := if_pos inside
  omega

/-- Words beyond the end of the cycle are cut. -/
theorem Detector.clip_of_beyond {t : Detector} {words : Nat} (beyond : 25000 < t.pos + words) :
    t.clip words = t.clip (25000 - t.pos) := by
  unfold Detector.clip
  split
  · have cut : min words (25000 - t.pos) = min (25000 - t.pos) (25000 - t.pos) := by omega
    exact cut
  · rfl

theorem Feeder.feedLight_congr {x : Feeder} {v w : Nat} (h : x.detector.clip v = x.detector.clip w) :
    x.feedLight v = x.feedLight w := by
  unfold Feeder.feedLight
  dsimp only
  rw [h]

theorem Feeder.feedDark_congr {x : Feeder} {v w : Nat} (h : x.detector.clip v = x.detector.clip w) :
    x.feedDark v = x.feedDark w := by
  unfold Feeder.feedDark
  dsimp only
  rw [h]

theorem Feeder.feedLight_of_clip_zero {x : Feeder} {words : Nat} (h : x.detector.clip words = 0) :
    x.feedLight words = x := by
  unfold Feeder.feedLight
  exact if_pos h

theorem Feeder.feedDark_of_clip_zero {x : Feeder} {words : Nat} (h : x.detector.clip words = 0) :
    x.feedDark words = x := by
  unfold Feeder.feedDark
  exact if_pos h

section
variable {x : Feeder} {words : Nat} (inside : x.detector.inCycle = true) (some : 1 ≤ words)
  (fits : x.detector.pos + words ≤ 25000)
include inside some fits

theorem Feeder.feedLight_of_passed (passed : x.detector.passed = true) : x.feedLight words =
    { x with detector := { x.detector with
        raw := x.detector.raw + words, pos := x.detector.pos + words
        measured := x.detector.measured + words } }.onLight x.detector.cycle
      fun l => { l with lit := l.lit ++ [(x.detector.pos, words)] } := by
  have clip := Detector.clip_of_fits inside fits
  unfold Feeder.feedLight
  dsimp only
  rw [clip, if_neg (by omega), if_pos passed]

/-- Light still too short for FILTER waits. -/
theorem Feeder.feedLight_of_short (waiting : x.detector.passed = false)
    (short : x.detector.raw + words < x.settings.filter) : x.feedLight words =
    { x with detector := { x.detector with raw := x.detector.raw + words, pos := x.detector.pos + words } } := by
  have clip := Detector.clip_of_fits inside fits
  unfold Feeder.feedLight
  dsimp only
  rw [clip, if_neg (by omega), waiting, if_neg Bool.false_ne_true, if_neg (by omega)]

/-- The detector once a run has come to FILTER (R123). -/
def Detector.passing (t : Detector) (words : Nat) : Detector :=
  { t with
    raw := t.raw + words, passed := true, pos := t.pos + words, dark := 0
    measured := if t.measured = 0 ∨ 8 ≤ t.dark then t.raw + words else t.measured + t.dark + (t.raw + words) }

/-- The words that join the light record of cycle `m` as a run comes to FILTER (R121). -/
def Detector.passedWords (t : Detector) (words : Nat) (m : CycleNo) : List (Nat × Nat) :=
  (if m = t.cycle then [(t.pos - t.raw, words + min t.raw t.pos)] else []) ++
  (if m = t.cycle - 1 ∧ t.pos < t.raw then [(25000 - (t.raw - t.pos), t.raw - t.pos)] else [])

theorem Feeder.feedLight_of_long (waiting : x.detector.passed = false)
    (long : x.settings.filter ≤ x.detector.raw + words) : ∃ y, x.feedLight words = y ∧
    y = { x with detector := x.detector.passing words, ring := y.ring } ∧
    ∀ m, y.slotOf m = (x.slotOf m).map fun sl => { sl with light := { sl.light with
      lit := sl.light.lit ++ x.detector.passedWords words m } } := by
  have clip := Detector.clip_of_fits inside fits
  refine ⟨_, rfl, ?_⟩
  unfold Feeder.feedLight
  dsimp only
  rw [clip, if_neg (by omega), waiting, if_neg Bool.false_ne_true, if_pos long]
  have apart : x.detector.cycle ≠ x.detector.cycle - 1 := by
    intro h
    bv_omega
  have run : x.detector.pos + words - (x.detector.pos - x.detector.raw) =
      words + min x.detector.raw x.detector.pos := by omega
  rw [run]
  by_cases within : x.detector.raw - x.detector.pos = 0
  · rw [if_pos within]
    refine ⟨Feeder.onLight_only_ring .., fun m => ?_⟩
    rw [Feeder.slotOf_onLight]
    refine congrArg (fun g => Option.map g (x.slotOf m)) (funext fun sl => ?_)
    rw [Detector.passedWords, if_neg (c := _ ∧ _) (by omega), List.append_nil]
    by_cases here : m = x.detector.cycle
    · rw [if_pos here, if_pos here]
    · rw [if_neg here, if_neg here, List.append_nil]
  · rw [if_neg within]
    refine ⟨?_, fun m => ?_⟩
    · rw [Feeder.onLight_only_ring, Feeder.onLight_only_ring _ (x.detector.cycle - 1)]
      rfl
    · rw [Feeder.slotOf_onLight, Feeder.slotOf_onLight, Option.map_map]
      refine congrArg (fun g => Option.map g (x.slotOf m)) (funext fun sl => ?_)
      have behind : x.detector.pos < x.detector.raw := by omega
      rw [Detector.passedWords]
      by_cases here : m = x.detector.cycle
      · have later : m ≠ x.detector.cycle - 1 := here ▸ apart
        simp only [Function.comp, if_neg later, if_pos here, if_neg fun both : m = _ ∧ _ => later both.1, List.append_nil]
      · by_cases before : m = x.detector.cycle - 1
        · simp only [Function.comp, if_neg here, if_pos before, if_pos (And.intro before behind), List.nil_append]
          rfl
        · simp only [Function.comp, if_neg here, if_neg before, if_neg fun both : m = _ ∧ _ => before both.1,
            List.append_nil]

theorem Feeder.feedDark_eq : x.feedDark words =
    { x with
      detector := { x.detector with
        raw := 0, passed := false, pos := x.detector.pos + words
        dark := min (if x.detector.passed then words else x.detector.dark + x.detector.raw + words) 16
        measured := if 8 ≤ (if x.detector.passed then words else x.detector.dark + x.detector.raw + words) then 0
          else x.detector.measured }
      stuck := if 16 ≤ (if x.detector.passed then words else x.detector.dark + x.detector.raw + words) then none
        else x.stuck } := by
  have clip := Detector.clip_of_fits inside fits
  unfold Feeder.feedDark
  dsimp only
  rw [clip, if_neg (by omega)]

end

/-! ## The onset (R123, R130) -/

/-- The onset test, in both cases. -/
theorem checkOnset_spec (f : FeederId) (s : State) {y : Feeder} (looking : y.detector.looking = true) {onset : Bool}
    (honset : onset = true ↔ y.stuck = none ∧ 25000 * y.settings.stuckLimit ≤ y.detector.measured) :
    ∃ t, checkOnset f (s.setFeeder f y) = t ∧
      t = { s.setFeeder f { y with
        ring := (t.feeder f).ring
        stuck := if onset then some y.onsetCycle else y.stuck
        rogue := if onset = true ∧ (y.rogue = .clear ∨ y.rogue = .watch) then .alert else y.rogue
        lightCount := { y.lightCount with
          stuckOnsets := y.lightCount.stuckOnsets + if onset then 1 else 0 } } with agent := t.agent } ∧
      t.agent = (if onset = true ∧ (y.rogue = .clear ∨ y.rogue = .watch)
        then (notify (.rogueAlert f .stuck) s).agent else s.agent) ∧
      ∀ m, (t.feeder f).slotOf m = (y.slotOf m).map fun sl => { sl with light := { sl.light with
        stuck := sl.light.stuck || (onset && decide (sl.state ≠ .waiting ∧ (m - y.onsetCycle).toNat < 2 ^ 31 ∧
          (y.detector.cycle - m).toNat < 2 ^ 31)) } } := by
  cases onset with
  | true =>
    obtain ⟨calm, long⟩ := honset.1 rfl
    have begins := checkOnset_of_onset (f := f) (s := s.setFeeder f y) (by rwa [State.feeder_setFeeder_self])
      (by rwa [State.feeder_setFeeder_self]) (by rwa [State.feeder_setFeeder_self])
    rw [State.feeder_setFeeder_self, State.setFeeder_setFeeder] at begins
    refine ⟨_, begins, ?_, ?_, fun m => ?_⟩
    · rw [alertStuck_feeder, State.feeder_setFeeder_self, alertStuck_frame]
      simp only [Feeder.withOnset, RogueState.alerted, if_true, true_and]
    · simp only [true_and, alertStuck]
      split
      · exact notify_agent_congr _ rfl rfl
      · rfl
    · rw [alertStuck_feeder, State.feeder_setFeeder_self, Feeder.slotOf_withOnset]
      refine Option.map_congr fun sl held => ?_
      rw [Feeder.cycle_of_slotOf held]
      split
      next bears => rw [decide_eq_true bears, Bool.and_self, Bool.or_true]
      next spared =>
        rw [decide_eq_false spared, Bool.and_false, Bool.or_false, ← Feeder.cycle_of_slotOf held]
  | false =>
    refine ⟨_, checkOnset_of_not ?_, ?_, ?_, fun m => ?_⟩
    · rw [State.feeder_setFeeder_self]
      by_cases calm : y.stuck = none
      · exact .inl (Nat.lt_of_not_le fun long => absurd (honset.2 ⟨calm, long⟩) Bool.false_ne_true)
      · exact .inr (.inr calm)
    · rw [State.feeder_setFeeder_self]
      have still : y.lightCount.stuckOnsets + 0 = y.lightCount.stuckOnsets := BitVec.add_zero _
      simp only [Bool.false_eq_true, false_and, if_false, still]
    · simp
    · rw [State.feeder_setFeeder_self]
      simp

end Sys2Proof.Machine
end

section
/-! PROOFS. What the judgement of a light record leaves alone, and the detector over its cycles (R44, R121 to R123). -/

namespace Sys2Proof.Machine

/-! ## What a judgement and a completion leave alone -/

namespace MonitorClosed

variable {f : FeederId} {R : State → State → Prop} (h : MonitorClosed f R)
include h

theorem endObservation (s : State) : R s (endObservation f s) := by
  have relit : ∀ (l : List Nat) s, R s (l.foldl (Machine.isolationRelight f) s) := h.foldl h.isolationRelight
  unfold Machine.endObservation
  dsimp only
  split
  · exact h.trans (h.trans (h.onIsolation _ s) (relit _ _)) (h.nextStep _)
  · exact h.trans (h.onIsolation _ s) (relit _ _)

theorem endConfirm (s : State) : R s (endConfirm f s) := by
  unfold Machine.endConfirm
  dsimp only
  split
  · exact h.refl s
  · split
    · exact h.trans (h.isolationRelight s _) (h.reachEnd _ _)
    · exact h.trans (h.trans (h.trans (h.onIsolation _ s) (h.isolationQuarantine _ _))
        (h.light _ Feeder.rogue Feeder.recent Feeder.quiet Feeder.isolation
          fun x => { x.lightCount with quarantines := x.lightCount.quarantines + 1 })) (h.notify _ _)

theorem observeCycle (n : CycleNo) (bore : Bool) (s : State) : R s (observeCycle f n bore s) := by
  unfold Machine.observeCycle
  dsimp only
  split
  · split
    · split
      · exact h.trans (h.onIsolation _ s) (h.endConfirm _)
      · exact h.trans (h.onIsolation _ s) (h.endObservation _)
    · exact h.onIsolation _ s
  · exact h.refl s

/-- The symptom record and the rogue state move. -/
theorem symptoms (quiet : Nat) (recent : List CycleNo) (rogue : RogueState) (s : State) :
    R s (s.onFeeder f fun x => { x with quiet := quiet, recent := recent, rogue := rogue }) :=
  h.light s (fun _ => rogue) (fun _ => recent) (fun _ => quiet) Feeder.isolation Feeder.lightCount

theorem updateRogue (n : CycleNo) (bore : Bool) (s : State) : R s (updateRogue f n bore s) := by
  unfold Machine.updateRogue
  dsimp only
  generalize (if (s.feeder f).rogue = .clear then RogueState.watch else (s.feeder f).rogue) = bears
  split
  · split
    · exact h.trans (h.symptoms _ _ _ s) (h.notify _ _)
    · exact h.symptoms _ _ _ s
  · split
    · exact h.symptoms _ _ _ s
    · split
      · exact h.trans (h.symptoms _ _ _ s) (h.notify _ _)
      · exact h.light s Feeder.rogue _ _ Feeder.isolation Feeder.lightCount

theorem judgeLight (sl : Slot) (s : State) : R s (judgeLight f sl s) := by
  unfold Machine.judgeLight
  dsimp only
  split
  · exact h.trans (h.light s Feeder.rogue Feeder.recent Feeder.quiet Feeder.isolation _) (h.observeCycle _ _ _)
  · exact h.trans (h.light s Feeder.rogue Feeder.recent Feeder.quiet Feeder.isolation _) (h.updateRogue _ _ _)

end MonitorClosed

theorem lineKept_leavingTest (f : FeederId) (s : State) (d : Nat) : LineKept f s (leavingTest f s d) := by
  unfold leavingTest
  split
  · exact lineKept_freeRecord ..
  · exact .refl f s

/-- A completion: the slot is FREE, with its marks and its discovery window, and nothing else of the line moves. -/
theorem lineKept_complete (f : FeederId) (sl : Slot) (s : State) :
    LineKept f (s.onFeeder f fun x => ((x.setSlot sl.cycle none).clearMarks sl.cycle).completeDiscovery sl.cycle)
      (complete f sl s) :=
  ((lineKept_closed f).foldl (lineKept_leavingTest f) dropIndices _).trans ((lineKept_closed f).judgeLight sl _)

theorem LineKept.ring {f : FeederId} {s t : State} (h : LineKept f s t) : (t.feeder f).ring = (s.feeder f).ring :=
  congrArg (fun p => p.2.2.2.2.2.2.2.2.2.2.1) h.own

theorem LineKept.detector {f : FeederId} {s t : State} (h : LineKept f s t) :
    (t.feeder f).detector = (s.feeder f).detector := congrArg (fun p => p.2.2.2.2.2.2.2.2.2.2.2.2.2.1) h.own

theorem complete_detector (f : FeederId) (sl : Slot) (s : State) :
    ((complete f sl s).feeder f).detector = (s.feeder f).detector :=
  (lineKept_complete f sl s).detector.trans (by rw [State.feeder_onFeeder_self]; rfl)

/-! ## The cycles that the detector is in (R121) -/

theorem Feeder.enterCycle_detector (x : Feeder) (n : CycleNo) : (x.enterCycle n).detector =
    { x.detector with looking := true, inCycle := true, cycle := n, pos := 0 } := by
  rw [Feeder.enterCycle, Feeder.onLight_only_ring]

theorem Feeder.leaveCycle_of_begun {x : Feeder} {sl : Slot} (held : x.slotOf (x.detector.cycle + 1) = some sl)
    (begun : sl.state = .receiving) :
    x.leaveCycle = { x with detector := { x.detector with inCycle := false } }.enterCycle (x.detector.cycle + 1) := by
  have same : Feeder.slotOf { x with detector := { x.detector with inCycle := false } } (x.detector.cycle + 1) = some sl :=
    held
  unfold Feeder.leaveCycle
  dsimp only
  rw [same]
  exact if_pos begun

theorem Feeder.leaveCycle_of_not_begun {x : Feeder}
    (not : ∀ sl, x.slotOf (x.detector.cycle + 1) = some sl → sl.state ≠ .receiving) :
    x.leaveCycle = { x with detector := { x.detector with inCycle := false } } := by
  have same : Feeder.slotOf { x with detector := { x.detector with inCycle := false } } (x.detector.cycle + 1) =
    x.slotOf (x.detector.cycle + 1) := rfl
  unfold Feeder.leaveCycle
  dsimp only
  rw [same]
  cases held : x.slotOf (x.detector.cycle + 1) with
  | none => rfl
  | some sl => exact if_neg (not sl held)

/-- Leaving a cycle moves nothing of the run under way. -/
theorem Feeder.leaveCycle_detector (x : Feeder) : ∃ inCycle cycle pos looking, x.leaveCycle.detector =
    { x.detector with looking := looking, inCycle := inCycle, cycle := cycle, pos := pos } := by
  by_cases begun : ∃ sl, x.slotOf (x.detector.cycle + 1) = some sl ∧ sl.state = .receiving
  · obtain ⟨sl, held, state⟩ := begun
    rw [Feeder.leaveCycle_of_begun held state, Feeder.enterCycle_detector]
    exact ⟨_, _, _, _, rfl⟩
  · rw [Feeder.leaveCycle_of_not_begun fun sl held state => begun ⟨sl, held, state⟩]
    exact ⟨_, _, _, _, rfl⟩

theorem checkOnset_detector (f : FeederId) (s : State) :
    ((checkOnset f s).feeder f).detector = (s.feeder f).detector := by
  unfold checkOnset
  dsimp only
  split
  · split
    · rw [notify_feeder, State.onFeeder_onFeeder, State.feeder_onFeeder_self]
    · rw [State.feeder_onFeeder_self]
  · rfl

/-- At the end of its cycle the detector examines nothing more. -/
theorem feedRun_detector_of_full {f : FeederId} {s : State} (full : (s.feeder f).detector.pos = 25000) (r : LightRun) :
    ((feedRun f s r).feeder f).detector = (s.feeder f).detector := by
  have none : (s.feeder f).detector.clip r.words = 0 := by
    unfold Detector.clip
    split
    · have cut : min r.words (25000 - (s.feeder f).detector.pos) = 0 := by omega
      exact cut
    · rfl
  unfold feedRun
  split
  · rw [checkOnset_detector, State.feeder_onFeeder_self, Feeder.feedLight_of_clip_zero none]
  · rw [State.feeder_onFeeder_self, Feeder.feedDark_of_clip_zero none]

theorem feedRuns_detector_of_full {f : FeederId} {s : State} (full : (s.feeder f).detector.pos = 25000)
    (l : List LightRun) : ((l.foldl (feedRun f) s).feeder f).detector = (s.feeder f).detector := by
  induction l generalizing s with
  | nil => rfl
  | cons r l ih =>
    have here := feedRun_detector_of_full full r
    exact (ih (by rw [here, full])).trans here

/-- The end of a cycle of which every word was examined leaves the run under way as it is. -/
theorem endCycle_detector_of_full {f : FeederId} {n : CycleNo} {light : List LightRun} {s : State}
    (full : (s.feeder f).detector.pos = 25000) : ∃ inCycle cycle pos looking,
      ((endCycle f n light s).feeder f).detector =
        { (s.feeder f).detector with looking := looking, inCycle := inCycle, cycle := cycle, pos := pos } := by
  have runs := feedRuns_detector_of_full full light
  have fed := (feedRun_detector_of_full (runs ▸ full) ⟨false, Config.cycleWords⟩).trans runs
  have left := ((feedRun f (light.foldl (feedRun f) s) ⟨false, Config.cycleWords⟩).feeder f).leaveCycle_detector
  rw [fed] at left
  unfold endCycle
  split
  · exact ⟨_, _, _, _, rfl⟩
  · split
    · exact ⟨_, _, _, _, rfl⟩
    · dsimp only
      split
      · rwa [State.feeder_onFeeder_self]
      · split
        · rwa [complete_detector, State.feeder_onFeeder_self]
        · rw [State.feeder_onFeeder_self, State.feeder_onFeeder_self]
          exact left

/-- UPSTREAM_CYCLE_BEGIN with no cycle under way (R44, R121). -/
theorem Feeder.beginCycle_of_waiting {x : Feeder} {n : CycleNo} {sl : Slot} (held : x.slotOf n = some sl)
    (waiting : sl.state = .waiting) : x.beginCycle n =
      if x.detector.inCycle then x.setSlot n (some { sl with state := .receiving })
      else (x.setSlot n (some { sl with state := .receiving })).enterCycle n := by
  unfold Feeder.beginCycle
  rw [held]
  exact if_pos waiting

/-! ## STUCK_ONSET and STUCK_CLEAR (R121, R123) -/

section
variable (f : FeederId) (words : Nat) {s : State}

theorem exec_stuckOnset (live : s.resetHeld = false) :
    exec (.stuckOnset f words) s = .next (checkOnset f (s.setFeeder f ((s.feeder f).feedLight words))) :=
  exec_live (c := .stuckOnset f words) (g := fun s => feedRun f s ⟨true, words⟩) rfl live

theorem exec_stuckClear (live : s.resetHeld = false) :
    exec (.stuckClear f words) s = .next (s.setFeeder f ((s.feeder f).feedDark words)) :=
  exec_live (c := .stuckClear f words) (g := fun s => feedRun f s ⟨false, words⟩) rfl live

theorem exec_stuck_of_beyond (beyond : 25000 < (s.feeder f).detector.pos + words) :
    exec (.stuckOnset f words) s = exec (.stuckOnset f (25000 - (s.feeder f).detector.pos)) s ∧
    exec (.stuckClear f words) s = exec (.stuckClear f (25000 - (s.feeder f).detector.pos)) s := by
  have clip := Detector.clip_of_beyond beyond
  have onset : ∀ w, exec (.stuckOnset f w) s = live s fun s => feedRun f s ⟨true, w⟩ := fun _ => rfl
  have clear : ∀ w, exec (.stuckClear f w) s = live s fun s => feedRun f s ⟨false, w⟩ := fun _ => rfl
  constructor
  · rw [onset, onset, live, live]
    simp only [feedRun, if_true, State.onFeeder, Feeder.feedLight_congr clip]
  · rw [clear, clear, live, live]
    simp only [feedRun, Bool.false_eq_true, if_false, State.onFeeder, Feeder.feedDark_congr clip]

end

/-- What the words that join the record and the onset test after them do together. -/
theorem onset_after_words (f : FeederId) (s : State) {x : Feeder} {D : Detector} {r : Quad (Option Slot)}
    {runs : CycleNo → List (Nat × Nat)} (looking : D.looking = true)
    (slots : ∀ m, Feeder.slotOf { x with detector := D, ring := r } m = (x.slotOf m).map fun sl =>
      { sl with light := { sl.light with lit := sl.light.lit ++ runs m } })
    {onset : Bool} (honset : onset = true ↔ x.stuck = none ∧ 25000 * x.settings.stuckLimit ≤ D.measured) {c : CycleNo}
    (since : onset = true → Feeder.onsetCycle { x with detector := D, ring := r } = c) :
    ∃ t, checkOnset f (s.setFeeder f { x with detector := D, ring := r }) = t ∧
      t = { s.setFeeder f { x with
        detector := D
        ring := (t.feeder f).ring
        stuck := if onset then some c else x.stuck
        rogue := if onset = true ∧ (x.rogue = .clear ∨ x.rogue = .watch) then .alert else x.rogue
        lightCount := { x.lightCount with
          stuckOnsets := x.lightCount.stuckOnsets + if onset then 1 else 0 } } with agent := t.agent } ∧
      t.agent = (if onset = true ∧ (x.rogue = .clear ∨ x.rogue = .watch)
        then (notify (.rogueAlert f .stuck) s).agent else s.agent) ∧
      ∀ m, (t.feeder f).slotOf m = (x.slotOf m).map fun sl => { sl with light := { sl.light with
        lit := sl.light.lit ++ runs m
        stuck := sl.light.stuck || (onset && decide (sl.state ≠ .waiting ∧ (m - c).toNat < 2 ^ 31 ∧
          (D.cycle - m).toNat < 2 ^ 31)) } } := by
  obtain ⟨t, tested, frame, agent, each⟩ := checkOnset_spec f s (y := { x with detector := D, ring := r }) looking honset
  refine ⟨t, tested, ?_, agent, fun m => ?_⟩
  · cases onset with
    | true => rwa [since rfl] at frame
    | false => exact frame
  · rw [each, slots, Option.map_map]
    cases onset with
    | true => rw [since rfl]; rfl
    | false => rfl

theorem Feeder.onsetCycle_of_passed {x : Feeder} (passed : x.detector.passed = true) {back : Nat}
    (hb : back = x.detector.measured - 25000 * x.settings.stuckLimit) : x.onsetCycle =
      if back < x.detector.pos then x.detector.cycle
      else x.detector.cycle - BitVec.ofNat 32 ((back - x.detector.pos) / 25000 + 1) := by
  have words : x.settings.stuckWords = 25000 * x.settings.stuckLimit := Nat.mul_comm ..
  unfold Feeder.onsetCycle
  simp only [Detector.tail, passed, if_true, Nat.add_zero, words, ← hb]
  rfl

/-- Settles O45: the words a run adds, where the onset lies, and what ends the run. -/
theorem stuckNeedsALongRun : Obligations.StuckNeedsALongRun := by
  unfold Obligations.StuckNeedsALongRun
  refine ⟨fun f words onset s x live hx looking inside passed one fits calm honset => ?_,
    fun f words s live inside passed one fits => ?_,
    fun f words run pos s x live hx inside waiting one hpos fits => ⟨fun hrun => ?_, fun hrun looking calm => ⟨fun short => ?_,
      fun long => ?_⟩⟩, fun f words s beyond => ?_, fun f n light s live full => ?_,
    fun f n sl s live held waiting outside => ?_⟩
  · subst hx
    obtain ⟨r, fed, slots⟩ : ∃ r, (s.feeder f).feedLight words = { s.feeder f with
        detector := { (s.feeder f).detector with
          raw := (s.feeder f).detector.raw + words, pos := (s.feeder f).detector.pos + words
          measured := (s.feeder f).detector.measured + words }
        ring := r } ∧ ∀ m, ((s.feeder f).feedLight words).slotOf m = ((s.feeder f).slotOf m).map fun sl =>
          { sl with light := { sl.light with lit := sl.light.lit ++
            if m = (s.feeder f).detector.cycle then [((s.feeder f).detector.pos, words)] else [] } } := by
      rw [Feeder.feedLight_of_passed inside one fits passed]
      refine ⟨_, Feeder.onLight_only_ring .., fun m => (Feeder.slotOf_onLight ..).trans ?_⟩
      refine congrArg (fun g => Option.map g ((s.feeder f).slotOf m)) (funext fun sl => ?_)
      split
      · rfl
      · rw [List.append_nil]
    rw [fed] at slots
    obtain ⟨t, tested, frame, agent, each⟩ := onset_after_words f s
      (D := { (s.feeder f).detector with
        raw := (s.feeder f).detector.raw + words, pos := (s.feeder f).detector.pos + words
        measured := (s.feeder f).detector.measured + words }) looking slots honset (c := (s.feeder f).detector.cycle)
      fun active => by
        obtain ⟨clear, -⟩ := honset.1 active
        have short := calm clear
        refine Eq.trans (Feeder.onsetCycle_of_passed ?_ rfl) (if_pos ?_)
        · exact passed
        · dsimp only
          omega
    rw [exec_stuckOnset f words live, fed, tested]
    refine ⟨t, rfl, frame, fun m hm => ?_, ?_, agent⟩
    · rw [each]
      have later : ¬ ((m - (s.feeder f).detector.cycle).toNat < 2 ^ 31 ∧
          ((s.feeder f).detector.cycle - m).toNat < 2 ^ 31) := by bv_omega
      simp only [if_neg hm, later, and_false, decide_false, Bool.and_false, Bool.or_false, List.append_nil]
      exact Option.map_id'
    · rw [each]
      simp only [if_true, BitVec.sub_self, BitVec.toNat_zero, Nat.two_pow_pos, and_true]
  · refine ⟨_, exec_stuckClear f words live, ?_, ?_⟩
    all_goals rw [State.feeder_setFeeder_self, Feeder.feedDark_eq inside one fits]
    all_goals simp only [passed, if_true]
  · subst hx hpos hrun
    rw [exec_stuckClear f words live, Feeder.feedDark_eq inside one fits]
    simp only [waiting, Bool.false_eq_true, if_false]
  · subst hx hpos hrun
    rw [exec_stuckOnset f words live, Feeder.feedLight_of_short inside one fits waiting short]
    refine congrArg _ (checkOnset_of_not ?_)
    rw [State.feeder_setFeeder_self]
    by_cases clear : (s.feeder f).stuck = none
    · exact .inl (calm clear)
    · exact .inr (.inr clear)
  · subst hx hpos hrun
    obtain ⟨y, fed, frame, slots⟩ := Feeder.feedLight_of_long inside one fits waiting long
    rw [exec_stuckOnset f words live, fed]
    refine ⟨_, rfl, fun measured back onset c hmeasured honset hback hc => ?_⟩
    subst hmeasured
    rw [frame] at slots ⊢
    obtain ⟨t, tested, whole, agent, each⟩ := onset_after_words f s (D := (s.feeder f).detector.passing words)
      (c := c) looking slots honset fun _ => by
        rw [hc]
        exact Feeder.onsetCycle_of_passed rfl hback
    rw [tested]
    refine ⟨whole, agent, fun m => ?_⟩
    rw [each]
    simp only [Detector.passedWords, List.append_assoc]
    rfl
  · exact exec_stuck_of_beyond f words beyond
  · refine ⟨_, exec_live (c := .upstreamCycleEnd f n light) (g := endCycle f n light) rfl live, ?_⟩
    obtain ⟨_, _, _, _, same⟩ := endCycle_detector_of_full (n := n) (light := light) full
    rw [same]
    exact ⟨rfl, rfl, rfl, rfl⟩
  · refine ⟨_, exec_live (c := .upstreamCycleBegin f n) (g := fun s => s.onFeeder f fun x => x.beginCycle n) rfl live, ?_⟩
    rw [State.feeder_onFeeder_self, Feeder.beginCycle_of_waiting held waiting, outside, if_neg Bool.false_ne_true,
      Feeder.enterCycle_detector]
    rfl

end Sys2Proof.Machine
end

section
/-! PROOFS. The ring's slots pass through their states (R44, R48, R50, R81, R115, R121, R123). -/

namespace Sys2Proof.Machine

/-! ## What light does to a feeder (R121, R123) -/

/-- A slot but for its light. -/
def Slot.unlit (sl : Slot) : Slot := { sl with light := LightRecord.dark }

/-- From `s` to `t` feeder `f` has examined light: its slots' light, its detector and what STUCK moves, and nothing
else. -/
structure Lit (f : FeederId) (s t : State) : Prop where
  frame : t = { s.setFeeder f { s.feeder f with
    ring := (t.feeder f).ring, detector := (t.feeder f).detector, stuck := (t.feeder f).stuck
    rogue := (t.feeder f).rogue, lightCount := { (s.feeder f).lightCount with
      stuckOnsets := (t.feeder f).lightCount.stuckOnsets } } with agent := t.agent }
  slots : ∀ m, ((t.feeder f).slotOf m).map Slot.unlit = ((s.feeder f).slotOf m).map Slot.unlit

section
variable {f : FeederId} {s t u : State}

theorem Lit.feeder (h : Lit f s t) : t.feeder f = { s.feeder f with
    ring := (t.feeder f).ring, detector := (t.feeder f).detector, stuck := (t.feeder f).stuck
    rogue := (t.feeder f).rogue, lightCount := { (s.feeder f).lightCount with
      stuckOnsets := (t.feeder f).lightCount.stuckOnsets } } :=
  (congrArg (fun t : State => t.feeder f) h.frame).trans (State.feeder_setFeeder_self ..)

theorem Lit.refl (s : State) : Lit f s s := ⟨by rw [State.setFeeder_feeder], fun _ => rfl⟩

theorem Lit.trans (h : Lit f s t) (k : Lit f t u) : Lit f s u := by
  refine ⟨?_, fun m => (k.slots m).trans (h.slots m)⟩
  have frame := k.frame
  rw [h.feeder] at frame
  refine frame.trans ?_
  rw [h.frame]
  simp only [State.setFeeder, PerFeeder.set_set]

theorem Lit.foldl {α : Type} {op : State → α → State} (h : ∀ s a, Lit f s (op s a)) (l : List α) (s : State) :
    Lit f s (l.foldl op s) := by
  induction l generalizing s with
  | nil => exact .refl s
  | cons a l ih => exact (h s a).trans (ih _)

/-- A change of the feeder's light alone. -/
theorem Lit.onFeeder {y : Feeder} (h : y = { s.feeder f with
      ring := y.ring, detector := y.detector, stuck := y.stuck, rogue := y.rogue
      lightCount := { (s.feeder f).lightCount with stuckOnsets := y.lightCount.stuckOnsets } })
    (slots : ∀ m, (y.slotOf m).map Slot.unlit = ((s.feeder f).slotOf m).map Slot.unlit) : Lit f s (s.setFeeder f y) := by
  refine ⟨?_, fun m => by rw [State.feeder_setFeeder_self]; exact slots m⟩
  rw [State.feeder_setFeeder_self]
  exact congrArg (s.setFeeder f) h

end

theorem Feeder.unlit_onLight (x : Feeder) (n : CycleNo) (g : LightRecord → LightRecord) (m : CycleNo) :
    ((x.onLight n g).slotOf m).map Slot.unlit = (x.slotOf m).map Slot.unlit := by
  rw [Feeder.slotOf_onLight, Option.map_map]
  refine congrArg (fun h => Option.map h (x.slotOf m)) (funext fun sl => ?_)
  dsimp only [Function.comp]
  split <;> rfl

theorem Feeder.feedLight_lit (x : Feeder) (words : Nat) :
    x.feedLight words = { x with ring := (x.feedLight words).ring, detector := (x.feedLight words).detector } ∧
    ∀ m, ((x.feedLight words).slotOf m).map Slot.unlit = (x.slotOf m).map Slot.unlit := by
  unfold Feeder.feedLight
  dsimp only
  split
  · exact ⟨rfl, fun _ => rfl⟩
  · split
    · refine ⟨?_, fun m => Feeder.unlit_onLight ..⟩
      rw [Feeder.onLight_only_ring]
    · split
      · split
        · refine ⟨?_, fun m => Feeder.unlit_onLight ..⟩
          rw [Feeder.onLight_only_ring]
        · refine ⟨?_, fun m => (Feeder.unlit_onLight ..).trans (Feeder.unlit_onLight ..)⟩
          rw [Feeder.onLight_only_ring, Feeder.onLight_only_ring _ (x.detector.cycle - 1)]
      · exact ⟨rfl, fun _ => rfl⟩

theorem Feeder.feedDark_lit (x : Feeder) (words : Nat) :
    x.feedDark words = { x with detector := (x.feedDark words).detector, stuck := (x.feedDark words).stuck } := by
  unfold Feeder.feedDark
  dsimp only
  split <;> rfl

theorem lit_checkOnset (f : FeederId) (s : State) : Lit f s (checkOnset f s) := by
  by_cases long : 25000 * (s.feeder f).settings.stuckLimit ≤ (s.feeder f).detector.measured ∧
      (s.feeder f).detector.looking = true ∧ (s.feeder f).stuck = none
  · obtain ⟨long, looking, calm⟩ := long
    rw [checkOnset_of_onset long looking calm]
    have own : (alertStuck f (s.feeder f).rogue (s.setFeeder f (s.feeder f).withOnset)).feeder f =
        (s.feeder f).withOnset := by rw [alertStuck_feeder, State.feeder_setFeeder_self]
    refine ⟨?_, fun m => ?_⟩
    · rw [own, alertStuck_frame]
      rfl
    · rw [own, Feeder.slotOf_withOnset, Option.map_map]
      refine congrArg (fun h => Option.map h ((s.feeder f).slotOf m)) (funext fun sl => ?_)
      dsimp only [Function.comp]
      split <;> rfl
  · rw [checkOnset_of_not]
    · exact .refl s
    · by_contra all
      obtain ⟨short, all⟩ := not_or.1 all
      obtain ⟨looking, calm⟩ := not_or.1 all
      exact long ⟨Nat.not_lt.1 short, by simpa using looking, not_not.1 calm⟩

theorem lit_feedRun (f : FeederId) (s : State) (r : LightRun) : Lit f s (feedRun f s r) := by
  unfold feedRun
  split
  · obtain ⟨frame, slots⟩ := (s.feeder f).feedLight_lit r.words
    exact (Lit.onFeeder (by rw [frame]) slots).trans (lit_checkOnset f _)
  · have frame := (s.feeder f).feedDark_lit r.words
    refine Lit.onFeeder (by dsimp only; rw [frame]) fun m => ?_
    exact congrArg _ (Feeder.slotOf_congr (congrArg Feeder.ring frame) m)

theorem Feeder.enterCycle_frame (x : Feeder) (n : CycleNo) : x.enterCycle n = { x with
    ring := (x.enterCycle n).ring
    detector := { x.detector with looking := true, inCycle := true, cycle := n, pos := 0 } } := by
  rw [Feeder.enterCycle, Feeder.onLight_only_ring]

theorem Feeder.slotOf_enterCycle (x : Feeder) (n m : CycleNo) : (x.enterCycle n).slotOf m =
    (x.slotOf m).map fun sl => if m = n then
      { sl with light := { sl.light with stuck := sl.light.stuck || x.stuck.isSome } } else sl :=
  Feeder.slotOf_onLight ..

theorem lit_leaveCycle (f : FeederId) (s : State) : Lit f s (s.setFeeder f (s.feeder f).leaveCycle) := by
  by_cases begun : ∃ sl, (s.feeder f).slotOf ((s.feeder f).detector.cycle + 1) = some sl ∧ sl.state = .receiving
  · obtain ⟨sl, held, state⟩ := begun
    rw [Feeder.leaveCycle_of_begun held state]
    refine Lit.onFeeder ?_ fun m => ?_
    · rw [Feeder.enterCycle_frame]
    · exact Feeder.unlit_onLight ..
  · rw [Feeder.leaveCycle_of_not_begun fun sl held state => begun ⟨sl, held, state⟩]
    exact Lit.onFeeder rfl fun m => rfl

/-! ## The ends of a cycle (R44) -/

section
variable {f : FeederId} {n : CycleNo} {light : List LightRun} {s : State}

theorem endCycle_of_not (h : ∀ sl, (s.feeder f).receiving = some sl → sl.cycle ≠ n) : endCycle f n light s = s := by
  unfold endCycle
  split
  · rfl
  · next sl held => exact if_pos (h sl held)

theorem Feeder.receiving_cycle {x : Feeder} {sl : Slot} (h : x.receiving = some sl) : sl.cycle = x.detector.cycle :=
  Feeder.cycle_of_slotOf (Feeder.slotOf_of_receiving h)

/-- The cycle under way ends with its light examined and the detector out of it. -/
theorem endCycle_of_receiving {sl lit : Slot} {y : State} (held : (s.feeder f).receiving = some sl) (own : sl.cycle = n)
    (hy : y = (feedRun f (light.foldl (feedRun f) s) ⟨false, 25000⟩).onFeeder f Feeder.leaveCycle)
    (slot : (y.feeder f).slotOf n = some lit) : endCycle f n light s =
      if lit.allResolved then complete f lit y
      else y.setFeeder f ((y.feeder f).setSlot n (some { lit with state := .draining })) := by
  have kept : ((State.onFeeder (feedRun f (light.foldl (feedRun f) s) ⟨false, Config.cycleWords⟩) f
      Feeder.leaveCycle).feeder f).slotOf n = some lit := by rw [← slot, hy]; rfl
  unfold endCycle
  rw [held]
  dsimp only
  rw [if_neg (not_not.2 own), kept, hy]
  rfl

end

/-- The completion's own changes of the feeder (R44, R48, R81). -/
theorem Feeder.mark_clearMarks (x : Feeder) (n : CycleNo) (d : Nat) :
    (x.clearMarks n).mark d = if x.mark d = some (.cycle n) then none else x.mark d :=
  Tbl.get_update none (fun _ m => if m = some (ResumeMark.cycle n) then Option.none else m) (fun _ => if_neg nofun)
    x.marks d

theorem Feeder.completeDiscovery_eq (x : Feeder) (n : CycleNo) : x.completeDiscovery n = { x with
    discoveries := x.discoveries.filter fun e => decide (e.cycle ≠ n)
    sweep := { x.sweep with once := if x.sweep.once = .inFlight n then .none else x.sweep.once } } := by
  unfold Feeder.completeDiscovery
  by_cases flying : x.sweep.once = .inFlight n
  · rw [if_pos flying, if_pos flying]
  · rw [if_neg flying, if_neg flying]

/-- What of its slots a part of the work on other cycles leaves: states and windows. -/
theorem Lit.windows {f : FeederId} {s t : State} (h : Lit f s t) (m : CycleNo) :
    ((t.feeder f).slotOf m).map (fun sl => (sl.state, sl.windows)) =
      ((s.feeder f).slotOf m).map fun sl => (sl.state, sl.windows) := by
  have slots := congrArg (Option.map fun sl => (sl.state, sl.windows)) (h.slots m)
  rwa [Option.map_map, Option.map_map] at slots

theorem Lit.slot {f : FeederId} {s t : State} (h : Lit f s t) {n : CycleNo} {sl : Slot}
    (held : (s.feeder f).slotOf n = some sl) : ∃ lr, (t.feeder f).slotOf n = some { sl with light := lr } := by
  have slots := h.slots n
  rw [held, Option.map_some, Option.map_eq_some_iff] at slots
  obtain ⟨sl', held', same⟩ := slots
  refine ⟨sl'.light, held'.trans (congrArg some ?_)⟩
  exact congrArg (fun x : Slot => { x with light := sl'.light }) same

theorem slotOf_complete {f : FeederId} {sl : Slot} {s : State} (held : (s.feeder f).slotOf sl.cycle = some sl)
    (m : CycleNo) : ((complete f sl s).feeder f).slotOf m = if m = sl.cycle then none else (s.feeder f).slotOf m := by
  have ring := (lineKept_complete f sl s).ring
  rw [State.feeder_onFeeder_self] at ring
  exact (Feeder.slotOf_congr ring m).trans (Feeder.slotOf_setSlot held (o := none) (fun _ h => nomatch h) m)

theorem leavingTest_eq (f : FeederId) (s : State) (d : Nat) : leavingTest f s d =
    if (s.drop f d).state = .leaving ∧ (s.drop f d).lastSent.map Prod.fst = some .remove ∧
        (s.feeder f).ringHolds d = false
      then freeRecord f d ((s.drop f d).leave.getD .hostRemove) s else s := by
  have sent : ∀ o : Option (OrderKind × CycleNo), (o.any fun o => decide (o.1 = .remove)) = true ↔
      o.map Prod.fst = some .remove := fun o => by cases o <;> simp
  refine if_congr ?_ rfl rfl
  rw [Feeder.readyToFree, Bool.and_eq_true, Bool.and_eq_true, decide_eq_true_eq, sent, Bool.not_eq_true', and_assoc]
  rfl

/-- Settles O34. -/
theorem slotsPassThroughTheirStates : Obligations.SlotsPassThroughTheirStates := by
  unfold Obligations.SlotsPassThroughTheirStates
  refine ⟨fun f n s live => ⟨fun sl held waiting => ?_, fun not => ?_⟩,
    fun f n light s live => ⟨fun sl z y held own hz hy => ?_, fun not => ?_⟩, fun f words s live => ⟨?_, ?_⟩,
    fun x y next hnext hy => ⟨fun sl held begun => ?_, fun not => ?_⟩, fun f sl s held => ?_⟩
  · refine ⟨_, exec_live (c := .upstreamCycleBegin f n) (g := fun s => s.onFeeder f fun x => x.beginCycle n) rfl live, ?_⟩
    have owner := Feeder.cycle_of_slotOf held
    have slots := Feeder.slotOf_setSlot held (o := some { sl with state := .receiving }) fun sl' h => by
      rw [← Option.some.inj h]; exact owner
    rw [State.feeder_onFeeder_self, Feeder.beginCycle_of_waiting held waiting, State.onFeeder,
      Feeder.beginCycle_of_waiting held waiting]
    cases (s.feeder f).detector.inCycle with
    | true =>
      simp only [if_true, slots, Bool.not_true, Bool.false_and, Bool.or_false]
      exact ⟨trivial, fun m hm => if_neg hm, rfl⟩
    | false =>
      simp only [Bool.false_eq_true, if_false, Feeder.slotOf_enterCycle, slots, if_true, Bool.not_false, Bool.true_and,
        Option.map_some]
      refine ⟨rfl, fun m hm => ?_, ?_⟩
      · simp only [if_neg hm]
        exact Option.map_id'
      · exact congrArg (s.setFeeder f) (Feeder.enterCycle_frame ..)
  · rw [exec_live (c := .upstreamCycleBegin f n) (g := fun s => s.onFeeder f fun x => x.beginCycle n) rfl live]
    have stays : (s.feeder f).beginCycle n = s.feeder f := by
      unfold Feeder.beginCycle
      split
      · next sl held => exact if_neg (not sl held)
      · rfl
    rw [State.onFeeder, stays, State.setFeeder_feeder]
  · subst own
    have hy' : y = (feedRun f (light.foldl (feedRun f) s) ⟨false, 25000⟩).onFeeder f Feeder.leaveCycle := by
      rw [hy, hz]; rfl
    have examined : Lit f s y := by
      rw [hy, hz]
      exact ((Lit.foldl (lit_feedRun f) light s).trans (lit_feedRun f _ _)).trans (lit_leaveCycle f _)
    have present : (s.feeder f).slotOf sl.cycle = some sl := by
      rw [Feeder.receiving_cycle held]
      exact Feeder.slotOf_of_receiving held
    obtain ⟨lr, slot⟩ := examined.slot present
    have ended := endCycle_of_receiving held rfl hy' slot
    have ran := exec_live (c := .upstreamCycleEnd f sl.cycle light) (g := endCycle f sl.cycle light) rfl live
    rw [ended] at ran
    refine ⟨_, lr, ran, slot, examined.frame, fun all => ?_, fun open1 => ?_, fun m hm => ?_⟩
    · rw [if_pos (show ({ sl with light := lr } : Slot).allResolved = true from all)]
      exact ⟨(slotOf_complete (sl := { sl with light := lr }) slot _).trans (if_pos rfl), rfl⟩
    · exact if_neg (by rw [show ({ sl with light := lr } : Slot).allResolved = false from open1]; exact Bool.false_ne_true)
    · refine Eq.trans ?_ (examined.windows m)
      split
      · rw [slotOf_complete (sl := { sl with light := lr }) slot m]
        exact congrArg _ (if_neg hm)
      · rw [State.feeder_setFeeder_self, Feeder.slotOf_setSlot slot (fun sl' h => by rw [← Option.some.inj h]) m,
          if_neg hm]
  · rw [exec_live (c := .upstreamCycleEnd f n light) (g := endCycle f n light) rfl live, endCycle_of_not not]
  · exact exec_live (c := .stuckOnset f words) (g := fun s => feedRun f s ⟨true, words⟩) rfl live
  · exact exec_live (c := .stuckClear f words) (g := fun s => feedRun f s ⟨false, words⟩) rfl live
  · subst hnext hy
    rw [Feeder.leaveCycle_of_begun held begun]
    have slots : ∀ m, _ := Feeder.slotOf_enterCycle
      { x with detector := { x.detector with inCycle := false } } (x.detector.cycle + 1)
    refine ⟨⟨?_, fun m hm => ?_⟩, ?_⟩
    · rw [slots]
      exact (congrArg _ held).trans (congrArg some (if_pos rfl))
    · rw [slots]
      simp only [if_neg hm]
      exact Option.map_id'
    · exact Feeder.enterCycle_frame ..
  · subst hnext hy
    exact Feeder.leaveCycle_of_not_begun not
  · have each : leavingTest f = fun y d => if (y.drop f d).state = .leaving ∧
        (y.drop f d).lastSent.map Prod.fst = some .remove ∧ (y.feeder f).ringHolds d = false
          then freeRecord f d ((y.drop f d).leave.getD .hostRemove) y else y :=
      funext fun y => funext fun d => leavingTest_eq f y d
    refine ⟨s.onFeeder f fun x => ((x.setSlot sl.cycle none).clearMarks sl.cycle).completeDiscovery sl.cycle,
      by rw [← each]; rfl, ?_⟩
    have slots := Feeder.slotOf_setSlot held (o := none) fun _ h => nomatch h
    rw [State.feeder_onFeeder_self]
    refine ⟨(slots _).trans (if_pos rfl), fun m hm => (slots m).trans (if_neg hm),
      fun d => Feeder.mark_clearMarks ((s.feeder f).setSlot sl.cycle none) sl.cycle d, ?_⟩
    refine congrArg (s.setFeeder f) ?_
    exact Feeder.completeDiscovery_eq ..

end Sys2Proof.Machine
end

section
/-! PROOFS. The first transition of a sync mark, and its measurement (R12, R13, R54, R55, R186). -/

namespace Sys2Proof.Machine

/-! ## Findings in the ring (R54) -/

/-- The slots after a change of the slot of plan `n` that leaves its cycle number. -/
theorem Feeder.slotOf_setSlot_map {x : Feeder} {n : CycleNo} {sl sl' : Slot} (held : x.slotOf n = some sl)
    (same : sl'.cycle = sl.cycle) (m : CycleNo) :
    (x.setSlot n (some sl')).slotOf m = if m = n then some sl' else x.slotOf m :=
  Feeder.slotOf_setSlot held (fun s h => by rw [← Option.some.inj h, same, Feeder.cycle_of_slotOf held]) m

theorem Feeder.slotOf_setFound (x : Feeder) (n : CycleNo) (w : WindowId) (g : Found) (m : CycleNo) :
    (x.setFound n w g).slotOf m =
      (x.slotOf m).map fun sl => if m = n then sl.onWindow w fun v => { v with found := g } else sl := by
  unfold Feeder.setFound
  cases held : x.slotOf n with
  | none =>
    by_cases same : m = n
    · rw [same, held]; rfl
    · simp [same]
  | some sl =>
    refine (Feeder.slotOf_setSlot_map (sl' := sl.onWindow w fun v => { v with found := g }) held rfl m).trans ?_
    by_cases same : m = n
    · simp [same, held]
    · simp [same]

theorem Feeder.slotOf_sl_cycle_of_receiving {x : Feeder} {sl : Slot} (h : x.receiving = some sl) :
    x.slotOf sl.cycle = some sl := by
  rw [Feeder.receiving_cycle h]
  exact Feeder.slotOf_of_receiving h

/-! ## The window that takes a first transition (R55) -/

theorem Window.takes_iff (v : Window) (b : Int) : v.takes b = true ↔ v.resolution = .unresolved ∧
    ((∃ (d w len : Nat) (allocs : List (Nat × Nat)) (flag : Option BurstFlag),
        v.entry = .burst d w len allocs flag ∧ v.found = .nothing ∧ 32 * (w : Int) - 256 ≤ b ∧ b ≤ 32 * (w : Int) + 256) ∨
     (∃ d w delay : Nat, v.entry = .ranging d w delay ∧ v.found = .nothing ∧ 32 * (w : Int) ≤ b ∧
        b ≤ 32 * ((w : Int) + 19)) ∨
     (∃ w len delay : Nat, v.entry = .discovery w len delay ∧ 32 * (w : Int) ≤ b ∧
        b ≤ 32 * ((w : Int) + len - 47))) := by
  obtain ⟨entry, found, res⟩ := v
  cases entry with
  | burst d w len allocs flag => simp [Window.takes, Entry.accepts, Entry.windowId]; tauto
  | ranging d w delay => simp [Window.takes, Entry.accepts, Entry.windowId]; tauto
  | discovery w len delay => simp [Window.takes, Entry.accepts, Entry.windowId]; tauto
  | dark w len => simp [Window.takes, Entry.accepts]

theorem Slot.takingWindow_iff (sl : Slot) (b : Int) (i : WindowId) : sl.takingWindow b = some i ↔
    ∃ (before after : List Window) (v : Window), sl.windows = before ++ v :: after ∧
      (∀ u ∈ before, u.takes b = false) ∧ v.takes b = true ∧ v.entry.windowId = some i := by
  rw [Slot.takingWindow, Option.bind_eq_some_iff]
  constructor
  · rintro ⟨v, found, id⟩
    obtain ⟨takes, before, after, split, passed⟩ := List.find?_eq_some_iff_append.1 found
    exact ⟨before, after, v, split, fun u hu => by simpa using passed u hu, takes, id⟩
  · rintro ⟨before, after, v, split, passed, takes, id⟩
    exact ⟨v, List.find?_eq_some_iff_append.2 ⟨takes, before, after, split, fun u hu => by simpa using passed u hu⟩, id⟩

theorem Slot.window_of_takingWindow {sl : Slot} {b : Int} {i : WindowId} (h : sl.takingWindow b = some i) :
    ∃ v, sl.window i = some v := by
  obtain ⟨before, after, v, split, -, -, id⟩ := (sl.takingWindow_iff b i).1 h
  refine Option.isSome_iff_exists.1 (List.find?_isSome.2 ⟨v, ?_, by simpa using id⟩)
  rw [split]
  simp

/-! ## SYNC_FIRST_TRANSITION (R55, R186) -/

theorem opensMark_iff (ticks : Int) (dark lit : Nat) :
    opensMark ⟨ticks, dark, lit⟩ = true ↔ 24 ≤ dark ∧ 6 ≤ lit ∧ lit ≤ 8 := by
  simp [opensMark, within_iff]

theorem Feeder.firstTransition_own {x : Feeder} {sl : Slot} {ticks : Int} {w : WindowId} (idle : x.reader = .idle)
    (held : x.receiving = some sl) (takes : sl.takingWindow (arrivalPosition ticks) = some w) :
    x.firstTransition ticks = x.serve sl.cycle w (arrivalPosition ticks) := by
  unfold Feeder.firstTransition
  simp only [idle, held, takes]

theorem Feeder.firstTransition_next {x : Feeder} {sl nx : Slot} {ticks : Int} {w : WindowId} (idle : x.reader = .idle)
    (held : x.receiving = some sl) (not : sl.takingWindow (arrivalPosition ticks) = none)
    (next : x.slotOf (sl.cycle + 1) = some nx) (takes : nx.takingWindow (arrivalPosition ticks - 800000) = some w) :
    x.firstTransition ticks = x.serve nx.cycle w (arrivalPosition ticks - 800000) := by
  have takes : nx.takingWindow (arrivalPosition ticks - Config.cycleBits) = some w := takes
  unfold Feeder.firstTransition
  simp only [idle, held, not, next, takes]
  rfl

theorem Feeder.firstTransition_passed {x : Feeder} {sl : Slot} {ticks : Int} (idle : x.reader = .idle)
    (held : x.receiving = some sl) (not : sl.takingWindow (arrivalPosition ticks) = none)
    (next : ∀ nx, x.slotOf (sl.cycle + 1) = some nx → nx.takingWindow (arrivalPosition ticks - 800000) = none) :
    x.firstTransition ticks = x := by
  unfold Feeder.firstTransition
  simp only [idle, held, not]
  cases at_next : x.slotOf (sl.cycle + 1) with
  | none => rfl
  | some nx =>
    have passes : nx.takingWindow (arrivalPosition ticks - Config.cycleBits) = none := next nx at_next
    simp only [passes]

/-- A window served: its finding in the ring, its reader, and nothing else. -/
theorem Feeder.serve_spec {x : Feeder} {sl : Slot} {w : WindowId} (held : x.slotOf sl.cycle = some sl) (b : Int) :
    ∃ y, x.serve sl.cycle w b = y ∧ y = { x with reader := y.reader, ring := y.ring, staging := [] } ∧
      y.reader = .measuring sl.cycle w b false ∧
      (∀ v, sl.window w = some v → w ≠ .discovery → y.foundFor sl.cycle w = .taken) ∧
      y.slotOf sl.cycle = some (if w = .discovery then sl else sl.onWindow w fun v => { v with found := .taken }) ∧
      ∀ m, m ≠ sl.cycle → y.slotOf m = x.slotOf m := by
  refine ⟨_, rfl, ?_⟩
  unfold Feeder.serve
  dsimp only
  by_cases sweep : w = .discovery
  · rw [if_pos sweep, if_pos sweep]
    exact ⟨rfl, rfl, fun _ _ other => absurd sweep other, held, fun _ _ => rfl⟩
  · rw [if_neg sweep, if_neg sweep]
    have slots := Feeder.slotOf_setFound { x with reader := .measuring sl.cycle w b false, staging := [] } sl.cycle w .taken
    have frame := Feeder.setFound_only_ring { x with reader := .measuring sl.cycle w b false, staging := [] } sl.cycle w .taken
    refine ⟨?_, ?_, fun v named _ => ?_, ?_, fun m hm => ?_⟩
    · rw [frame]
    · rw [frame]
    · exact Feeder.foundFor_setFound (x := { x with reader := .measuring sl.cycle w b false, staging := [] }) .taken held named
    · refine (slots _).trans ((congrArg (Option.map _) held).trans ?_)
      rw [Option.map_some, if_pos rfl]
    · refine (slots _).trans ?_
      simp only [if_neg hm]
      exact Option.map_id'

theorem exec_syncFirstTransition (f : FeederId) {ticks : Int} {dark lit : Nat} {s : State} (live : s.resetHeld = false)
    (h1 : 24 ≤ dark) (h2 : 6 ≤ lit) (h3 : lit ≤ 8) : exec (.syncFirstTransition f ⟨ticks, dark, lit⟩) s =
      .next (s.setFeeder f ((s.feeder f).firstTransition ticks)) := by
  rw [exec_live (c := .syncFirstTransition f ⟨ticks, dark, lit⟩) (g := fun s =>
    if opensMark ⟨ticks, dark, lit⟩ then s.onFeeder f fun x => x.firstTransition ticks else s) rfl live,
    if_pos ((opensMark_iff ..).2 ⟨h1, h2, h3⟩)]
  rfl

/-! ## The measurement (R13) -/

theorem Feeder.measurementGarbled_discovery (x : Feeder) (n : CycleNo) : x.measurementGarbled n .discovery =
    { x with reader := .idle, receptionCount := { x.receptionCount with
      repliesGarbled := x.receptionCount.repliesGarbled + 1 } } := rfl

theorem Feeder.measurementGarbled_of_ne (x : Feeder) (n : CycleNo) {w : WindowId} (h : w ≠ .discovery) :
    x.measurementGarbled n w = x.decided n w .garbledSpan := by
  cases w with
  | discovery => exact absurd rfl h
  | burst | ranging => rfl

/-- A burst garbled in its measurement. -/
theorem Feeder.measurementGarbled_spec (x : Feeder) (n : CycleNo) (w : WindowId) :
    ∃ y, x.measurementGarbled n w = y ∧
      y = { x with reader := .idle, ring := y.ring, receptionCount := y.receptionCount } ∧
      (w = .discovery → y.ring = x.ring ∧ y.receptionCount =
        { x.receptionCount with repliesGarbled := x.receptionCount.repliesGarbled + 1 }) ∧
      (w ≠ .discovery → y.receptionCount = x.receptionCount ∧ ∀ (sl : Slot) (v : Window), x.slotOf n = some sl →
        sl.window w = some v → y.foundFor n w = .garbledSpan) := by
  refine ⟨_, rfl, ?_⟩
  by_cases sweep : w = .discovery
  · subst sweep
    rw [Feeder.measurementGarbled_discovery]
    exact ⟨rfl, fun _ => ⟨rfl, rfl⟩, fun h => absurd rfl h⟩
  · rw [Feeder.measurementGarbled_of_ne x n sweep]
    have frame := Feeder.decided_only_reader_ring x n w .garbledSpan
    refine ⟨?_, fun h => absurd h sweep, fun _ => ⟨by rw [frame], fun sl v held named => ?_⟩⟩
    · rw [frame]
    · exact Feeder.foundFor_decided .garbledSpan held named

section
variable (f : FeederId) {s : State} (live : s.resetHeld = false)
include live

theorem exec_syncMarkMeasured (span : Nat) :
    exec (.syncMarkMeasured f span) s = .next (s.setFeeder f ((s.feeder f).markMeasured span)) :=
  exec_live (c := .syncMarkMeasured f span) (g := fun s => s.onFeeder f fun x => x.markMeasured span) rfl live

theorem exec_syncOverlong : exec (.syncOverlong f) s = .next (s.setFeeder f (s.feeder f).markOverlong) :=
  exec_live (c := .syncOverlong f) (g := fun s => s.onFeeder f Feeder.markOverlong) rfl live

theorem exec_cutOffMark : exec (.cutOffMark f) s = .next (s.setFeeder f (s.feeder f).markCutOff) :=
  exec_live (c := .cutOffMark f) (g := fun s => s.onFeeder f Feeder.markCutOff) rfl live

end

section
variable {x : Feeder} {n : CycleNo} {w : WindowId} {b : Int} {o : Bool} (reading : x.reader = .measuring n w b o)
include reading

theorem Feeder.markOverlong_eq : x.markOverlong = { x with reader := .measuring n w b true } := by
  unfold Feeder.markOverlong
  rw [reading]

theorem Feeder.markCutOff_eq : x.markCutOff = x.measurementGarbled n w := by
  unfold Feeder.markCutOff
  rw [reading]

theorem Feeder.markMeasured_accepted {span : Nat} (short : o = false) (h1 : 440 ≤ span) (h2 : span ≤ 456) :
    x.markMeasured span = { x with reader := .label n w b } := by
  unfold Feeder.markMeasured
  rw [reading]
  exact if_pos (by simp [short, h1, h2])

theorem Feeder.markMeasured_garbled {span : Nat} (bad : o = true ∨ span < 440 ∨ 456 < span) :
    x.markMeasured span = x.measurementGarbled n w := by
  unfold Feeder.markMeasured
  rw [reading]
  refine if_neg ?_
  simp only [Bool.and_eq_true, Bool.not_eq_true', decide_eq_true_eq]
  rintro ⟨⟨short, h1⟩, h2⟩
  obtain long | low | high := bad
  · exact Bool.noConfusion (short.symm.trans long)
  · omega
  · omega

end

section
variable {x : Feeder} (other : ∀ n w b o, x.reader ≠ .measuring n w b o)
include other

theorem Feeder.markOverlong_of_not : x.markOverlong = x := by
  unfold Feeder.markOverlong
  split
  next n w b o h => exact absurd h (other n w b o)
  next => rfl

theorem Feeder.markCutOff_of_not : x.markCutOff = x := by
  unfold Feeder.markCutOff
  split
  next n w b o h => exact absurd h (other n w b o)
  next => rfl

theorem Feeder.markMeasured_of_not (span : Nat) : x.markMeasured span = x := by
  unfold Feeder.markMeasured
  split
  next n w b o h => exact absurd h (other n w b o)
  next => rfl

end

/-- Settles O35. -/
theorem firstTransitionAndSpanDecideAMark : Obligations.FirstTransitionAndSpanDecideAMark := by
  unfold Obligations.FirstTransitionAndSpanDecideAMark
  refine ⟨⟨fun ticks => by unfold arrivalPosition; omega, Window.takes_iff, Slot.takingWindow_iff,
    fun f ticks dark lit s live bad => ?_, fun f ticks dark lit sl s live h1 h2 h3 idle held => ?_⟩,
    fun f n w b o s live reading => ⟨?_, fun span short h1 h2 => ?_, fun c hc => ?_⟩, fun f c s live other hc => ?_⟩
  · rw [exec_live (c := .syncFirstTransition f ⟨ticks, dark, lit⟩) (g := fun s =>
      if opensMark ⟨ticks, dark, lit⟩ then s.onFeeder f fun x => x.firstTransition ticks else s) rfl live, if_neg]
    rw [opensMark_iff]
    omega
  · rw [exec_syncFirstTransition f live h1 h2 h3]
    refine ⟨fun w takes => ?_, fun nx w not next takes => ?_, fun not next => ?_⟩
    · rw [Feeder.firstTransition_own idle held takes]
      obtain ⟨y, served, frame, reader, found, own, others⟩ :=
        Feeder.serve_spec (w := w) (Feeder.slotOf_sl_cycle_of_receiving held) (arrivalPosition ticks)
      obtain ⟨v, named⟩ := Slot.window_of_takingWindow takes
      refine ⟨_, rfl, ?_⟩
      rw [served, State.feeder_setFeeder_self]
      exact ⟨reader, found v named, own, others, congrArg (s.setFeeder f) frame⟩
    · rw [Feeder.firstTransition_next idle held not next takes]
      have cycle := Feeder.cycle_of_slotOf next
      obtain ⟨y, served, frame, reader, -, own, others⟩ :=
        Feeder.serve_spec (w := w) (sl := nx) (by rw [cycle]; exact next) (arrivalPosition ticks - 800000)
      refine ⟨_, rfl, ?_⟩
      rw [served, State.feeder_setFeeder_self]
      exact ⟨reader, own, others, congrArg (s.setFeeder f) frame⟩
    · rw [Feeder.firstTransition_passed idle held not next, State.setFeeder_feeder]
  · rw [exec_syncOverlong f live, Feeder.markOverlong_eq reading]
  · rw [exec_syncMarkMeasured f live, Feeder.markMeasured_accepted reading short h1 h2]
  · have garbled : exec c s = .next (s.setFeeder f ((s.feeder f).measurementGarbled n w)) := by
      obtain rfl | ⟨span, rfl, bad⟩ := hc
      · rw [exec_cutOffMark f live, Feeder.markCutOff_eq reading]
      · rw [exec_syncMarkMeasured f live, Feeder.markMeasured_garbled reading bad]
    obtain ⟨y, decided, frame, sweep, window⟩ := (s.feeder f).measurementGarbled_spec n w
    refine ⟨_, garbled, ?_⟩
    rw [decided, State.feeder_setFeeder_self]
    exact ⟨congrArg (s.setFeeder f) frame, sweep, window⟩
  · obtain rfl | rfl | ⟨span, rfl⟩ := hc
    · rw [exec_syncOverlong f live, Feeder.markOverlong_of_not other, State.setFeeder_feeder]
    · rw [exec_cutOffMark f live, Feeder.markCutOff_of_not other, State.setFeeder_feeder]
    · rw [exec_syncMarkMeasured f live, Feeder.markMeasured_of_not other, State.setFeeder_feeder]

end Sys2Proof.Machine
end

section
/-! PROOFS. The body of a DATA burst (R58, R66), and range and discovery replies (R60, R61). -/

namespace Sys2Proof.Machine

/-! ## The words of a body (R58, R66) -/

theorem lengthField_eq (w : Word) : lengthField w = w.toNat / 2 ^ 8 % 2 ^ 11 := rfl

theorem flowField_eq (w : Word) : flowField w = w.toNat / 2 ^ 21 := by
  have := w.isLt
  simp only [flowField, field]
  omega

/-- A header whose segment fits in what is left of its lane (R66). -/
theorem laneWord_header_fits {w : Word} {left : Nat} (h1 : 1 ≤ lengthField w) (h2 : lengthField w ≤ 2000)
    (h3 : 1 + (lengthField w + 3) / 4 ≤ left) : laneWord w left .header =
      (.payload ⟨flowField w, firstField w, lastField w, []⟩ (lengthField w), none) := by
  have fits : ¬ (Config.maxFrame < lengthField w ∨ left < 1 + ceilDiv (lengthField w) 4) := by
    have most : Config.maxFrame = 2000 := rfl
    rw [most, ceilDiv]
    omega
  unfold laneWord headerPlace
  dsimp only
  rw [if_neg (by omega), if_neg fits]

/-- A header whose segment does not (R66). -/
theorem laneWord_header_overruns {w : Word} {left : Nat} (h1 : 1 ≤ lengthField w)
    (h2 : 2000 < lengthField w ∨ left < 1 + (lengthField w + 3) / 4) : laneWord w left .header = (.passing, some none) := by
  have long : Config.maxFrame < lengthField w ∨ left < 1 + ceilDiv (lengthField w) 4 := by
    have most : Config.maxFrame = 2000 := rfl
    rw [most, ceilDiv]
    omega
  unfold laneWord headerPlace
  dsimp only
  rw [if_neg (by omega), if_pos long]

theorem laneWord_header_empty {w : Word} {left : Nat} (h : lengthField w = 0) :
    laneWord w left .header = (.passing, none) := by
  unfold laneWord headerPlace
  dsimp only
  rw [if_pos h]

section
variable {x : Feeder} {n : CycleNo} {d : Nat} {b : Int} {body : Body} (reading : x.reader = .body n (.burst d) b body)
include reading

theorem Feeder.readWord_report (w : Word) (reports : body.reportsLeft ≠ 0) : x.readWord w = { x with
    reader := .body n (.burst d) b { body with
      words := body.words ++ [w], reports := body.reports ++ [w.toNat % 65536]
      reportsLeft := body.reportsLeft - 1 } } := by
  have backlog : backlogField w = w.toNat % 65536 := by simp [backlogField, field]
  unfold Feeder.readWord
  simp only [reading, Body.read, if_pos reports, backlog]

/-- One word of a lane's data, with what it does to the place. -/
theorem Feeder.readWord_lane {l left : Nat} {rest : List (Nat × Nat)} (all : body.reportsLeft = 0)
    (lanes : body.lanes = (l, left) :: rest) {w : Word} {p : LanePlace} {item : Option (Option Segment)}
    (place : laneWord w left body.place = (p, item)) : x.readWord w = { x with
      reader := .body n (.burst d) b { body with
        words := body.words ++ [w], lanes := if left ≤ 1 then rest else (l, left - 1) :: rest
        place := if left ≤ 1 then .header else p
        carriedData := body.carriedData || item.any Option.isSome }
      staging := x.staging ++ (item.map fun i => ⟨n, d, l, i⟩).toList } := by
  unfold Feeder.readWord
  simp only [reading, Body.read, all, ne_eq, not_true_eq_false, if_false, lanes, place]
  obtain _ | _ | seg := item <;> simp

/-- A segment's header with the whole segment in its lane (R66). -/
theorem Feeder.readWord_header {l left : Nat} {rest : List (Nat × Nat)} (all : body.reportsLeft = 0)
    (lanes : body.lanes = (l, left) :: rest) (place : body.place = .header) {w : Word} (h1 : 1 ≤ lengthField w)
    (h2 : lengthField w ≤ 2000) (h3 : 1 + (lengthField w + 3) / 4 ≤ left) : x.readWord w = { x with
      reader := .body n (.burst d) b { body with
        words := body.words ++ [w], lanes := (l, left - 1) :: rest
        place := .payload ⟨flowField w, firstField w, lastField w, []⟩ (lengthField w) } } := by
  have word := laneWord_header_fits h1 h2 h3
  rw [← place] at word
  have more : ¬ left ≤ 1 := by omega
  rw [Feeder.readWord_lane reading all lanes word, if_neg more, if_neg more]
  simp

/-- The words of a segment's payload (R66). -/
theorem Feeder.readWords_payload {l left k : Nat} {rest : List (Nat × Nat)} {seg : Segment} {ws : List Word}
    (all : body.reportsLeft = 0) (lanes : body.lanes = (l, left) :: rest) (place : body.place = .payload seg k)
    (some : 1 ≤ k) (length : ws.length = (k + 3) / 4) (fits : ws.length ≤ left) :
    ws.foldl Feeder.readWord x = { x with
      reader := .body n (.burst d) b { body with
        words := body.words ++ ws, place := .header, carriedData := true
        lanes := if left = ws.length then rest else (l, left - ws.length) :: rest }
      staging := x.staging ++ [⟨n, d, l, Option.some { seg with
        payload := seg.payload ++ (ws.flatMap wordBytes).take k }⟩] } := by
  induction ws generalizing x body left k seg with
  | nil => simp at length; omega
  | cons w ws ih =>
    rw [List.length_cons] at length fits
    have four : (wordBytes w).length = 4 := rfl
    rw [List.foldl_cons]
    by_cases last : k ≤ 4
    · obtain rfl : ws = [] := List.length_eq_zero_iff.1 (by omega)
      have word : laneWord w left body.place =
          (.header, Option.some (Option.some { seg with payload := seg.payload ++ (wordBytes w).take k })) := by
        rw [place]
        exact if_pos last
      rw [Feeder.readWord_lane reading all lanes word]
      have alone : left ≤ 1 ↔ left = 1 := by simp at fits; omega
      simp [alone]
    · have word : laneWord w left body.place =
          (.payload { seg with payload := seg.payload ++ (wordBytes w).take k } (k - 4), none) := by
        rw [place]
        exact if_neg last
      rw [Feeder.readWord_lane reading all lanes word]
      have more : ¬ left ≤ 1 := by omega
      rw [if_neg more, if_neg more]
      refine (ih (left := left - 1) (k := k - 4) rfl (by exact all) rfl rfl (by omega) (by omega) (by omega)).trans ?_
      have bytes : seg.payload ++ (wordBytes w).take k ++ (ws.flatMap wordBytes).take (k - 4) =
          seg.payload ++ ((w :: ws).flatMap wordBytes).take k := by
        rw [List.flatMap_cons, List.take_append, four, List.append_assoc]
      have here : (left - 1 = ws.length) ↔ left = ws.length + 1 := by omega
      simp [here, bytes, Nat.sub_sub, Nat.add_comm]

end

section
variable (f : FeederId) {s : State} (live : s.resetHeld = false)
include live

theorem exec_segmentSplit (ws : List Word) :
    exec (.segmentSplit f ws) s = .next (s.setFeeder f (ws.foldl Feeder.readWord (s.feeder f))) :=
  exec_live (c := .segmentSplit f ws) (g := fun s => s.onFeeder f fun x => ws.foldl Feeder.readWord x) rfl live

theorem exec_endMarkRead (ws : List Word) (m : Word) :
    exec (.endMarkRead f ws m) s = .next (s.setFeeder f ((ws.foldl Feeder.readWord (s.feeder f)).readEnd m)) :=
  exec_live (c := .endMarkRead f ws m) (g := fun s => s.onFeeder f fun x => (ws.foldl Feeder.readWord x).readEnd m) rfl live

end

theorem Feeder.readEnd_whole {x : Feeder} {n : CycleNo} {d : Nat} {b : Int} {body : Body}
    (reading : x.reader = .body n (.burst d) b body) (all : body.reportsLeft = 0) (lanes : body.lanes = []) (m : Word) :
    x.readEnd m = x.decided n (.burst d) (body.decide b m) := by
  unfold Feeder.readEnd
  simp [reading, Body.whole, all, lanes]

/-- Settles O37. -/
theorem bodyIsSplitAndChecked : Obligations.BodyIsSplitAndChecked := by
  unfold Obligations.BodyIsSplitAndChecked
  refine ⟨fun f n d l left len b body rest hd ws s live reading all lanes place hlen => ⟨fun h1 h2 h3 h4 => ?_,
    fun long h1 => ?_⟩, fun f n d l left b body rest w s live reading => ⟨fun reports => ?_, fun all lanes passes => ?_⟩,
    fun f n d b body m sl v s live reading all lanes held named => ?_, fun f ws m s t live ran => ?_⟩
  · rw [← lengthField_eq] at hlen
    subst hlen
    rw [exec_segmentSplit f live, List.foldl_cons,
      Feeder.readWord_header reading all lanes place h1 h2 (h3 ▸ h4),
      Feeder.readWords_payload (left := left - 1) rfl (by exact all) rfl rfl h1 h3 (by omega)]
    have here : (left - 1 = ws.length) ↔ left = 1 + ws.length := by omega
    refine ⟨_, _, rfl, ?_, rfl⟩
    simp [here, flowField_eq, firstField, lastField, field, Nat.sub_sub]
  · subst hlen
    have word := laneWord_header_overruns h1 long
    rw [← place] at word
    rw [exec_segmentSplit f live, List.foldl_cons, List.foldl_nil, Feeder.readWord_lane reading all lanes word]
    simp
  · rw [exec_segmentSplit f live, List.foldl_cons, List.foldl_nil, Feeder.readWord_report reading w reports]
  · have word : laneWord w left body.place = (.passing, none) := by
      obtain ⟨place, empty⟩ | place := passes
      · rw [place]
        exact laneWord_header_empty empty
      · rw [place]
        rfl
    rw [exec_segmentSplit f live, List.foldl_cons, List.foldl_nil, Feeder.readWord_lane reading all lanes word]
    simp
  · rw [exec_endMarkRead f live, List.foldl_nil, Feeder.readEnd_whole reading all lanes]
    refine ⟨_, rfl, ?_, fun good => ?_, fun bad => ?_⟩
    · rw [State.feeder_setFeeder_self]
      exact congrArg (s.setFeeder f) (Feeder.decided_only_reader_ring ..)
    · rw [State.feeder_setFeeder_self, Feeder.foundFor_decided _ held named, Body.decide, if_pos good]
      exact ⟨_, rfl, by simp⟩
    · rw [State.feeder_setFeeder_self, Feeder.foundFor_decided _ held named, Body.decide, if_neg bad]
  · rw [exec_segmentSplit f live] at ran
    obtain rfl := Host.Outcome.next.inj ran
    have later := exec_endMarkRead f (s := s.setFeeder f (ws.foldl Feeder.readWord (s.feeder f))) live [] m
    rw [exec_endMarkRead f live, later, State.feeder_setFeeder_self, State.setFeeder_setFeeder]
    rfl

/-! ## Range and discovery replies (R60, R61) -/

theorem laneCountField_eq (w : Word) : laneCountField w = w.toNat / 2 ^ 16 % 8 := rfl

theorem rangeReply_eq {d : Nat} {b : Int} {label echo m : Word} {g : Found}
    (h : (g = .garbledLabel ∧ (label.toNat % 65536 ≠ (labelCheck label).toNat ∨ 64 < label.toNat / 2 ^ 24 ∨
          echo.toNat / 2 ^ 24 ≠ label.toNat / 2 ^ 24)) ∨
       (label.toNat % 65536 = (labelCheck label).toNat ∧ label.toNat / 2 ^ 24 ≤ 64 ∧
          echo.toNat / 2 ^ 24 = label.toNat / 2 ^ 24 ∧
          ((g = .mislabelled (label.toNat / 2 ^ 24) ∧ label.toNat / 2 ^ 24 ≠ d) ∨
           (label.toNat / 2 ^ 24 = d ∧
             ((g = .garbledLabel ∧ (label.toNat / 2 ^ 20 % 16 ≠ 3 ∨ label.toNat / 2 ^ 16 % 16 ≠ 0)) ∨
              (label.toNat / 2 ^ 20 % 16 = 3 ∧ label.toNat / 2 ^ 16 % 16 = 0 ∧
                ((g = .garbledEnd ∧ m ≠ endCheck [label, echo]) ∨
                 (g = .received ⟨b, [], false, true⟩ ∧ m = endCheck [label, echo])))))))) :
    rangeReply d b label echo m = g := by
  rw [ne_eq, ← labelOk_iff, ← indexField_eq, ← indexField_eq, ← kindField_eq, ← countField_eq] at h
  unfold rangeReply
  obtain ⟨rfl, bad⟩ | ⟨ok, low, echoed, ⟨rfl, other⟩ | ⟨own, ⟨rfl, wrong⟩ | ⟨kind, count, ending⟩⟩⟩ := h
  · rw [if_pos (by simpa using bad)]
  · rw [if_neg (by simp [ok, low, echoed]), if_pos other]
  · rw [if_neg (by simp [ok, low, echoed]), if_neg (not_not_intro own), if_pos wrong]
  · rw [if_neg (by simp [ok, low, echoed]), if_neg (not_not_intro own), if_neg (by simp [kind, count])]
    obtain ⟨rfl, bad⟩ | ⟨rfl, good⟩ := ending
    · rw [if_pos bad]
    · rw [if_neg (not_not_intro good)]

section
variable {label hi lo info m : Word}

theorem discoveryReply_garbled (h : label.toNat % 65536 ≠ (labelCheck label).toNat ∨ 64 < label.toNat / 2 ^ 24 ∨
      (label.toNat / 2 ^ 24 = 0 ∧ (label.toNat / 2 ^ 20 % 16 ≠ 2 ∨ label.toNat / 2 ^ 16 % 16 ≠ 0 ∨
        m ≠ endCheck [label, hi, lo, info] ∨ info.toNat / 2 ^ 16 % 8 = 0 ∨ 4 < info.toNat / 2 ^ 16 % 8))) :
    discoveryReply label hi lo info m = .garbled := by
  rw [ne_eq, ← labelOk_iff, ← indexField_eq, ← kindField_eq, ← countField_eq, ← laneCountField_eq] at h
  unfold discoveryReply
  by_cases readable : labelOk label = true ∧ indexField label ≤ 64
  · obtain ⟨ok, low⟩ := readable
    obtain bad | high | ⟨zero, wrong⟩ := h
    · exact absurd ok bad
    · exact absurd low (Nat.not_le.2 high)
    · rw [if_neg (by simp [ok, low]), if_neg (not_not_intro zero)]
      by_cases kind : kindField label ≠ 2 ∨ countField label ≠ 0
      · rw [if_pos kind]
      · rw [if_neg kind]
        split
        · rfl
        next good =>
          refine if_neg ?_
          rintro ⟨some, few⟩
          obtain other | other | other | other | other := wrong
          · exact kind (.inl other)
          · exact kind (.inr other)
          · exact good other
          · omega
          · omega
  · have bad := (not_and_or.1 readable).imp Bool.eq_false_iff.2 Nat.not_le.1
    rw [if_pos (by simpa using bad)]

theorem discoveryReply_mislabel (ok : label.toNat % 65536 = (labelCheck label).toNat) (named : 1 ≤ label.toNat / 2 ^ 24)
    (low : label.toNat / 2 ^ 24 ≤ 64) : discoveryReply label hi lo info m = .mislabel (label.toNat / 2 ^ 24) := by
  rw [← labelOk_iff] at ok
  rw [← indexField_eq] at named low ⊢
  unfold discoveryReply
  rw [if_neg (by simp [ok, low]), if_pos (by omega)]

theorem discoveryReply_taken (ok : label.toNat % 65536 = (labelCheck label).toNat) (zero : label.toNat / 2 ^ 24 = 0)
    (kind : label.toNat / 2 ^ 20 % 16 = 2) (count : label.toNat / 2 ^ 16 % 16 = 0)
    (ending : m = endCheck [label, hi, lo, info]) (some : 1 ≤ info.toNat / 2 ^ 16 % 8)
    (few : info.toNat / 2 ^ 16 % 8 ≤ 4) : discoveryReply label hi lo info m =
      .taken (hi ++ lo) (info.toNat / 2 ^ 16 % 8) (info.toNat / 2 ^ 20 % 16) := by
  rw [← labelOk_iff] at ok
  rw [← indexField_eq] at zero
  rw [← kindField_eq] at kind
  rw [← countField_eq] at count
  unfold discoveryReply
  rw [if_neg (by simp [ok, zero]), if_neg (not_not_intro zero), if_neg (by simp [kind, count]),
    if_neg (not_not_intro ending)]
  exact if_pos ⟨some, few⟩

end

section
variable {f : FeederId} {s : State} {n : CycleNo} {b : Int} {label hi lo info m : Word}
  (live : s.resetHeld = false) (reading : (s.feeder f).reader = .label n .discovery b)
include live reading

theorem exec_discoveryReplyRead_garbled (decided : discoveryReply label hi lo info m = .garbled) :
    exec (.discoveryReplyRead f label hi lo info m) s =
      .next ((s.setFeeder f { s.feeder f with reader := .idle }).onFeeder f Feeder.replyGarbled) := by
  rw [exec_live (c := .discoveryReplyRead f label hi lo info m) (g := readReply f label hi lo info m) rfl live, readReply,
    reading]
  simp only [decided]
  rfl

theorem exec_discoveryReplyRead_mislabel {named : Nat} (decided : discoveryReply label hi lo info m = .mislabel named) :
    exec (.discoveryReplyRead f label hi lo info m) s =
      .next (takeMislabel f named ((s.setFeeder f { s.feeder f with reader := .idle }).onFeeder f fun x =>
        x.onReception fun c => { c with mislabelled := c.mislabelled + 1 })) := by
  rw [exec_live (c := .discoveryReplyRead f label hi lo info m) (g := readReply f label hi lo info m) rfl live, readReply,
    reading]
  simp only [decided]
  rfl

theorem exec_discoveryReplyRead_taken {tag : FactoryTag} {lanes k : Nat}
    (decided : discoveryReply label hi lo info m = .taken tag lanes k) :
    exec (.discoveryReplyRead f label hi lo info m) s =
      .next (takeReply f n tag lanes k b ((s.setFeeder f { s.feeder f with reader := .idle }).onFeeder f fun x =>
        x.onReception fun c => { c with repliesTaken := c.repliesTaken + 1 })) := by
  rw [exec_live (c := .discoveryReplyRead f label hi lo info m) (g := readReply f label hi lo info m) rfl live, readReply,
    reading]
  simp only [decided]
  rfl

end

theorem Feeder.readRange_eq {x : Feeder} {n : CycleNo} {d : Nat} {b : Int} (reading : x.reader = .label n (.ranging d) b)
    (label echo m : Word) : x.readRange label echo m = x.decided n (.ranging d) (rangeReply d b label echo m) := by
  unfold Feeder.readRange
  rw [reading]

/-- Settles O38. -/
theorem repliesDecideInOrder : Obligations.RepliesDecideInOrder := by
  unfold Obligations.RepliesDecideInOrder
  refine ⟨fun f n d b label echo m sl v g s live reading held named h => ?_,
    fun f n b label hi lo info m s x live reading hx => ⟨fun h => ?_, fun ok named low => ?_,
      fun ok zero kind count ending some few => ?_⟩⟩
  · rw [exec_live (c := .rangeReplyRead f label echo m) (g := fun s => s.onFeeder f fun x => x.readRange label echo m)
      rfl live, State.onFeeder, Feeder.readRange_eq reading, rangeReply_eq h]
    refine ⟨_, rfl, ?_, ?_⟩
    · rw [State.feeder_setFeeder_self]
      exact Feeder.foundFor_decided g held named
    · rw [State.feeder_setFeeder_self]
      exact congrArg (s.setFeeder f) (Feeder.decided_only_reader_ring ..)
  · subst hx
    exact exec_discoveryReplyRead_garbled live reading (discoveryReply_garbled h)
  · subst hx
    exact exec_discoveryReplyRead_mislabel live reading (discoveryReply_mislabel ok named low)
  · subst hx
    exact exec_discoveryReplyRead_taken live reading (discoveryReply_taken ok zero kind count ending some few)

end Sys2Proof.Machine
end

section
/-! PROOFS. What the resolution of a BURST window does to its drop's record (R104, R105, R108 to R112). -/

namespace Sys2Proof.Machine

/-! ## A record that enters LEAVING, with an order pending or without (R76, R113) -/

/-- The record as it enters LEAVING, before its REMOVE (R113). -/
def DropRecord.departing (why : RemoveReason) (r : DropRecord) : DropRecord :=
  { r with state := .leaving, leave := some why, resume := none, cause := none, phase := none, inFlight := none }

theorem enterLeaving_drop_ordered (f : FeederId) (d : Nat) (why : RemoveReason) (s : State) :
    ((s.drop f d).departing why).Ordered .remove ((enterLeaving f d why s).drop f d) := by
  have ordered := createOrder_drop_self (f := f) (d := d) .remove (s.onDrop f d (DropRecord.departing why))
  rw [State.drop_onDrop_self] at ordered
  unfold enterLeaving
  dsimp only
  refine ordered.then_same (.trans ?_ (spares_departure _ _ _).own.record)
  split
  · change DropRecord.SameButStatus _ ((leaveShining f d _).drop f d)
    rw [leaveShining_drop]
    exact .refl _
  · exact .refl _

/-! ## Drift and staleness (R104, R105) -/

theorem DropRecord.stale_iff (r : DropRecord) (n : CycleNo) : r.stale n = true ↔ r.correctionPending = true ∧
    (r.equaliseCycle = none ∨ ∃ m, r.equaliseCycle = some m ∧ (m - n).toNat < 2 ^ 31) := by
  unfold DropRecord.stale
  rw [Bool.and_eq_true]
  refine and_congr_right fun _ => ?_
  cases r.equaliseCycle with
  | none => simp
  | some m =>
    change decide _ = true ↔ _
    rw [decide_eq_true_eq]
    simp [cyclesFrom]

theorem DropRecord.seen_eq (r : DropRecord) (n : CycleNo) : r.seen n =
    if r.correctionPending = true ∧ r.stale n = false
      then { r with correctionPending := false, equaliseCycle := none } else r := by
  unfold DropRecord.seen
  exact if_congr (by simp) rfl rfl

section
variable {f : FeederId} {d : Nat} {s : State}

theorem correctDrift_of_within {offset : Int} (h : -32 ≤ offset ∧ offset ≤ 32) : correctDrift f d offset s = s := if_pos h

theorem correctDrift_out_of_reach {offset : Int} (far : offset < -32 ∨ 32 < offset)
    (short : ((s.drop f d).eqd : Int) - offset < 0) :
    correctDrift f d offset s = enterLeaving f d .outOfReach s := by
  unfold correctDrift
  rw [if_neg (by omega)]
  exact if_pos short

theorem correctDrift_of_reach {offset : Int} (far : offset < -32 ∨ 32 < offset) {eqd : Nat}
    (h : (eqd : Int) = min (((s.drop f d).eqd : Int) - offset) (s.feeder f).settings.td) :
    correctDrift f d offset s = createOrder f d .equalise
      (s.onDrop f d fun r => r.ordered ((s.feeder f).settings.td - eqd) eqd) := by
  unfold correctDrift
  dsimp only
  rw [if_neg (by omega), if_neg (by omega)]
  by_cases beyond : ((s.feeder f).settings.td : Int) < ((s.drop f d).eqd : Int) - offset
  · have whole : eqd = (s.feeder f).settings.td := by omega
    rw [if_pos beyond, whole, Nat.sub_self]
  · have part : (((s.drop f d).eqd : Int) - offset).toNat = eqd := by omega
    rw [if_neg beyond, part]

end

/-! ## What a burst does to the counts (R108, R110 to R112) -/

theorem DropRecord.heard_eq (r : DropRecord) (busy : Bool) : r.heard busy =
    if r.state = .active ∨ r.state = .dozing then
      if busy = true then { r with state := .active, miss := 0, idle := 0 } else { r with miss := 0 }
    else if r.state = .silent then { r with state := .active, miss := 0, rouse := 0, idle := 0 } else r := by
  unfold DropRecord.heard
  split
  next active =>
    rw [if_pos (c := _ ∨ _) (.inl active)]
    cases busy with
    | true => rw [if_pos rfl, if_pos rfl, ← active]
    | false => rfl
  next dozing => rw [if_pos (c := _ ∨ _) (.inr dozing)]
  next silent => rw [if_neg (by simp [silent]), if_pos silent]
  next active dozing silent => rw [if_neg fun h => h.elim active dozing, if_neg silent]

theorem DropRecord.heard_pending (r : DropRecord) (busy : Bool) : (r.heard busy).pending = r.pending := by
  rw [DropRecord.heard_eq]
  split
  · split <;> rfl
  · split <;> rfl

theorem DropRecord.heard_leaving {r : DropRecord} (busy : Bool) (h : r.state = .leaving) : r.heard busy = r := by
  rw [DropRecord.heard_eq, h]
  simp

section
variable {f : FeederId} {n : CycleNo} {d w : Nat} {s : State}

theorem burstTaken_of_not_shining (res : Resolution) (reading : Option Reading)
    (dim : (s.drop f d).state.shining = false) : burstTaken f n d w res reading s = s := by
  unfold burstTaken
  exact if_pos (by rw [dim]; rfl)

theorem burstTaken_received (shining : (s.drop f d).state.shining = true) (g : Reading) :
    burstTaken f n d w .received (some g) s =
      ((if (s.drop f d).stale n then s.onDrop f d fun r => r.seen n
        else correctDrift f d (g.arrival - 32 * w) (s.onDrop f d fun r => r.seen n)).onDrop f d
          fun r => r.heard (g.carriedData || !g.allZero)) := by
  unfold burstTaken
  exact if_neg (by rw [shining]; exact Bool.false_ne_true)

theorem burstTaken_failed (shining : (s.drop f d).state.shining = true) {res : Resolution}
    (failed : res = .missing ∨ res = .garbled ∨ res = .mislabelled) : burstTaken f n d w res none s =
      burstFailed f n d (decide (res = .missing)) ((s.drop f d).stale n) (s.onDrop f d fun r => r.seen n) := by
  unfold burstTaken
  rw [if_neg (by rw [shining]; exact Bool.false_ne_true)]
  obtain rfl | rfl | rfl := failed <;> rfl

theorem burstFailed_of_awake (awake : (s.drop f d).state ≠ .silent) (missing stale : Bool) :
    burstFailed f n d missing stale s =
      if missing = true ∧ ((s.feeder f).frozen || stale) = false then
        s.onDrop f d fun r => r.missed (s.feeder f).settings.missLimit
      else s := by
  unfold burstFailed
  exact (if_neg awake).trans (if_congr (by simp) rfl rfl)

theorem burstFailed_of_silent (silent : (s.drop f d).state = .silent) (missing stale : Bool) :
    burstFailed f n d missing stale s =
      if 1 ≤ (s.drop f d).rouse ∧ n = (s.drop f d).lastPlanned then rouseFailed f d ((s.feeder f).frozen || stale) s
      else s := by
  unfold burstFailed
  exact (if_pos silent).trans (if_congr (by simp [DropRecord.latestRouse, silent]) rfl rfl)

theorem Feeder.frozen_iff (x : Feeder) : x.frozen = true ↔ x.rogue = .isolating ∨ x.stuck ≠ none := by
  rw [Feeder.frozen, Bool.or_eq_true, decide_eq_true_eq, Option.isSome_iff_ne_none]

end

theorem burstExcused_spec (f : FeederId) (n : CycleNo) (d : Nat) (flag : Option BurstFlag) (s : State) :
    ∃ t, burstExcused f n d flag s = t ∧ t = s.setFeeder f { s.feeder f with drops := (t.feeder f).drops } ∧
      (∀ k, k ≠ d → t.drop f k = s.drop f k) ∧
      t.drop f d = { s.drop f d with
        rouse := if flag = some .rouse ∧ ((s.drop f d).state = .darkened ∨ (s.drop f d).state = .silent) ∧
            n = (s.drop f d).lastPlanned
          then (s.drop f d).rouse - 1 else (s.drop f d).rouse } := by
  unfold burstExcused
  by_cases lowers : flag = some .rouse ∧ ((s.drop f d).state = .darkened ∨ (s.drop f d).state = .silent) ∧
      n = (s.drop f d).lastPlanned
  · refine ⟨_, if_pos lowers, State.onDrop_drops .., fun k hk => State.drop_onDrop_ne (h := hk) .., ?_⟩
    rw [State.drop_onDrop_self, if_pos lowers]
  · refine ⟨_, if_neg lowers, (State.setFeeder_feeder ..).symm, fun _ _ => rfl, ?_⟩
    rw [if_neg lowers]

/-- Settles O42: drift first, then the counts and the state. -/
theorem burstEffectsFollowTheOutcome : Obligations.BurstEffectsFollowTheOutcome := by
  unfold Obligations.BurstEffectsFollowTheOutcome
  refine ⟨fun f n d w res s r q stale still hr state hstale hstill hq => ?_,
    fun f n d w res reading s => burstTaken_of_not_shining res reading, burstExcused_spec⟩
  subst hr
  have isStale : (s.drop f d).stale n = stale := by rw [Bool.eq_iff_iff, DropRecord.stale_iff, hstale]
  have shining : (s.drop f d).state.shining = true := by obtain e | e | e := state <;> rw [e] <;> rfl
  have isQ : (s.drop f d).seen n = q := by rw [DropRecord.seen_eq, isStale, hq]
  have qState : q.state = (s.drop f d).state := by rw [hq]; split <;> rfl
  have qMiss : q.miss = (s.drop f d).miss := by rw [hq]; split <;> rfl
  have qRouse : q.rouse = (s.drop f d).rouse := by rw [hq]; split <;> rfl
  have qPlanned : q.lastPlanned = (s.drop f d).lastPlanned := by rw [hq]; split <;> rfl
  have qDelays : q.eqd = (s.drop f d).eqd ∧ q.rtd = (s.drop f d).rtd := by rw [hq]; split <;> exact ⟨rfl, rfl⟩
  obtain ⟨y, hy⟩ : ∃ y, s.onDrop f d (fun r => r.seen n) = y := ⟨_, rfl⟩
  have own : y.drop f d = q := by rw [← hy, State.drop_onDrop_self, isQ]
  have settings : (y.feeder f).settings = (s.feeder f).settings := by rw [← hy, State.onDrop_drops, State.feeder_setFeeder_self]
  have frozen : ((y.feeder f).frozen || stale) = still := by
    have same : (y.feeder f).frozen = (s.feeder f).frozen := by
      rw [← hy, State.onDrop_drops, State.feeder_setFeeder_self]; rfl
    rw [same, Bool.eq_iff_iff, Bool.or_eq_true, Feeder.frozen_iff, hstill]
    exact or_comm
  have others : ∀ (h : DropRecord → DropRecord) k, k ≠ d → (y.onDrop f d h).drop f k = s.drop f k := fun h k hk => by
    rw [← hy, State.drop_onDrop_ne (h := hk), State.drop_onDrop_ne (h := hk)]
  have frame : ∀ h : DropRecord → DropRecord, y.onDrop f d h =
      s.setFeeder f { s.feeder f with drops := ((y.onDrop f d h).feeder f).drops } := fun h => by
    rw [← hy, State.onDrop_onDrop]
    exact State.onDrop_drops ..
  have stays : (∀ k, k ≠ d → y.drop f k = s.drop f k) ∧
      y = s.setFeeder f { s.feeder f with drops := (y.feeder f).drops } := by
    rw [← hy]
    exact ⟨fun k hk => State.drop_onDrop_ne (h := hk) .., State.onDrop_drops ..⟩
  refine ⟨fun g off td heard hres hoff htd hheard => ?_, fun failed awake => ?_, fun failed silent => ?_⟩
  · subst hres htd
    have isHeard : (fun r => r.heard (g.carriedData || !g.allZero)) = heard := by
      funext r
      rw [DropRecord.heard_eq, hheard]
      simp
    refine ⟨_, burstTaken_received shining g, ?_⟩
    rw [isStale, hy, isHeard, ← hoff]
    refine ⟨fun near => ?_, fun fresh far => ⟨fun eqd heqd => ?_, fun short => ?_⟩⟩
    · have calm : (if stale = true then y else correctDrift f d off y) = y := by
        by_cases stale : stale = true
        · exact if_pos stale
        · exact (if_neg stale).trans (correctDrift_of_within (near.resolve_left stale))
      rw [calm, State.drop_onDrop_self, own]
      exact ⟨rfl, others heard, frame heard⟩
    · rw [fresh, if_neg Bool.false_ne_true, correctDrift_of_reach far (by rw [own, settings]; exact heqd), settings]
      obtain ⟨z, hz⟩ : ∃ z, createOrder f d .equalise (y.onDrop f d fun r =>
        r.ordered ((s.feeder f).settings.td - eqd) eqd) = z := ⟨_, rfl⟩
      have ordered := createOrder_drop_self (f := f) (d := d) .equalise (y.onDrop f d fun r =>
        r.ordered ((s.feeder f).settings.td - eqd) eqd)
      rw [hz, State.drop_onDrop_self, own] at ordered
      obtain ⟨rest, kinds⟩ := ordered
      have pending : (heard (z.drop f d)).pending = (z.drop f d).pending := by
        rw [← isHeard]
        exact DropRecord.heard_pending ..
      rw [hz, State.drop_onDrop_self, pending]
      refine ⟨congrArg heard rest, kinds, fun k hk => ?_⟩
      have spared : Spares f k y (z.onDrop f d heard) :=
        ((spares_onDrop _ y hk).trans (hz ▸ spares_createOrder .equalise _ hk)).trans (spares_onDrop heard z hk)
      rw [← stays.1 k hk]
      exact spared.own.record.1
    · rw [fresh, if_neg Bool.false_ne_true, correctDrift_out_of_reach far (by rwa [own])]
      have left := (enterLeaving_drop_ordered f d .outOfReach y).1
      rw [own] at left
      have leaving : ((enterLeaving f d .outOfReach y).drop f d).state = .leaving := by rw [left]; rfl
      rw [State.drop_onDrop_self, ← isHeard]
      dsimp only
      rw [DropRecord.heard_leaving _ leaving, left]
      exact ⟨rfl, rfl, qDelays.1, qDelays.2, qMiss⟩
  · have awake' : (y.drop f d).state ≠ .silent := by
      rw [own, qState]
      obtain e | e := awake <;> rw [e] <;> exact nofun
    refine ⟨_, burstTaken_failed shining failed, ?_⟩
    rw [isStale, hy, burstFailed_of_awake awake', frozen, settings]
    have counts : (decide (res = .missing) = true ∧ still = false) ↔ res = .missing ∧ still = false := by
      rw [decide_eq_true_eq]
    by_cases counted : res = .missing ∧ still = false
    · rw [if_pos (counts.2 counted), if_pos counted]
      refine ⟨others _, frame _, ?_⟩
      rw [State.drop_onDrop_self, own, DropRecord.missed, qMiss, ← qState, ← qRouse]
      split <;> rfl
    · rw [if_neg (counts.not.2 counted), if_neg counted]
      exact ⟨stays.1, stays.2, own⟩
  · have silent' : (y.drop f d).state = .silent := by rw [own, qState, silent]
    refine ⟨_, burstTaken_failed shining failed, ?_⟩
    rw [isStale, hy, burstFailed_of_silent silent', frozen, own, qRouse, qPlanned]
    refine ⟨fun spared => ?_, fun rouse latest counted => ?_, fun rouse latest fresh limit => ?_⟩
    · by_cases latest : 1 ≤ (s.drop f d).rouse ∧ n = (s.drop f d).lastPlanned
      · obtain none | other | ⟨fresh, low⟩ := spared
        · omega
        · exact absurd latest.2 other
        · rw [if_pos latest, fresh, rouseFailed, if_neg Bool.false_ne_true, if_neg, own]
          rw [settings, own, qRouse]
          omega
      · rw [if_neg latest, own]
    · rw [if_pos ⟨rouse, latest⟩, counted, rouseFailed, if_pos rfl, State.drop_onDrop_self, own, ← qRouse, ← qPlanned]
    · rw [if_pos ⟨rouse, latest⟩, fresh, rouseFailed, if_neg Bool.false_ne_true, if_pos (by rwa [settings, own, qRouse]),
        (enterLeaving_drop_ordered f d .lost y).1]
      exact ⟨rfl, rfl⟩

end Sys2Proof.Machine
end

section
/-! PROOFS. The resolution of a window, and what a RANGING window's does to its drop (R44, R45, R49, R54, R60 to R64,
R98, R100, R101). -/

namespace Sys2Proof.Machine

/-! ## What a resolution leaves alone -/

namespace MonitorClosed

variable {f : FeederId} {R : State → State → Prop} (h : MonitorClosed f R)
include h

theorem enterLeaving (d : Nat) (why : RemoveReason) (s : State) : R s (enterLeaving f d why s) := by
  unfold Machine.enterLeaving
  dsimp only
  have left := h.trans (h.record s d fun r =>
    { r with state := .leaving, leave := some why, resume := none, cause := none, phase := none, inFlight := none })
    (h.createOrder d .remove _)
  split
  · exact h.trans (h.trans left (h.leaveShining d _)) (h.departure _ _ _ _)
  · exact h.trans left (h.departure _ _ _ _)

theorem counted (count : Feeder → LightCounters) (s : State) : R s (s.onFeeder f fun x => { x with lightCount := count x }) :=
  h.light s Feeder.rogue Feeder.recent Feeder.quiet Feeder.isolation count

theorem scoreStrikes (d k : Nat) (s : State) : R s (scoreStrikes f d k s) := by
  unfold Machine.scoreStrikes
  dsimp only
  split
  · exact h.refl s
  · split
    · split
      · exact h.trans (h.trans (h.record s d _) (h.counted _ _)) (h.beginIsolation _ _ _)
      · exact h.trans (h.trans (h.record s d _) (h.counted _ _)) (h.notify _ _)
    · exact h.record s d _

theorem takeGarble (d : Nat) (s : State) : R s (takeGarble f d s) := h.trans (h.counted _ s) (h.scoreStrikes _ _ _)

theorem takeMislabel (named : Nat) (s : State) : R s (takeMislabel f named s) := by
  unfold Machine.takeMislabel
  dsimp only
  split
  · exact h.trans (h.counted _ s) (h.scoreStrikes _ _ _)
  · exact h.counted _ s

theorem rangeFailed (d : Nat) (s : State) : R s (rangeFailed f d s) := by
  unfold Machine.rangeFailed
  dsimp only
  split
  · exact h.refl s
  · split
    · exact h.trans (h.record s d _) (h.enterLeaving _ _ _)
    · exact h.record s d _

theorem rangeReceived (d : Nat) (w : RangingWindow) (b : Int) (s : State) : R s (rangeReceived f d w b s) := by
  unfold Machine.rangeReceived
  dsimp only
  split
  · exact h.enterLeaving _ _ _
  · exact h.trans (h.record s d _) (h.createOrder _ _ _)

theorem rangingTaken (d : Nat) (res : Resolution) (reading : Option Reading) (s : State) :
    R s (rangingTaken f d res reading s) := by
  unfold Machine.rangingTaken
  dsimp only
  split
  · exact h.refl s
  · refine h.trans (h.record s d fun r => { r with inFlight := none }) ?_
    split
    · exact h.rangeReceived _ _ _ _
    · exact h.rangeFailed _ _
    · exact h.rangeFailed _ _
    · exact h.rangeFailed _ _
    · exact h.refl _

end MonitorClosed

/-! ## Strikes and a drop that does not shine (R125, R131) -/

/-- `r'` is `r` but for its strikes and where its pending order stands. -/
def DropRecord.SameButStrikes (r r' : DropRecord) : Prop :=
  ∃ c, DropRecord.SameButStatus { r with strikes := c } r'

theorem DropRecord.SameButStrikes.refl (r : DropRecord) : r.SameButStrikes r := ⟨r.strikes, .refl _⟩

section
variable {f : FeederId} {d : Nat}

theorem spares_beginIsolation {suspects : List Nat} (kind : IsolationKind) (s : State) (h : d ∉ suspects) :
    Spares f d s (beginIsolation f kind suspects s) := by
  unfold beginIsolation
  exact .trans (.onFeeder (.of_eq rfl rfl)) (spares_beginStep (by rw [State.feeder_onFeeder_self]; exact h))

theorem scoreStrikes_same (k n : Nat) {s : State} (dim : (s.drop f d).state.shining = false) :
    (s.drop f d).SameButStrikes ((scoreStrikes f k n s).drop f d) := by
  unfold scoreStrikes
  dsimp only
  split
  · exact .refl _
  · generalize hc : min (((s.feeder f).drop k).strikes + n) Config.maxStrikes = count
    obtain ⟨y, hy⟩ : ∃ y, s.onDrop f k (fun r => { r with strikes := count }) = y := ⟨_, rfl⟩
    have scored : (s.drop f d).SameButStrikes (y.drop f d) := by
      rw [← hy]
      by_cases own : d = k
      · rw [own, State.drop_onDrop_self]
        exact ⟨count, .refl _⟩
      · rw [State.drop_onDrop_ne (h := own)]
        exact .refl _
    rw [hy]
    split
    · obtain ⟨z, hz⟩ : ∃ z, y.onFeeder f (fun x =>
        { x with lightCount := { x.lightCount with strikeLimits := x.lightCount.strikeLimits + 1 } }) = z := ⟨_, rfl⟩
      have same : z.drop f d = y.drop f d := by rw [← hz, State.drop_onFeeder_of_drops]; exact fun _ => rfl
      rw [← same] at scored
      rw [hz]
      obtain ⟨c, scored⟩ := scored
      split
      next calm =>
        have other : d ∉ [k] := fun own => by
          rw [List.mem_singleton.1 own] at dim
          exact Bool.false_ne_true (dim.symm.trans calm.2.2)
        exact ⟨c, scored.trans (spares_beginIsolation _ z other).own.record⟩
      next => exact ⟨c, scored.trans (spares_notify _ z).own.record⟩
    · exact scored

theorem takeGarble_same (k : Nat) {s : State} (dim : (s.drop f d).state.shining = false) :
    (s.drop f d).SameButStrikes ((takeGarble f k s).drop f d) := by
  obtain ⟨y, hy⟩ : ∃ y, s.onFeeder f (fun x =>
    { x with lightCount := { x.lightCount with garble := x.lightCount.garble + 1 } }) = y := ⟨_, rfl⟩
  have same : y.drop f d = s.drop f d := by rw [← hy, State.drop_onFeeder_of_drops]; exact fun _ => rfl
  rw [takeGarble, hy, ← same]
  exact scoreStrikes_same _ _ (same ▸ dim)

theorem takeMislabel_same (named : Nat) {s : State} (dim : (s.drop f d).state.shining = false) :
    (s.drop f d).SameButStrikes ((takeMislabel f named s).drop f d) := by
  obtain ⟨y, hy⟩ : ∃ y, s.onFeeder f (fun x =>
    { x with lightCount := { x.lightCount with mislabel := x.lightCount.mislabel + 1 } }) = y := ⟨_, rfl⟩
  have same : y.drop f d = s.drop f d := by rw [← hy, State.drop_onFeeder_of_drops]; exact fun _ => rfl
  unfold takeMislabel
  dsimp only
  rw [hy, ← same]
  split
  · exact scoreStrikes_same _ _ (same ▸ dim)
  · exact .refl _

end

/-! ## Work on one drop's record and orders (R76, R77) -/

/-- From `s` to `t` only the record of drop `d` moves, and the orders and DECLINEs that a filling places. -/
structure OnlyDrop (f : FeederId) (d : Nat) (s t : State) : Prop where
  frame : t = s.setFeeder f { s.feeder f with
    drops := (t.feeder f).drops, replies := (t.feeder f).replies, orderQueue := (t.feeder f).orderQueue }
  others : ∀ k, k ≠ d → (s.drop f k).SameButStatus (t.drop f k)

section
variable {f : FeederId} {d : Nat} {s t u : State}

theorem OnlyDrop.refl (s : State) : OnlyDrop f d s s := ⟨(State.setFeeder_feeder ..).symm, fun _ _ => .refl _⟩

theorem OnlyDrop.feeder (h : OnlyDrop f d s t) : t.feeder f = { s.feeder f with
    drops := (t.feeder f).drops, replies := (t.feeder f).replies, orderQueue := (t.feeder f).orderQueue } :=
  (congrArg (fun t : State => t.feeder f) h.frame).trans (State.feeder_setFeeder_self ..)

theorem OnlyDrop.trans (h : OnlyDrop f d s t) (k : OnlyDrop f d t u) : OnlyDrop f d s u := by
  refine ⟨?_, fun j hj => (h.others j hj).trans (k.others j hj)⟩
  have frame := k.frame
  rw [h.feeder] at frame
  refine frame.trans ?_
  rw [h.frame, State.setFeeder_setFeeder]

theorem onlyDrop_onDrop (g : DropRecord → DropRecord) (s : State) : OnlyDrop f d s (s.onDrop f d g) := by
  refine ⟨?_, fun k hk => ?_⟩
  · rw [State.onDrop, State.feeder_onFeeder_self]
    rfl
  · rw [State.drop_onDrop_ne (h := hk)]
    exact .refl _

theorem onlyDrop_fillOrders (s : State) : OnlyDrop f d s (fillOrders f s) := by
  refine ⟨?_, fun k _ => ?_⟩
  · rw [fillOrders, State.feeder_onFeeder_self]
    exact congrArg (s.setFeeder f) (Feeder.fillOrders_frame _)
  · rw [fillOrders, State.drop, State.drop, State.feeder_onFeeder_self]
    exact Feeder.fillOrders_drop ..

theorem onlyDrop_createOrder (kind : OrderKind) (s : State) : OnlyDrop f d s (createOrder f d kind s) := by
  unfold createOrder
  split
  · exact (onlyDrop_onDrop _ s).trans (onlyDrop_fillOrders _)
  · exact onlyDrop_onDrop _ s

theorem onlyDrop_enterLeaving (why : RemoveReason) (quiet : (s.feeder f).isolation.kind = none)
    (dim : (s.drop f d).state.shining = false) : OnlyDrop f d s (enterLeaving f d why s) := by
  have left := (onlyDrop_onDrop (f := f) (d := d) (DropRecord.departing why) s).trans (onlyDrop_createOrder .remove _)
  have calm : ((createOrder f d .remove (s.onDrop f d (DropRecord.departing why))).feeder f).isolation.kind = none := by
    rw [left.feeder]
    exact quiet
  have leaves : enterLeaving f d why s = createOrder f d .remove (s.onDrop f d (DropRecord.departing why)) := by
    unfold enterLeaving
    dsimp only
    rw [dim, if_neg Bool.false_ne_true]
    exact departure_of_no_isolation d _ false calm
  rw [leaves]
  exact left

end

/-! ## What a RANGING window's resolution does to the record (R98, R100, R101) -/

section
variable {f : FeederId} {d : Nat} {s : State}

theorem rangeReceived_far {w : RangingWindow} {b : Int}
    (far : ((s.feeder f).settings.td : Int) < b + (s.feeder f).settings.td - 32 * w.delay) :
    rangeReceived f d w b s = enterLeaving f d .outOfReach s := if_pos far

theorem rangeReceived_near {w : RangingWindow} {b : Int}
    (near : b + (s.feeder f).settings.td - 32 * w.delay ≤ ((s.feeder f).settings.td : Int)) :
    rangeReceived f d w b s = createOrder f d .equalise (s.onDrop f d fun r =>
      { r.ordered (b + (s.feeder f).settings.td - 32 * w.delay).toNat
          ((s.feeder f).settings.td - (b + (s.feeder f).settings.td - 32 * w.delay).toNat) with
        phase := some .equalising }) := if_neg (by omega)

theorem rangeFailed_frozen (frozen : (s.feeder f).frozen = true) : rangeFailed f d s = s := if_pos frozen

theorem rangeFailed_counted (moving : (s.feeder f).frozen = false) : rangeFailed f d s =
    if 3 ≤ (s.drop f d).rangeTries + 1 then
      enterLeaving f d .rangeFail (s.onDrop f d fun r => { r with rangeTries := r.rangeTries + 1 })
    else s.onDrop f d fun r => { r with rangeTries := r.rangeTries + 1 } := by
  unfold rangeFailed
  rw [if_neg (by rw [moving]; exact Bool.false_ne_true)]
  dsimp only
  rw [State.drop_onDrop_self]
  rfl

theorem rangingTaken_received (ranging : (s.drop f d).state = .ranging) {w : RangingWindow}
    (flying : (s.drop f d).inFlight = some w) (r : Reading) : rangingTaken f d .received (some r) s =
      rangeReceived f d w r.arrival (s.onDrop f d fun r => { r with inFlight := none }) := by
  unfold rangingTaken
  dsimp only
  rw [if_neg (not_not.2 ranging), flying]

theorem rangingTaken_failed (ranging : (s.drop f d).state = .ranging) {res : Resolution} (reading : Option Reading)
    (failed : res = .missing ∨ res = .garbled ∨ res = .mislabelled) : rangingTaken f d res reading s =
      rangeFailed f d (s.onDrop f d fun r => { r with inFlight := none }) := by
  unfold rangingTaken
  dsimp only
  rw [if_neg (not_not.2 ranging)]
  obtain rfl | rfl | rfl := failed <;> rfl

end

end Sys2Proof.Machine
end

section
/-! PROOFS. A window's resolution instant (R44, R45, R54), and the RANGING and DISCOVERY windows (R49, R60 to R64, R98,
R100, R101). -/

namespace Sys2Proof.Machine

/-! ## The resolution instant (R44, R45) -/

theorem Feeder.unresolved_of_window {x : Feeder} {n : CycleNo} {sl : Slot} {w : WindowId} {e : Entry} {g : Found}
    (held : x.slotOf n = some sl) (begun : sl.state ≠ .waiting) (named : sl.window w = some ⟨e, g, .unresolved⟩) :
    x.unresolved n w = some ⟨e, g, .unresolved⟩ := by
  unfold Feeder.unresolved
  simp only [held, if_neg begun, named]
  rfl

theorem Feeder.foundFor_of_window {x : Feeder} {n : CycleNo} {sl : Slot} {w : WindowId} {v : Window}
    (held : x.slotOf n = some sl) (named : sl.window w = some v) : x.foundFor n w = v.found := by
  simp [Feeder.foundFor, held, named]

/-- A window handed on by its entry, with what was found for it (R59 to R63). -/
def handOnWindow (f : FeederId) (n : CycleNo) (w : WindowId) (e : Entry) (g : Found) (s : State) : State :=
  match e with
  | .burst d start _ allocs flag => resolveBurst f n d start allocs flag ((s.feeder f).excusesBurst n d) g s
  | .ranging d _ _ => resolveRanging f n d ((s.feeder f).excusesRanging d) g s
  | .discovery _ _ _ => s.onFeeder f fun x => x.setResolution n w .resolved g
  | .dark _ _ => s

theorem resolveWindow_eq {f : FeederId} {n : CycleNo} {w : WindowId} {s : State} {v : Window}
    (waits : (s.feeder f).unresolved n w = some v) : resolveWindow f n w s =
      arbitrate (completeIfDrained f n (handOnWindow f n w v.entry
        (((s.onFeeder f fun x => x.abandon n w).feeder f).foundFor n w) (s.onFeeder f fun x => x.abandon n w))) := by
  unfold resolveWindow
  rw [waits]
  rfl

theorem Feeder.abandon_of_not {x : Feeder} {n : CycleNo} {w : WindowId} (h : x.reader.serving ≠ some (n, w)) :
    x.abandon n w = x := if_neg h

/-- A window that the reader does not serve is handed on with what was found for it. -/
theorem resolveWindow_of_window {f : FeederId} {n : CycleNo} {w : WindowId} {s : State} {sl : Slot} {e : Entry} {g : Found}
    (held : (s.feeder f).slotOf n = some sl) (begun : sl.state ≠ .waiting)
    (named : sl.window w = some ⟨e, g, .unresolved⟩) (apart : (s.feeder f).reader.serving ≠ some (n, w)) :
    resolveWindow f n w s = arbitrate (completeIfDrained f n (handOnWindow f n w e g s)) := by
  rw [resolveWindow_eq (Feeder.unresolved_of_window held begun named), State.onFeeder, Feeder.abandon_of_not apart,
    State.setFeeder_feeder, Feeder.foundFor_of_window held named]

/-- A burst that is still being read is garbled first, and its window resolves as if it had been garbled before (R54). -/
theorem resolveWindow_of_serving {f : FeederId} {n : CycleNo} {w : WindowId} {s : State} {sl sl' : Slot} {e : Entry}
    {g g' : Found} (held : (s.feeder f).slotOf n = some sl) (begun : sl.state ≠ .waiting)
    (named : sl.window w = some ⟨e, g, .unresolved⟩) (serving : (s.feeder f).reader.serving = some (n, w))
    (held' : ((s.feeder f).measurementGarbled n w).slotOf n = some sl') (begun' : sl'.state ≠ .waiting)
    (named' : sl'.window w = some ⟨e, g', .unresolved⟩)
    (idle : ((s.feeder f).measurementGarbled n w).reader = .idle) :
    resolveWindow f n w s = resolveWindow f n w (s.setFeeder f ((s.feeder f).measurementGarbled n w)) := by
  have left : s.onFeeder f (fun x => x.abandon n w) = s.setFeeder f ((s.feeder f).measurementGarbled n w) :=
    congrArg (s.setFeeder f) (if_pos serving)
  have found : ((s.setFeeder f ((s.feeder f).measurementGarbled n w)).feeder f).slotOf n = some sl' := by
    rwa [State.feeder_setFeeder_self]
  have apart : ((s.setFeeder f ((s.feeder f).measurementGarbled n w)).feeder f).reader.serving ≠ some (n, w) := by
    rw [State.feeder_setFeeder_self, idle]
    exact nofun
  rw [resolveWindow_of_window found begun' named' apart,
    resolveWindow_eq (Feeder.unresolved_of_window held begun named), left, Feeder.foundFor_of_window found named']

theorem completeIfDrained_of_receiving {f : FeederId} {n : CycleNo} {s : State} {sl : Slot}
    (held : (s.feeder f).slotOf n = some sl) (state : sl.state = .receiving) : completeIfDrained f n s = s := by
  unfold completeIfDrained
  rw [held]
  exact if_neg (by simp [state])

theorem completeIfDrained_of_held {f : FeederId} {n : CycleNo} {s : State} {sl : Slot}
    (held : (s.feeder f).slotOf n = some sl) (state : sl.state = .draining) : completeIfDrained f n s =
      if sl.allResolved then complete f sl s else s := by
  unfold completeIfDrained
  rw [held]
  exact if_congr (by simp [state]) rfl rfl

/-! ## The resolution set in the ring (R59, R64) -/

theorem Slot.onWindow_window_self {sl : Slot} {w : WindowId} {v : Window} (named : sl.window w = some v)
    (k : Window → Window) (hk : ∀ v, (k v).entry = v.entry) : (sl.onWindow w k).window w = some (k v) := by
  rw [Slot.window_onWindow sl w k hk, named]
  rfl

theorem Feeder.setResolution_of_held {x : Feeder} {n : CycleNo} {sl : Slot} (held : x.slotOf n = some sl) (w : WindowId)
    (res : Resolution) (g : Found) : x.setResolution n w res g =
      { x.setSlot n (some (sl.onWindow w fun v => { v with resolution := res })) with
        receptionCount := countResolution res g x.receptionCount } := by
  unfold Feeder.setResolution
  rw [held]
  rfl

theorem Feeder.slotOf_setResolution {x : Feeder} {n : CycleNo} {sl : Slot} (held : x.slotOf n = some sl) (w : WindowId)
    (res : Resolution) (g : Found) (m : CycleNo) : (x.setResolution n w res g).slotOf m =
      if m = n then some (sl.onWindow w fun v => { v with resolution := res }) else x.slotOf m := by
  rw [Feeder.setResolution_of_held held]
  exact Feeder.slotOf_setSlot_map (sl' := sl.onWindow w fun v => { v with resolution := res }) held rfl m

theorem Feeder.setResolution_frame (x : Feeder) (n : CycleNo) (w : WindowId) (res : Resolution) (g : Found) :
    x.setResolution n w res g = { x with
      ring := (x.setResolution n w res g).ring, receptionCount := countResolution res g x.receptionCount } := by
  unfold Feeder.setResolution
  cases x.slotOf n <;> rfl

/-- The one counter that a resolution moves (R64). -/
theorem countResolution_outcome (g : Found) (c : ReceptionCounters) {res : Resolution} (h : res = outcomeOf false g) :
    countResolution res g c = { c with
      received := c.received + (if res = .received then 1 else 0)
      missing := c.missing + (if res = .missing then 1 else 0)
      garbledSpan := c.garbledSpan + (if res = .garbled ∧ g ≠ .garbledLabel ∧ g ≠ .garbledEnd then 1 else 0)
      garbledLabel := c.garbledLabel + (if res = .garbled ∧ g = .garbledLabel then 1 else 0)
      garbledEnd := c.garbledEnd + (if res = .garbled ∧ g = .garbledEnd then 1 else 0)
      mislabelled := c.mislabelled + (if res = .mislabelled then 1 else 0) } := by
  subst h
  cases g <;> simp [outcomeOf, countResolution]

/-! ## RANGING windows (R60, R98, R100, R101) -/

section
variable {f : FeederId} {n : CycleNo} {d : Nat}

theorem carrySymptom_of_clean {res : Resolution} (clean : res = .missing ∨ res = .received) (w : WindowId) (g : Found)
    (s : State) : carrySymptom f n d w res g s = s := by
  obtain rfl | rfl := clean <;> rfl

theorem MonitorClosed.carrySymptom {R : State → State → Prop} (closed : MonitorClosed f R) {res : Resolution}
    (counted : res ≠ .excused) (w : WindowId) (g : Found) (s : State) : R s (carrySymptom f n d w res g s) := by
  unfold Machine.carrySymptom
  split
  · exact closed.takeGarble _ _
  · exact closed.takeMislabel _ _
  · exact absurd rfl counted
  · exact absurd rfl counted
  · exact closed.refl s

theorem lineKept_carrySymptom {res : Resolution} (counted : res ≠ .excused) (w : WindowId) (g : Found) (s : State) :
    LineKept f s (carrySymptom f n d w res g s) := (lineKept_closed f).carrySymptom counted w g s

theorem carrySymptom_same {s : State} {k : Nat} (dim : (s.drop f k).state.shining = false) {res : Resolution}
    (counted : res ≠ .excused) (w : WindowId) (g : Found) :
    (s.drop f k).SameButStrikes ((carrySymptom f n d w res g s).drop f k) := by
  unfold carrySymptom
  split
  · exact takeGarble_same _ dim
  · exact takeMislabel_same _ dim
  · exact absurd rfl counted
  · exact absurd rfl counted
  · exact .refl _

/-- The state of a RANGING record after its window's resolution: RANGING still, or LEAVING. -/
theorem rangeFailed_drop {s : State} {r : DropRecord} (hr : s.drop f d = r) :
    ((s.feeder f).frozen = true → (rangeFailed f d s).drop f d = r) ∧
    ((s.feeder f).frozen = false → r.rangeTries < 2 →
      (rangeFailed f d s).drop f d = { r with rangeTries := r.rangeTries + 1 }) ∧
    ((s.feeder f).frozen = false → 2 ≤ r.rangeTries →
      (({ r with rangeTries := r.rangeTries + 1 } : DropRecord).departing .rangeFail).Ordered .remove
        ((rangeFailed f d s).drop f d)) := by
  subst hr
  refine ⟨fun frozen => by rw [rangeFailed_frozen frozen], fun moving few => ?_, fun moving many => ?_⟩
  · rw [rangeFailed_counted moving, if_neg (by omega), State.drop_onDrop_self]
  · rw [rangeFailed_counted moving, if_pos (by omega)]
    have left := enterLeaving_drop_ordered f d .rangeFail (s.onDrop f d fun r => { r with rangeTries := r.rangeTries + 1 })
    rwa [State.drop_onDrop_self] at left

theorem onlyDrop_rangeFailed {s : State} (quiet : (s.feeder f).isolation.kind = none)
    (dim : (s.drop f d).state.shining = false) : OnlyDrop f d s (rangeFailed f d s) := by
  have tried := onlyDrop_onDrop (f := f) (d := d) (fun r => { r with rangeTries := r.rangeTries + 1 }) s
  cases frozen : (s.feeder f).frozen with
  | true =>
    rw [rangeFailed_frozen frozen]
    exact .refl s
  | false =>
    rw [rangeFailed_counted frozen]
    split
    · exact tried.trans (onlyDrop_enterLeaving _ (by rw [tried.feeder]; exact quiet) (by rwa [State.drop_onDrop_self]))
    · exact tried

theorem onlyDrop_rangeReceived {s : State} (quiet : (s.feeder f).isolation.kind = none)
    (dim : (s.drop f d).state.shining = false) (w : RangingWindow) (b : Int) :
    OnlyDrop f d s (rangeReceived f d w b s) := by
  unfold rangeReceived
  dsimp only
  split
  · exact onlyDrop_enterLeaving _ quiet dim
  · exact (onlyDrop_onDrop _ s).trans (onlyDrop_createOrder _ _)

theorem onlyDrop_rangingTaken {s : State} (quiet : (s.feeder f).isolation.kind = none)
    (res : Resolution) (reading : Option Reading) : OnlyDrop f d s (rangingTaken f d res reading s) := by
  unfold rangingTaken
  dsimp only
  split
  · exact .refl s
  · next ranging =>
    have landed := onlyDrop_onDrop (f := f) (d := d) (fun r => { r with inFlight := none }) s
    have calm : ((s.onDrop f d fun r => { r with inFlight := none }).feeder f).isolation.kind = none := by
      rw [landed.feeder]; exact quiet
    have dim : ((s.onDrop f d fun r => { r with inFlight := none }).drop f d).state.shining = false := by
      rw [State.drop_onDrop_self, not_not.1 ranging]; rfl
    refine landed.trans ?_
    split
    · exact onlyDrop_rangeReceived calm dim _ _
    · exact onlyDrop_rangeFailed calm dim
    · exact onlyDrop_rangeFailed calm dim
    · exact onlyDrop_rangeFailed calm dim
    · exact .refl _

end

end Sys2Proof.Machine
end

section
/-! PROOFS. RANGING and DISCOVERY windows resolved (R44, R45, R49, R54, R60 to R64, R98, R100, R101). -/

namespace Sys2Proof.Machine

/-- A record that an order was created for, once strikes may have been scored to it. -/
theorem DropRecord.Ordered.after_strikes {kind : OrderKind} {r r' r'' : DropRecord} (h : r.Ordered kind r')
    (k : r'.SameButStrikes r'') : ∃ c, DropRecord.Ordered kind { r with strikes := c } r'' := by
  obtain ⟨rest, kinds⟩ := h
  obtain ⟨c, same, kinds'⟩ := k
  exact ⟨c, by rw [same, rest], kinds'.trans kinds⟩

section
variable {f : FeederId} {n : CycleNo} {d : Nat} {s : State}

theorem rangeFailed_still (ranging : (s.drop f d).state = .ranging) (landed : (s.drop f d).inFlight = none) :
    (((rangeFailed f d s).drop f d).state = .ranging ∨ ((rangeFailed f d s).drop f d).state = .leaving) ∧
      ((rangeFailed f d s).drop f d).inFlight = none := by
  obtain ⟨frozen, few, many⟩ := rangeFailed_drop (f := f) (d := d) (s := s) rfl
  cases moving : (s.feeder f).frozen with
  | true =>
    rw [frozen moving]
    exact ⟨.inl ranging, landed⟩
  | false =>
    by_cases tries : (s.drop f d).rangeTries < 2
    · rw [few moving tries]
      exact ⟨.inl ranging, landed⟩
    · rw [(many moving (Nat.not_lt.1 tries)).1]
      exact ⟨.inr rfl, rfl⟩

theorem rangeReceived_drop (w : RangingWindow) (b : Int) {r : DropRecord} (hr : s.drop f d = r) {td : Nat} {rtd : Int}
    (htd : td = (s.feeder f).settings.td) (hrtd : rtd = b + td - 32 * w.delay) :
    (td < rtd → (r.departing .outOfReach).Ordered .remove ((rangeReceived f d w b s).drop f d)) ∧
    (rtd ≤ td → DropRecord.Ordered .equalise { r.ordered rtd.toNat (td - rtd.toNat) with phase := some .equalising }
      ((rangeReceived f d w b s).drop f d)) := by
  subst htd hrtd hr
  refine ⟨fun far => ?_, fun near => ?_⟩
  · rw [rangeReceived_far far]
    exact enterLeaving_drop_ordered ..
  · rw [rangeReceived_near near]
    have ordered := createOrder_drop_self (f := f) (d := d) .equalise (s.onDrop f d fun r =>
      { r.ordered (b + (s.feeder f).settings.td - 32 * w.delay).toNat
          ((s.feeder f).settings.td - (b + (s.feeder f).settings.td - 32 * w.delay).toNat) with
        phase := some .equalising })
    rwa [State.drop_onDrop_self] at ordered

theorem rangeReceived_still (w : RangingWindow) (b : Int) (ranging : (s.drop f d).state = .ranging)
    (landed : (s.drop f d).inFlight = none) :
    (((rangeReceived f d w b s).drop f d).state = .ranging ∨ ((rangeReceived f d w b s).drop f d).state = .leaving) ∧
      ((rangeReceived f d w b s).drop f d).inFlight = none := by
  obtain ⟨far, near⟩ := rangeReceived_drop (f := f) (d := d) (s := s) w b rfl rfl rfl
  by_cases reach : b + ((s.feeder f).settings.td : Int) - 32 * w.delay ≤ (s.feeder f).settings.td
  · rw [(near reach).1]
    exact ⟨.inl ranging, landed⟩
  · rw [(far (Int.not_le.1 reach)).1]
    exact ⟨.inr rfl, rfl⟩

theorem rangingTaken_still (ranging : (s.drop f d).state = .ranging) (res : Resolution) (reading : Option Reading) :
    (((rangingTaken f d res reading s).drop f d).state = .ranging ∨
      ((rangingTaken f d res reading s).drop f d).state = .leaving) ∧
      ((rangingTaken f d res reading s).drop f d).inFlight = none := by
  have ranging' : ((s.onDrop f d fun r => { r with inFlight := none }).drop f d).state = .ranging := by
    rw [State.drop_onDrop_self]; exact ranging
  have landed : ((s.onDrop f d fun r => { r with inFlight := none }).drop f d).inFlight = none := by
    rw [State.drop_onDrop_self]
  unfold rangingTaken
  dsimp only
  rw [if_neg (not_not.2 ranging)]
  split
  · exact rangeReceived_still _ _ ranging' landed
  · exact rangeFailed_still ranging' landed
  · exact rangeFailed_still ranging' landed
  · exact rangeFailed_still ranging' landed
  · exact ⟨.inl ranging', landed⟩

/-- A RANGING window that is not excused. -/
theorem resolveRanging_counted (g : Found) {res : Resolution} (h : res = outcomeOf false g) :
    resolveRanging f n d false g s = carrySymptom f n d (.ranging d) res g (rangingTaken f d res g.reading
      (s.setFeeder f ((s.feeder f).setResolution n (.ranging d) res g))) := by
  subst h
  have counted : outcomeOf false g ≠ .excused := by cases g <;> exact nofun
  unfold resolveRanging
  dsimp only
  rw [if_neg counted]
  rfl

/-- A RANGING window of a drop that is no longer RANGING. -/
theorem resolveRanging_excused (g : Found) :
    resolveRanging f n d true g s = carrySymptom f n d (.ranging d) .excused g
      (s.setFeeder f ((s.feeder f).setResolution n (.ranging d) .excused g)) := rfl

theorem carrySymptom_excused (w : WindowId) (g : Found) : carrySymptom f n d w .excused g s =
    if g = .nothing then s
    else s.setFeeder f ((s.feeder f).onLight n fun l => { l with strays := l.strays ++ [w] }) := by
  cases g <;> rfl

end

section
variable (f : FeederId) (n : CycleNo) (d : Nat) {s : State} (live : s.resetHeld = false)
include live

theorem exec_rangingWindowResolved :
    exec (.rangingWindowResolved f n d) s = .next (resolveWindow f n (.ranging d) s) :=
  exec_live (c := .rangingWindowResolved f n d) (g := resolveWindow f n (.ranging d)) rfl live

theorem exec_discoveryWindowResolved :
    exec (.discoveryWindowResolved f n) s = .next (resolveWindow f n .discovery s) :=
  exec_live (c := .discoveryWindowResolved f n) (g := resolveWindow f n .discovery) rfl live

end

theorem arbitrate_drop (s : State) (f : FeederId) (d : Nat) : (arbitrate s).drop f d = s.drop f d := by
  rw [State.drop, arbitrate_feeder, State.drop]

theorem countResolution_resolved (g : Found) (c : ReceptionCounters) : countResolution .resolved g c = c := by
  cases g <;> rfl

/-- The windows of a slot whose one finding was overwritten are resolved alike. -/
theorem measurementGarbled_window {x : Feeder} {n : CycleNo} {sl : Slot} {w : WindowId} (window : w ≠ .discovery)
    (held : x.slotOf n = some sl) : x.measurementGarbled n w = ({ x with reader := .idle } : Feeder).setSlot n
      (some (sl.onWindow w fun v => { v with found := .garbledSpan })) := by
  have same : ({ x with reader := .idle } : Feeder).slotOf n = some sl := held
  rw [Feeder.measurementGarbled_of_ne x n window]
  unfold Feeder.decided Feeder.setFound
  rw [same]

/-- Settles O44. -/
theorem rangingResolutionFixesTheDelay : Obligations.RangingResolutionFixesTheDelay := by
  unfold Obligations.RangingResolutionFixesTheDelay
  refine ⟨fun f n d w delay g sl s ordered hordered live held state named apart h1 h64 ranging tries => ?ranges,
    fun f n d w delay g sl s live held begun named serving => ?served,
    fun f n w len delay g sl s live held begun named serving => ?swept,
    fun f n d w delay g sl s live held state named apart other => ?excused,
    fun f n w len delay g sl s live held state named apart => ?sweep,
    fun f n w len delay g sl sl' s live held state named apart hsl => ?drains⟩
  case ranges =>
    have included : (s.feeder f).excusesRanging d = false := decide_eq_false (not_not.2 ranging)
    obtain ⟨res, hres⟩ : ∃ res, res = outcomeOf false g := ⟨_, rfl⟩
    have counted : res ≠ .excused := by rw [hres]; cases g <;> exact nofun
    have slots := Feeder.slotOf_setResolution held (.ranging d) res g
    have frame := Feeder.setResolution_frame (s.feeder f) n (.ranging d) res g
    obtain ⟨x, hx⟩ : ∃ x, (s.feeder f).setResolution n (.ranging d) res g = x := ⟨_, rfl⟩
    rw [hx] at slots frame
    obtain ⟨y, hy⟩ : ∃ y, s.setFeeder f x = y := ⟨_, rfl⟩
    have record : y.feeder f = x := by rw [← hy, State.feeder_setFeeder_self]
    have drops : ∀ k, y.drop f k = s.drop f k := fun k => by rw [State.drop, record, frame]; rfl
    have settings : (y.feeder f).settings = (s.feeder f).settings := by rw [record, frame]
    have frozen : (y.feeder f).frozen = (s.feeder f).frozen := by rw [record, frame]; rfl
    have ranging' : (y.drop f d).state = .ranging := by rw [drops, ranging]
    obtain ⟨v, hv⟩ : ∃ v, rangingTaken f d res g.reading y = v := ⟨_, rfl⟩
    obtain ⟨still, landed⟩ := hv ▸ rangingTaken_still (f := f) (d := d) ranging' res g.reading
    have dim : (v.drop f d).state.shining = false := by obtain e | e := still <;> rw [e] <;> rfl
    obtain ⟨z, hz⟩ : ∃ z, carrySymptom f n d (.ranging d) res g v = z := ⟨_, rfl⟩
    have same : (v.drop f d).SameButStrikes (z.drop f d) := hz ▸ carrySymptom_same dim counted _ _
    have lineV : LineKept f y v := hv ▸ (lineKept_closed f).rangingTaken d res g.reading y
    have lineZ : LineKept f v z := hz ▸ lineKept_carrySymptom counted _ _ _
    have slotV : ∀ m, (v.feeder f).slotOf m = if m = n
        then some (sl.onWindow (.ranging d) fun v => { v with resolution := res }) else (s.feeder f).slotOf m := fun m => by
      rw [Feeder.slotOf_congr lineV.ring, record, slots]
    have slotZ : (z.feeder f).slotOf n = some (sl.onWindow (.ranging d) fun v => { v with resolution := res }) := by
      rw [Feeder.slotOf_congr lineZ.ring, slotV, if_pos rfl]
    have ran : exec (.rangingWindowResolved f n d) s = .next (arbitrate z) := by
      rw [exec_rangingWindowResolved f n d live, resolveWindow_of_window held (by rw [state]; exact nofun) named apart]
      change Host.Outcome.next (arbitrate (completeIfDrained f n (resolveRanging f n d ((s.feeder f).excusesRanging d) g s))) = _
      rw [included, resolveRanging_counted g hres, hx, hy, hv, hz, completeIfDrained_of_receiving slotZ state]
    have order : ∀ {k : OrderKind} {r : DropRecord}, r.pending = (s.drop f d).pending →
        r.following = (s.drop f d).following → r.Ordered k (z.drop f d) → ordered k (arbitrate z) := by
      intro k r pending following ⟨rest, kinds⟩
      rw [hordered, arbitrate_drop]
      rw [pending] at rest kinds
      exact ⟨kinds, by rw [rest, following]⟩
    have clean : ∀ {k : OrderKind} {r : DropRecord}, r.Ordered k (v.drop f d) →
        ∃ c, DropRecord.Ordered k { r with strikes := c } (z.drop f d) := fun h => h.after_strikes same
    refine ⟨_, ran, ?_, fun r iw rtd td hg hiw htd hrtd => ?_, fun lost => ?_, fun res' hres' => ?_⟩
    · obtain ⟨c, rest, -⟩ := same
      rw [arbitrate_drop, rest]
      exact landed
    · have received : res = .received := by rw [hres, hg]; rfl
      have reading : g.reading = some r := by rw [hg]; rfl
      rw [received, reading, rangingTaken_received ranging' (by rw [drops]; exact hiw)] at hv
      obtain ⟨far, near⟩ := rangeReceived_drop (f := f) (d := d) (s := y.onDrop f d fun r => { r with inFlight := none })
        iw r.arrival (r := { s.drop f d with inFlight := none }) (by rw [State.drop_onDrop_self, drops]) (td := td) (rtd := rtd)
        (by rw [htd, ← settings, State.onDrop_drops, State.feeder_setFeeder_self]) hrtd
      rw [hv] at far near
      refine ⟨fun out => ?_, fun reach => ?_⟩
      · obtain ⟨c, left⟩ := clean (far out)
        rw [arbitrate_drop, left.1]
        exact ⟨rfl, rfl, rfl, order (r := { ({ s.drop f d with inFlight := none } : DropRecord).departing .outOfReach with
          strikes := c }) rfl rfl left⟩
      · obtain ⟨c, left⟩ := clean (near reach)
        have ordered' := order (r := { ({ s.drop f d with inFlight := none } : DropRecord).ordered rtd.toNat
          (td - rtd.toNat) with phase := some .equalising, strikes := c }) rfl rfl left
        rw [arbitrate_drop, left.1]
        refine ⟨ranging, rfl, ?_, ?_, rfl, rfl, ordered'⟩
        · change ((rtd.toNat : Nat) : Int) = max 0 rtd
          omega
        · change rtd.toNat + (td - rtd.toNat) = td
          omega
    · have failed : res = .missing ∨ res = .garbled ∨ res = .mislabelled := by
        rw [hres]
        cases g with
        | received r => exact absurd rfl (lost r)
        | nothing => exact .inl rfl
        | mislabelled => exact .inr (.inr rfl)
        | taken | garbledSpan | garbledLabel | garbledEnd => exact .inr (.inl rfl)
      rw [rangingTaken_failed ranging' _ failed] at hv
      have frozen' : ((y.onDrop f d fun r => { r with inFlight := none }).feeder f).frozen = (s.feeder f).frozen := by
        rw [← frozen, State.onDrop_drops, State.feeder_setFeeder_self]; rfl
      obtain ⟨stays, few, many⟩ := rangeFailed_drop (f := f) (d := d)
        (s := y.onDrop f d fun r => { r with inFlight := none }) (r := { s.drop f d with inFlight := none })
        (by rw [State.drop_onDrop_self, drops])
      rw [hv, frozen'] at stays few many
      refine ⟨fun holds => ?_, fun moving below => ?_, fun moving last => ?_⟩
      · obtain ⟨c, rest, -⟩ := same
        rw [arbitrate_drop, rest, stays holds]
        exact ⟨ranging, rfl, rfl⟩
      · obtain ⟨c, rest, -⟩ := same
        rw [arbitrate_drop, rest, few moving below]
        exact ⟨ranging, rfl, rfl⟩
      · obtain ⟨c, left⟩ := clean (many moving (by rw [last]))
        have ordered' := order (r := { ({ s.drop f d with
          inFlight := none, rangeTries := (s.drop f d).rangeTries + 1 } : DropRecord).departing .rangeFail with
            strikes := c }) rfl rfl left
        rw [arbitrate_drop, left.1]
        exact ⟨rfl, rfl, ordered'⟩
    · have outcome : res' = res := by rw [hres', hres]; cases g <;> rfl
      subst outcome
      refine ⟨v, (slotV n).trans (if_pos rfl), fun m hm => (slotV m).trans (if_neg hm), ?_, fun quiet => ?_,
        fun clean => ?_, fun garbled => ?_, fun other hother => ?_⟩
      · have kept : (v.feeder f).receptionCount = (y.feeder f).receptionCount :=
          congrArg (fun p => p.2.2.2.2.2.2.2.2.2.2.2.2.1) lineV.own
        rw [kept, record, frame]
        exact countResolution_outcome g _ hres
      · have quiet' : (y.feeder f).isolation.kind = none := by rw [record, frame]; exact quiet
        have only := hv ▸ onlyDrop_rangingTaken (f := f) (d := d) (s := y) quiet' res' g.reading
        refine ⟨?_, fun k hk => ?_⟩
        · have whole := only.frame
          rw [record] at whole
          refine whole.trans ?_
          have own := only.feeder
          rw [record] at own
          have ring : (v.feeder f).ring = x.ring := by rw [own]
          have count : (v.feeder f).receptionCount = x.receptionCount := by rw [own]
          rw [← hy, State.setFeeder_setFeeder, ring, count, frame]
        · have spared := only.others k hk
          rwa [drops] at spared
      · rw [← hz, carrySymptom_of_clean clean]
      · rw [← hz, garbled]
        rfl
      · have named : res' = .mislabelled := by rw [hres, hother]; rfl
        rw [← hz, named, hother]
        rfl
  case served =>
    have garbled := measurementGarbled_window (x := s.feeder f) (w := .ranging d) nofun held
    have cycle := Feeder.cycle_of_slotOf held
    rw [exec_rangingWindowResolved f n d live, exec_rangingWindowResolved f n d (s := s.setFeeder f _) live, ← garbled]
    refine congrArg _ (resolveWindow_of_serving (sl' := sl.onWindow (.ranging d) fun v => { v with found := .garbledSpan })
      held begun named serving ?_ begun (Slot.onWindow_window_self named _ fun _ => rfl) ?_)
    · rw [garbled]
      exact Feeder.slotOf_setSlot_self _ cycle
    · rw [garbled]
      rfl
  case swept =>
    rw [exec_discoveryWindowResolved f n live, exec_discoveryWindowResolved f n (s := s.setFeeder f _) live]
    exact congrArg _ (resolveWindow_of_serving held begun named serving held begun named rfl)
  case excused =>
    have excuses : (s.feeder f).excusesRanging d = true := decide_eq_true other
    obtain ⟨y, hy⟩ : ∃ y, (s.feeder f).setResolution n (.ranging d) .excused g = y := ⟨_, rfl⟩
    have slots := Feeder.slotOf_setResolution held (.ranging d) .excused g
    have frame := Feeder.setResolution_frame (s.feeder f) n (.ranging d) .excused g
    rw [hy] at slots frame
    have window := Slot.onWindow_window_self named (fun v => { v with resolution := .excused }) fun _ => rfl
    obtain ⟨z, hz⟩ : ∃ z, carrySymptom f n d (.ranging d) .excused g (s.setFeeder f y) = s.setFeeder f z ∧
        z.slotOf n = some { sl.onWindow (.ranging d) fun v => { v with resolution := .excused } with
          light := { sl.light with strays := sl.light.strays ++ (if g = .nothing then [] else [.ranging d]) } } ∧
        z = { s.feeder f with ring := z.ring, receptionCount :=
          { (s.feeder f).receptionCount with excused := (s.feeder f).receptionCount.excused + 1 } } := by
      rw [carrySymptom_excused, State.feeder_setFeeder_self, State.setFeeder_setFeeder]
      by_cases nothing : g = .nothing
      · rw [if_pos nothing, if_pos nothing, List.append_nil]
        exact ⟨y, rfl, (slots n).trans (if_pos rfl), frame⟩
      · rw [if_neg nothing, if_neg nothing]
        refine ⟨_, rfl, ?_, ?_⟩
        · rw [Feeder.slotOf_onLight, slots, if_pos rfl, Option.map_some, if_pos rfl]
          rfl
        · rw [Feeder.onLight_only_ring, frame]
          rfl
    obtain ⟨carried, slot, whole⟩ := hz
    have own : ((s.setFeeder f z).feeder f).slotOf n = _ := (congrArg (·.slotOf n) (State.feeder_setFeeder_self ..)).trans slot
    refine ⟨s.setFeeder f z, _, ?_, own, window, rfl, ?_⟩
    · rw [exec_rangingWindowResolved f n d live, resolveWindow_of_window held (by rw [state]; exact nofun) named apart]
      change Host.Outcome.next (arbitrate (completeIfDrained f n (resolveRanging f n d ((s.feeder f).excusesRanging d) g s))) = _
      rw [excuses, resolveRanging_excused, hy, carried, completeIfDrained_of_receiving own state]
    · rw [State.feeder_setFeeder_self]
      exact congrArg (s.setFeeder f) whole
  case sweep =>
    have slots := Feeder.slotOf_setResolution held .discovery .resolved g
    have frame := Feeder.setResolution_frame (s.feeder f) n .discovery .resolved g
    rw [countResolution_resolved] at frame
    have own := (congrArg (·.slotOf n) (State.feeder_setFeeder_self s f
      ((s.feeder f).setResolution n .discovery .resolved g))).trans ((slots n).trans (if_pos rfl))
    refine ⟨s.setFeeder f ((s.feeder f).setResolution n .discovery .resolved g), ?_, ?_, _, own,
      Slot.onWindow_window_self named (fun v => { v with resolution := .resolved }) fun _ => rfl⟩
    · rw [exec_discoveryWindowResolved f n live, resolveWindow_of_window held (by rw [state]; exact nofun) named apart]
      exact congrArg (fun t => Host.Outcome.next (arbitrate t)) (completeIfDrained_of_receiving own state)
    · rw [State.feeder_setFeeder_self]
      exact congrArg (s.setFeeder f) frame
  case drains =>
    have resolved : (s.feeder f).setResolution n .discovery .resolved g = (s.feeder f).setSlot n (some sl') := by
      rw [Feeder.setResolution_of_held held, countResolution_resolved, hsl]
      rfl
    have own : ((s.setFeeder f ((s.feeder f).setSlot n (some sl'))).feeder f).slotOf n = some sl' := by
      rw [State.feeder_setFeeder_self]
      exact Feeder.slotOf_setSlot_self _ (by rw [hsl]; exact (Feeder.cycle_of_slotOf held : sl.cycle = n))
    have draining : sl'.state = .draining := hsl ▸ state
    have ran : exec (.discoveryWindowResolved f n) s = .next (arbitrate (completeIfDrained f n
        (s.setFeeder f ((s.feeder f).setSlot n (some sl'))))) := by
      rw [exec_discoveryWindowResolved f n live, resolveWindow_of_window held (by rw [state]; exact nofun) named apart,
        ← resolved]
      rfl
    rw [ran, completeIfDrained_of_held own draining]
    exact ⟨fun all => by rw [if_pos all], fun open1 => by rw [open1, if_neg Bool.false_ne_true]⟩

end Sys2Proof.Machine
end

section
/-! PROOFS. Reassembly, and the frames that it completes (R65 to R68, R70 to R72). -/

namespace Sys2Proof.Machine

/-! ## One reassembly slot (R68) -/

/-- From `s` to `y` only the slot of one lane moves, and the discard counters: it holds `slot`, and they are `count`. -/
structure SlotTakes (f : FeederId) (d lane : Nat) (s y : State) (slot : Option Partial) (count : UpstreamCounters) :
    Prop where
  slot : (y.feeder f).partialFrame d lane = slot
  others : ∀ k l, 1 ≤ k → l < 4 → (k ≠ d ∨ l ≠ lane) → (y.feeder f).partialFrame k l = (s.feeder f).partialFrame k l
  frame : y = s.setFeeder f { s.feeder f with reassembly := (y.feeder f).reassembly, upCount := count }

section
variable {f : FeederId} {d lane : Nat} {s y : State} {slot : Option Partial} {count : UpstreamCounters}

theorem SlotTakes.refl (f : FeederId) (d lane : Nat) (s : State) :
    SlotTakes f d lane s s ((s.feeder f).partialFrame d lane) (s.feeder f).upCount :=
  ⟨rfl, fun _ _ _ _ _ => rfl, (State.setFeeder_feeder ..).symm⟩

theorem SlotTakes.feeder (h : SlotTakes f d lane s y slot count) :
    y.feeder f = { s.feeder f with reassembly := (y.feeder f).reassembly, upCount := count } :=
  (congrArg (fun t : State => t.feeder f) h.frame).trans (State.feeder_setFeeder_self ..)

theorem SlotTakes.write (h : SlotTakes f d lane s y slot count) (hd : 1 ≤ d) (hl : lane < 4) (p : Option Partial) :
    SlotTakes f d lane s (writePartial f d lane p y) p count := by
  refine ⟨?_, fun k l hk hl4 apart => ?_, ?_⟩
  · rw [writePartial, State.feeder_onFeeder_self, Feeder.partialFrame_setPartial hd hd hl hl, if_pos ⟨rfl, rfl⟩]
  · rw [writePartial, State.feeder_onFeeder_self, Feeder.partialFrame_setPartial hd hk hl hl4,
      if_neg fun own => apart.elim (· own.1) (· own.2)]
    exact h.others k l hk hl4 apart
  · have own := h.feeder
    rw [writePartial, State.feeder_onFeeder_self, State.onFeeder, own, h.frame, State.setFeeder_setFeeder]
    rfl

theorem SlotTakes.counted (h : SlotTakes f d lane s y slot count) (g : UpstreamCounters → UpstreamCounters) :
    SlotTakes f d lane s (onUpCount f g y) slot (g count) := by
  refine ⟨?_, fun k l hk hl apart => ?_, ?_⟩
  · rw [onUpCount, State.feeder_onFeeder_self]
    exact h.slot
  · rw [onUpCount, State.feeder_onFeeder_self]
    exact h.others k l hk hl apart
  · have own := h.feeder
    rw [onUpCount, State.feeder_onFeeder_self, State.onFeeder, own, h.frame, State.setFeeder_setFeeder]

/-- A frame displaced from its slot is counted, if one stood there (R66, R68). -/
theorem slotTakes_displace (hd : 1 ≤ d) (hl : lane < 4) (s : State) : SlotTakes f d lane s (displace f d lane s) none
    { (s.feeder f).upCount with displaced := (s.feeder f).upCount.displaced +
      (if ((s.feeder f).partialFrame d lane).isSome then 1 else 0) } := by
  obtain ⟨none, same⟩ | ⟨some, emptied⟩ := discardPartial_cases
    (fun c => { c with displaced := c.displaced + 1 }) d lane (s.feeder f)
  · have stays : displace f d lane s = s := by rw [displace, State.onFeeder, same, State.setFeeder_feeder]
    have zero : (s.feeder f).upCount.displaced + 0 = (s.feeder f).upCount.displaced := BitVec.add_zero _
    rw [stays, none, Option.isSome_none, if_neg Bool.false_ne_true, zero]
    exact none ▸ SlotTakes.refl f d lane s
  · have written : displace f d lane s = writePartial f d lane Option.none
        (onUpCount f (fun c => { c with displaced := c.displaced + 1 }) s) := by
      rw [displace, State.onFeeder, emptied, writePartial, onUpCount, State.onFeeder_onFeeder]
      rfl
    rw [written, if_pos some]
    exact ((SlotTakes.refl f d lane s).counted _).write hd hl _

end

/-! ## Complete frames (R70, R71) -/

section
variable {f : FeederId} {d lane flow : Nat} {bytes : List Byte} {s : State}

theorem frameComplete_runt (short : bytes.length < 64) : frameComplete f d lane flow bytes s =
    s.setFeeder f { s.feeder f with upCount := { (s.feeder f).upCount with
      runt := (s.feeder f).upCount.runt + 1 } } := if_pos short

theorem frameComplete_misrouted (long : 64 ≤ bytes.length)
    (other : (s.flow flow).feeder ≠ f ∨ (s.flow flow).drop ≠ d ∨ (s.flow flow).lane ≠ lane) :
    frameComplete f d lane flow bytes s = s.setFeeder f { s.feeder f with upCount := { (s.feeder f).upCount with
      misrouted := (s.feeder f).upCount.misrouted + 1 } } := by
  unfold frameComplete
  exact (if_neg (Nat.not_lt.2 long)).trans (if_pos other)

theorem frameComplete_offered (long : 64 ≤ bytes.length) (feeder : (s.flow flow).feeder = f)
    (drop : (s.flow flow).drop = d) (own : (s.flow flow).lane = lane) :
    frameComplete f d lane flow bytes s = offerUpstream f d (s.flow flow).tag bytes s := by
  unfold frameComplete
  exact (if_neg (Nat.not_lt.2 long)).trans (if_neg (by simp [feeder, drop, own]))

end

/-! ## The rows of R68 -/

section
variable {f : FeederId} {n : CycleNo} {d lane : Nat} {g : Segment} {s : State}

theorem commitSegment_alone (first : g.first = true) (last : g.last = true) : commitSegment f n d lane g s =
    frameComplete f d lane g.flow g.payload (displace f d lane s) := by
  unfold commitSegment
  rw [if_pos first]
  exact if_pos last

theorem commitSegment_first (first : g.first = true) (last : g.last = false) : commitSegment f n d lane g s =
    writePartial f d lane (some ⟨g.flow, n, g.payload⟩) (displace f d lane s) := by
  unfold commitSegment
  rw [if_pos first]
  exact if_neg (by rw [last]; exact Bool.false_ne_true)

theorem commitSegment_orphan (first : g.first = false) (free : (s.feeder f).partialFrame d lane = none) :
    commitSegment f n d lane g s = onUpCount f (fun c => { c with orphan := c.orphan + 1 }) s := by
  unfold commitSegment
  rw [if_neg (by rw [first]; exact Bool.false_ne_true), free]

theorem commitSegment_continues (first : g.first = false) {p : Partial}
    (held : (s.feeder f).partialFrame d lane = some p) : commitSegment f n d lane g s = continueFrame f d lane p g s := by
  unfold commitSegment
  rw [if_neg (by rw [first]; exact Bool.false_ne_true), held]

theorem continueFrame_broken {p : Partial} (other : p.flow ≠ g.flow) : continueFrame f d lane p g s =
    writePartial f d lane none (onUpCount f (fun c => { c with flowBreak := c.flowBreak + 1 }) s) := if_pos other

theorem continueFrame_oversize {p : Partial} (flow : p.flow = g.flow) (long : 2000 < p.payload.length + g.payload.length) :
    continueFrame f d lane p g s =
      writePartial f d lane none (onUpCount f (fun c => { c with oversize := c.oversize + 1 }) s) :=
  (if_neg (not_not.2 flow)).trans (if_pos long)

theorem continueFrame_fits {p : Partial} (flow : p.flow = g.flow) (fits : p.payload.length + g.payload.length ≤ 2000) :
    continueFrame f d lane p g s =
      if g.last then frameComplete f d lane p.flow (p.payload ++ g.payload) (writePartial f d lane none s)
      else writePartial f d lane (some { p with payload := p.payload ++ g.payload }) s :=
  (if_neg (not_not.2 flow)).trans (if_neg (Nat.not_lt.2 fits))

end

/-- Settles O43. -/
theorem commitsReassembleAndOffer : Obligations.CommitsReassembleAndOffer := by
  unfold Obligations.CommitsReassembleAndOffer
  refine ⟨fun f n d s => ?window, fun f n d lane g s x c o hd hl hx hc ho => ?segment,
    fun f d lane s x hd hl hx => ?overrun, fun f d lane flow bytes s x r hx hr => ?frame⟩
  case window =>
    refine congrArg (fun op => List.foldl op _ _) (funext fun y => funext fun g => ?_)
    unfold commitStaged
    cases g.item <;> rfl
  case segment =>
    subst hx hc ho
    have none := SlotTakes.refl f d lane s
    cases first : g.first with
    | true =>
      have displaced := slotTakes_displace (f := f) hd hl s
      cases last : g.last with
      | true =>
        exact ⟨_, _, _, displaced.slot, displaced.others, displaced.frame,
          fun _ => ⟨rfl, fun _ => ⟨rfl, commitSegment_alone first last⟩, nofun⟩, nofun, nofun⟩
      | false =>
        have written := displaced.write hd hl (some ⟨g.flow, n, g.payload⟩)
        exact ⟨_, _, _, written.slot, written.others, written.frame,
          fun _ => ⟨rfl, nofun, fun _ => ⟨rfl, commitSegment_first first last⟩⟩, nofun, nofun⟩
    | false =>
      cases held : (s.feeder f).partialFrame d lane with
      | none =>
        have counted := none.counted fun c => { c with orphan := c.orphan + 1 }
        exact ⟨_, _, _, counted.slot, counted.others, counted.frame, nofun,
          fun _ _ => ⟨rfl, held, commitSegment_orphan first held⟩, nofun⟩
      | some p =>
        have continues := commitSegment_continues (n := n) first held
        by_cases flow : p.flow = g.flow
        · by_cases long : 2000 < p.payload.length + g.payload.length
          · have written := (none.counted fun c => { c with oversize := c.oversize + 1 }).write hd hl Option.none
            refine ⟨_, _, _, written.slot, written.others, written.frame, nofun, nofun, ?_⟩
            rintro _ - ⟨rfl⟩
            exact ⟨fun other => absurd flow other, fun _ _ => ⟨rfl, rfl, continues.trans (continueFrame_oversize flow long)⟩,
              fun _ fits => absurd fits (Nat.not_le.2 long)⟩
          · have fits := Nat.not_lt.1 long
            have goes := continues.trans (continueFrame_fits flow fits)
            cases last : g.last with
            | true =>
              have written := none.write hd hl Option.none
              refine ⟨_, _, _, written.slot, written.others, written.frame, nofun, nofun, ?_⟩
              rintro _ - ⟨rfl⟩
              exact ⟨fun other => absurd flow other, fun _ far => absurd far long,
                fun _ _ => ⟨rfl, nofun, fun _ => ⟨rfl, goes.trans (if_pos last)⟩⟩⟩
            | false =>
              have written := none.write hd hl (Option.some { p with payload := p.payload ++ g.payload })
              refine ⟨_, _, _, written.slot, written.others, written.frame, nofun, nofun, ?_⟩
              rintro _ - ⟨rfl⟩
              exact ⟨fun other => absurd flow other, fun _ far => absurd far long,
                fun _ _ => ⟨rfl, fun _ => ⟨rfl, goes.trans (if_neg (by rw [last]; exact Bool.false_ne_true))⟩, nofun⟩⟩
        · have written := (none.counted fun c => { c with flowBreak := c.flowBreak + 1 }).write hd hl Option.none
          refine ⟨_, _, _, written.slot, written.others, written.frame, nofun, nofun, ?_⟩
          rintro _ - ⟨rfl⟩
          exact ⟨fun _ => ⟨rfl, rfl, continues.trans (continueFrame_broken flow)⟩, fun same => absurd same flow,
            fun same => absurd same flow⟩
  case overrun =>
    subst hx
    have emptied := (slotTakes_displace (f := f) hd hl s).counted fun c => { c with laneOverrun := c.laneOverrun + 1 }
    exact ⟨_, rfl, emptied.slot, emptied.others, emptied.frame⟩
  case frame =>
    subst hx hr
    refine ⟨frameComplete_runt, frameComplete_misrouted, fun long feeder drop own => ⟨fun room => ?_, fun full => ?_⟩⟩
    · rw [frameComplete_offered long feeder drop own]
      exact if_pos room
    · rw [frameComplete_offered long feeder drop own]
      exact if_neg (Nat.not_lt.2 full)

end Sys2Proof.Machine
end

section
/-! PROOFS. A BURST window resolved and handed on (R20, R47, R54, R59, R62 to R65, R72). -/

namespace Sys2Proof.Machine

/-! ## What taking a burst leaves alone -/

namespace MonitorClosed

variable {f : FeederId} {R : State → State → Prop} (h : MonitorClosed f R)
include h

theorem correctDrift (d : Nat) (offset : Int) (s : State) : R s (correctDrift f d offset s) := by
  unfold Machine.correctDrift
  dsimp only
  split
  · exact h.refl s
  · split
    · exact h.enterLeaving _ _ _
    · split
      · exact h.trans (h.record s d _) (h.createOrder _ _ _)
      · exact h.trans (h.record s d _) (h.createOrder _ _ _)

theorem burstFailed (n : CycleNo) (d : Nat) (missing stale : Bool) (s : State) :
    R s (burstFailed f n d missing stale s) := by
  unfold Machine.burstFailed Machine.rouseFailed
  dsimp only
  split
  · split
    · split
      · exact h.record s d _
      · split
        · exact h.enterLeaving _ _ _
        · exact h.refl s
    · exact h.refl s
  · split
    · exact h.record s d _
    · exact h.refl s

theorem burstTaken (n : CycleNo) (d w : Nat) (res : Resolution) (reading : Option Reading) (s : State) :
    R s (burstTaken f n d w res reading s) := by
  have seen := h.record s d fun r => r.seen n
  unfold Machine.burstTaken
  dsimp only
  split
  · exact h.refl s
  · refine h.trans seen ?_
    split
    · split
      · exact h.record _ _ _
      · exact h.trans (h.correctDrift _ _ _) (h.record _ _ _)
    · exact h.burstFailed _ _ _ _ _
    · exact h.burstFailed _ _ _ _ _
    · exact h.burstFailed _ _ _ _ _
    · exact h.refl _

theorem burstExcused (n : CycleNo) (d : Nat) (flag : Option BurstFlag) (s : State) : R s (burstExcused f n d flag s) := by
  unfold Machine.burstExcused
  dsimp only
  split
  · exact h.record s d _
  · exact h.refl s

end MonitorClosed

/-- From `s` to `t` the feeder's line stays as it is, its lane records too, and no reassembly slot is filled. -/
structure LanesKept (f : FeederId) (s t : State) : Prop where
  line : LineKept f s t
  lanes : (t.feeder f).lanes = (s.feeder f).lanes
  partials : ∀ d l, (s.feeder f).partialFrame d l = none → (t.feeder f).partialFrame d l = none

theorem LanesKept.refl (f : FeederId) (s : State) : LanesKept f s s := ⟨.refl f s, rfl, fun _ _ h => h⟩

theorem LanesKept.trans {f : FeederId} {s t u : State} (h : LanesKept f s t) (k : LanesKept f t u) : LanesKept f s u :=
  ⟨h.line.trans k.line, k.lanes.trans h.lanes, fun d l none => k.partials d l (h.partials d l none)⟩

theorem LanesKept.onFeeder {f : FeederId} {s : State} {k : Feeder → Feeder} (line : LineKept f s (s.onFeeder f k))
    (lanes : (k (s.feeder f)).lanes = (s.feeder f).lanes)
    (partials : ∀ d l, (s.feeder f).partialFrame d l = none → (k (s.feeder f)).partialFrame d l = none) :
    LanesKept f s (s.onFeeder f k) :=
  ⟨line, by rwa [State.feeder_onFeeder_self], by rwa [State.feeder_onFeeder_self]⟩

theorem lanesKept_closed (f : FeederId) : MonitorClosed f (LanesKept f) where
  refl := .refl f
  trans := .trans
  notify n s := ⟨lineKept_notify f n s, by rw [notify_feeder], fun d l none => by rwa [notify_feeder]⟩
  record s d g := .onFeeder ((lineKept_closed f).record s d g) rfl fun _ _ none => none
  fill s := .onFeeder ((lineKept_closed f).fill s) (by rw [Feeder.fillOrders_frame])
    fun d l none => by rwa [Feeder.fillOrders_partialFrame]
  discard s d count := by
    refine .onFeeder ((lineKept_closed f).discard s d count) ?_ fun k l none => ?_
    · obtain ⟨slots, counts, h⟩ := Feeder.discardPartials_frame count d laneNumbers (s.feeder f)
      rw [h]
    · exact (Feeder.Spares.foldl (fun x lane => Feeder.spares_discardPartial count k d lane x) laneNumbers
        (s.feeder f)).noPartial l none
  mark s d m := .onFeeder ((lineKept_closed f).mark s d m) rfl fun _ _ none => none
  light s rogue recent quiet isolation count :=
    .onFeeder ((lineKept_closed f).light s rogue recent quiet isolation count) rfl fun _ _ none => none

theorem LineKept.staging {f : FeederId} {s t : State} (h : LineKept f s t) : (t.feeder f).staging = (s.feeder f).staging :=
  congrArg (fun p => p.2.2.2.2.2.2.2.2.2.2.2.2.2.2.2.2.2.2.1) h.own

theorem LineKept.reader {f : FeederId} {s t : State} (h : LineKept f s t) : (t.feeder f).reader = (s.feeder f).reader :=
  congrArg (fun p => p.2.2.2.2.2.2.2.2.2.2.2.1) h.own

theorem LineKept.receptionCount {f : FeederId} {s t : State} (h : LineKept f s t) :
    (t.feeder f).receptionCount = (s.feeder f).receptionCount :=
  congrArg (fun p => p.2.2.2.2.2.2.2.2.2.2.2.2.1) h.own

/-! ## What a commit leaves alone (R65) -/

/-- From `s` to `t` feeder `f` changes in its reassembly slots and discard counters alone. -/
def OnlySlots (f : FeederId) (s t : State) : Prop :=
  t.feeder f = { s.feeder f with reassembly := (t.feeder f).reassembly, upCount := (t.feeder f).upCount }

section
variable {f : FeederId}

theorem OnlySlots.trans {s t u : State} (h : OnlySlots f s t) (k : OnlySlots f t u) : OnlySlots f s u := by
  unfold OnlySlots at *
  rw [k, h]

theorem OnlySlots.of_feeder {s t : State} (h : t.feeder f = s.feeder f) : OnlySlots f s t := by
  unfold OnlySlots
  rw [h]

theorem onlySlots_onUpCount (g : UpstreamCounters → UpstreamCounters) (s : State) : OnlySlots f s (onUpCount f g s) := by
  unfold OnlySlots onUpCount
  rw [State.feeder_onFeeder_self]

theorem onlySlots_writePartial (d lane : Nat) (p : Option Partial) (s : State) :
    OnlySlots f s (writePartial f d lane p s) := by
  unfold OnlySlots writePartial
  rw [State.feeder_onFeeder_self]
  rfl

theorem onlySlots_displace (d lane : Nat) (s : State) : OnlySlots f s (displace f d lane s) := by
  unfold OnlySlots displace
  rw [State.feeder_onFeeder_self]
  obtain ⟨-, same⟩ | ⟨-, emptied⟩ := discardPartial_cases
    (fun c => { c with displaced := c.displaced + 1 }) d lane (s.feeder f)
  · rw [same]
  · rw [emptied]

theorem onlySlots_frameComplete (d lane flow : Nat) (bytes : List Byte) (s : State) :
    OnlySlots f s (frameComplete f d lane flow bytes s) := by
  unfold frameComplete
  dsimp only
  split
  · exact onlySlots_onUpCount _ s
  · split
    · exact onlySlots_onUpCount _ s
    · unfold offerUpstream
      split
      · refine .of_feeder ?_
        rw [meterFrame_frame]
        rfl
      · exact onlySlots_onUpCount _ s

theorem onlySlots_commitSegment (n : CycleNo) (d lane : Nat) (g : Segment) (s : State) :
    OnlySlots f s (commitSegment f n d lane g s) := by
  unfold commitSegment continueFrame
  dsimp only
  split
  · split
    · exact (onlySlots_displace d lane s).trans (onlySlots_frameComplete _ _ _ _ _)
    · exact (onlySlots_displace d lane s).trans (onlySlots_writePartial _ _ _ _)
  · split
    · exact onlySlots_onUpCount _ s
    · split
      · exact (onlySlots_onUpCount _ s).trans (onlySlots_writePartial _ _ _ _)
      · split
        · exact (onlySlots_onUpCount _ s).trans (onlySlots_writePartial _ _ _ _)
        · split
          · exact (onlySlots_writePartial _ _ _ s).trans (onlySlots_frameComplete _ _ _ _ _)
          · exact onlySlots_writePartial _ _ _ s

theorem onlySlots_commitStaged (s : State) (g : Staged) : OnlySlots f s (commitStaged f s g) := by
  unfold commitStaged
  split
  · exact (onlySlots_displace _ _ s).trans (onlySlots_onUpCount _ _)
  · exact onlySlots_commitSegment _ _ _ _ s

theorem onlySlots_commitStageds (l : List Staged) (s : State) : OnlySlots f s (l.foldl (commitStaged f) s) := by
  induction l generalizing s with
  | nil => exact .of_feeder rfl
  | cons g l ih => exact (onlySlots_commitStaged s g).trans (ih _)

/-- Whatever becomes of the staged segments, the feeder's staging list is empty and only its slots and discard counters
move. -/
theorem committedOrDropped_feeder (n : CycleNo) (d : Nat) (lanes : List Nat) (s : State) (commit : Prop) [Decidable commit] :
    ∃ y, (if commit then commitWindow f n d s else dropWindow f d lanes s) = y ∧
      y.feeder f = { s.feeder f with
        staging := [], reassembly := (y.feeder f).reassembly, upCount := (y.feeder f).upCount } := by
  refine ⟨_, rfl, ?_⟩
  split
  · have staged : OnlySlots f (s.onFeeder f fun x => { x with staging := [] }) (commitWindow f n d s) :=
      onlySlots_commitStageds _ _
    unfold OnlySlots at staged
    rwa [State.feeder_onFeeder_self] at staged
  · obtain ⟨slots, counts, h⟩ := Feeder.discardPartials_frame
      (fun c => { c with lostInFlight := c.lostInFlight + 1 }) d lanes { s.feeder f with staging := [] }
    rw [dropWindow, State.feeder_onFeeder_self, h]

end

/-! ## The lanes of a window (R20) -/

section
variable {n : CycleNo} {d : Nat} (hd : 1 ≤ d)

theorem resolveLanes_frame (allocs : List (Nat × Nat)) (reports : List (Option Nat)) (x : Feeder) :
    resolveLanes n d allocs reports x = { x with lanes := (resolveLanes n d allocs reports x).lanes } := by
  induction allocs generalizing x reports with
  | nil => rfl
  | cons a allocs ih =>
    obtain ⟨l, granted⟩ := a
    exact ih _ (x.setLane d l _)

include hd

theorem resolveLanes_lane_of_other {allocs : List (Nat × Nat)} (low : ∀ a ∈ allocs, a.1 < 4) (reports : List (Option Nat))
    (x : Feeder) {k l : Nat} (hk : 1 ≤ k) (hl : l < 4) (other : k ≠ d ∨ l ∉ allocs.map Prod.fst) :
    (resolveLanes n d allocs reports x).lane k l = x.lane k l := by
  induction allocs generalizing x reports with
  | nil => rfl
  | cons a allocs ih =>
    obtain ⟨l', granted⟩ := a
    have apart : ¬ (k = d ∧ l = l') := fun own => by
      obtain away | absent := other
      · exact away own.1
      · simp [own.2] at absent
    refine (ih (fun a h => low a (List.mem_cons_of_mem _ h)) _ _ ?_).trans ?_
    · exact other.imp id fun absent tail => absent (List.mem_cons_of_mem _ tail)
    · rw [Feeder.lane_setLane hd hk (low _ List.mem_cons_self) hl, if_neg apart]

/-- Each lane of the window takes its own granted words and its own report. -/
theorem resolveLanes_lane_at {allocs : List (Nat × Nat)} (low : ∀ a ∈ allocs, a.1 < 4)
    (once : (allocs.map Prod.fst).Nodup) (reports : List (Option Nat)) (x : Feeder) {i l granted : Nat}
    (here : allocs[i]? = some (l, granted)) : (resolveLanes n d allocs reports x).lane d l =
      (x.lane d l).resolved n granted (reports[i]?.bind id) := by
  induction allocs generalizing x reports i with
  | nil => simp at here
  | cons a allocs ih =>
    obtain ⟨l', granted'⟩ := a
    have low' := fun a h => low a (List.mem_cons_of_mem (l', granted') h)
    have low₀ : l' < 4 := low _ List.mem_cons_self
    obtain ⟨fresh, once'⟩ := List.nodup_cons.1 once
    cases i with
    | zero =>
      obtain ⟨rfl, rfl⟩ : l' = l ∧ granted' = granted := by simpa using here
      refine (resolveLanes_lane_of_other hd low' _ _ hd low₀ (.inr fresh)).trans ?_
      rw [Feeder.lane_setLane hd hd low₀ low₀, if_pos ⟨rfl, rfl⟩, List.head?_eq_getElem?]
    | succ i =>
      have at_i : allocs[i]? = some (l, granted) := by simpa using here
      have listed : (l, granted) ∈ allocs := List.mem_of_getElem? at_i
      have other : l ≠ l' := fun same => fresh (List.mem_map.2 ⟨_, listed, same⟩)
      refine (ih low' once' (reports.drop 1) _ at_i).trans ?_
      rw [Feeder.lane_setLane hd hd low₀ (low' _ listed), if_neg fun own => other own.2, List.getElem?_drop, Nat.add_comm]

end

/-! ## Excused windows and the counters (R47, R64) -/

theorem Feeder.excusesBurst_iff (x : Feeder) (n : CycleNo) (d : Nat) : x.excusesBurst n d = true ↔
    (x.drop d).state = .empty ∨ (x.drop d).state = .darkened ∨ (x.drop d).state = .quarantined ∨
      (x.drop d).state = .leaving ∨ x.mark d = some .waiting ∨
      ∃ m, x.mark d = some (.cycle m) ∧ (m - n).toNat < 2 ^ 31 := by
  have mark : (match x.mark d with
      | none => false
      | some .waiting => true
      | some (.cycle m) => atOrBefore n m) = true ↔
      x.mark d = some .waiting ∨ ∃ m, x.mark d = some (.cycle m) ∧ (m - n).toNat < 2 ^ 31 := by
    cases x.mark d with
    | none => simp
    | some mark =>
      cases mark with
      | waiting => simp
      | cycle m =>
        change decide _ = true ↔ _
        rw [decide_eq_true_eq]
        simp [cyclesFrom]
  unfold Feeder.excusesBurst
  rw [Bool.or_eq_true]
  refine (or_congr_right mark).trans ?_
  cases (x.drop d).state <;> simp

theorem countResolution_burst (e : Bool) (g : Found) (c : ReceptionCounters) {res : Resolution} (h : res = outcomeOf e g) :
    countResolution res g c = { c with
      received := c.received + (if res = .received then 1 else 0)
      missing := c.missing + (if res = .missing then 1 else 0)
      garbledSpan := c.garbledSpan + (if res = .garbled ∧ g ≠ .garbledLabel ∧ g ≠ .garbledEnd then 1 else 0)
      garbledLabel := c.garbledLabel + (if res = .garbled ∧ g = .garbledLabel then 1 else 0)
      garbledEnd := c.garbledEnd + (if res = .garbled ∧ g = .garbledEnd then 1 else 0)
      mislabelled := c.mislabelled + (if res = .mislabelled then 1 else 0)
      excused := c.excused + (if res = .excused then 1 else 0) } := by
  subst h
  cases e with
  | true => simp [outcomeOf, countResolution]
  | false => cases g <;> simp [outcomeOf, countResolution]

end Sys2Proof.Machine
end

section
/-! PROOFS. A BURST window resolved, in the order in which the blocks take it (R20, R47, R54, R59, R62 to R65, R72). -/

namespace Sys2Proof.Machine

theorem Slot.onWindow_id (sl : Slot) (w : WindowId) : sl.onWindow w (fun v => v) = sl := by
  simp [Slot.onWindow]

theorem Slot.onWindow_onWindow (sl : Slot) (w : WindowId) {j : Window → Window} (hj : ∀ v, (j v).entry = v.entry)
    (k : Window → Window) : (sl.onWindow w j).onWindow w k = sl.onWindow w fun v => k (j v) := by
  unfold Slot.onWindow
  rw [List.map_map]
  refine congrArg (fun l => { sl with windows := l }) (List.map_congr_left fun v _ => ?_)
  by_cases named : v.entry.windowId = some w
  · simp [named, hj]
  · simp [named]

/-- A window resolves as it does with its reader idle and a burst still being read garbled (R54). -/
theorem resolveWindow_left {f : FeederId} {n : CycleNo} {w : WindowId} {s : State} {sl : Slot} {e : Entry} {g g0 : Found}
    (window : w ≠ .discovery) (held : (s.feeder f).slotOf n = some sl) (begun : sl.state ≠ .waiting)
    (named : sl.window w = some ⟨e, g0, .unresolved⟩)
    (hg : g = if (s.feeder f).reader.serving = some (n, w) then .garbledSpan else g0) :
    ∃ x, resolveWindow f n w s = resolveWindow f n w (s.setFeeder f x) ∧
      x = { s.feeder f with
        reader := if (s.feeder f).reader.serving = some (n, w) then .idle else (s.feeder f).reader, ring := x.ring } ∧
      (∀ m, x.slotOf m = if m = n then some (sl.onWindow w fun v => { v with
        found := if (s.feeder f).reader.serving = some (n, w) then .garbledSpan else v.found })
        else (s.feeder f).slotOf m) ∧
      (sl.onWindow w fun v => { v with
        found := if (s.feeder f).reader.serving = some (n, w) then .garbledSpan else v.found }).window w =
          some ⟨e, g, .unresolved⟩ ∧
      x.reader.serving ≠ some (n, w) := by
  by_cases serving : (s.feeder f).reader.serving = some (n, w)
  · simp only [if_pos serving] at hg ⊢
    subst hg
    have named' := Slot.onWindow_window_self named (fun v => { v with found := .garbledSpan }) fun _ => rfl
    have garbled := measurementGarbled_window (x := s.feeder f) window held
    obtain ⟨x, hx⟩ : ∃ x, (s.feeder f).measurementGarbled n w = x := ⟨_, rfl⟩
    have same : ({ s.feeder f with reader := .idle } : Feeder).slotOf n = some sl := held
    have slots : ∀ m, x.slotOf m = if m = n then some (sl.onWindow w fun v => { v with found := .garbledSpan })
        else (s.feeder f).slotOf m := fun m => by
      rw [← hx, garbled]
      exact Feeder.slotOf_setSlot_map (sl' := sl.onWindow w fun v => { v with found := .garbledSpan }) same rfl m
    have idle : x.reader = .idle := by rw [← hx, garbled]; rfl
    refine ⟨x, ?_, ?_, slots, named', by rw [idle]; exact nofun⟩
    · rw [resolveWindow_of_serving (sl' := sl.onWindow w fun v => { v with found := .garbledSpan }) held begun named serving
        (by rw [hx, slots, if_pos rfl]) begun named' (by rw [hx, idle]), hx]
    · rw [← hx, garbled]
      rfl
  · simp only [if_neg serving] at hg ⊢
    subst hg
    refine ⟨s.feeder f, by rw [State.setFeeder_feeder], rfl, fun m => ?_, ?_, serving⟩
    · rw [Slot.onWindow_id]
      split
      · next same => rw [same, held]
      · rfl
    · rw [Slot.onWindow_id]
      exact named

section
variable {f : FeederId} {n : CycleNo} {d : Nat}

/-- What carrying a symptom to the Light Monitor leaves (R63): the slot but for its light, the counters, the reader, the
staging list and the lane records; no reassembly slot is filled. -/
theorem carrySymptom_keeps {s : State} {sl : Slot} (held : (s.feeder f).slotOf n = some sl) (w : WindowId)
    (res : Resolution) (g : Found) : ∃ t, carrySymptom f n d w res g s = t ∧
      (∃ l, (t.feeder f).slotOf n = some { sl with light := l }) ∧
      (t.feeder f).receptionCount = (s.feeder f).receptionCount ∧ (t.feeder f).staging = (s.feeder f).staging ∧
      (t.feeder f).reader = (s.feeder f).reader ∧ (t.feeder f).lanes = (s.feeder f).lanes ∧
      ∀ k l, (s.feeder f).partialFrame k l = none → (t.feeder f).partialFrame k l = none := by
  refine ⟨_, rfl, ?_⟩
  by_cases excused : res = .excused
  · rw [excused, carrySymptom_excused]
    split
    · exact ⟨⟨sl.light, held⟩, rfl, rfl, rfl, rfl, fun _ _ none => none⟩
    · rw [State.feeder_setFeeder_self, Feeder.slotOf_onLight, held, Option.map_some, if_pos rfl, Feeder.onLight_only_ring]
      exact ⟨⟨_, rfl⟩, rfl, rfl, rfl, rfl, fun _ _ none => none⟩
  · obtain ⟨line, lanes, partials⟩ := (lanesKept_closed f).carrySymptom (n := n) (d := d) excused w g s
    refine ⟨⟨sl.light, ?_⟩, line.receptionCount, line.staging, line.reader, lanes, partials⟩
    rw [Feeder.slotOf_congr line.ring, held]

/-! ## The parts of a BURST window's resolution -/

theorem reportsTaken_none {x : Feeder} {res : Resolution} (h : res ≠ .received ∨ (x.drop d).state = .empty)
    (r : Option Reading) : reportsTaken x d res r = [] := by
  unfold reportsTaken
  split
  · obtain other | empty := h
    · exact absurd rfl other
    · exact if_pos empty
  · rfl

theorem reportsTaken_received {x : Feeder} (held : (x.drop d).state ≠ .empty) (r : Reading) :
    reportsTaken x d .received (some r) = r.reports.map some := if_neg held

/-- What the Flow Engine does for a window not RECEIVED (R65, R72): its granted lanes lose their partial frames. -/
theorem dropWindow_granted (hd : 1 ≤ d) {allocs : List (Nat × Nat)} (once : (allocs.map Prod.fst).Nodup)
    (low : ∀ a ∈ allocs, a.1 < 4) (s : State) :
    ∃ t, dropWindow f d ((allocs.filter fun a => decide (a.2 ≠ 0)).map Prod.fst) s = t ∧
      (∀ k l, 1 ≤ k → l < 4 → (t.feeder f).partialFrame k l =
        if k = d ∧ (∃ a ∈ allocs, a.1 = l ∧ a.2 ≠ 0) then none else (s.feeder f).partialFrame k l) ∧
      t = s.setFeeder f { s.feeder f with
        staging := [], reassembly := (t.feeder f).reassembly
        upCount := { (s.feeder f).upCount with
          lostInFlight := (s.feeder f).upCount.lostInFlight + BitVec.ofNat 32 (allocs.filter fun a =>
            decide (a.2 ≠ 0) && ((s.feeder f).partialFrame d a.1).isSome).length } } := by
  have granted : ∀ l, l ∈ (allocs.filter fun a => decide (a.2 ≠ 0)).map Prod.fst ↔ ∃ a ∈ allocs, a.1 = l ∧ a.2 ≠ 0 :=
    fun l => by simp [and_comm]
  have count : (((allocs.filter fun a => decide (a.2 ≠ 0)).map Prod.fst).filter
      fun l => ((s.feeder f).partialFrame d l).isSome).length =
      (allocs.filter fun a => decide (a.2 ≠ 0) && ((s.feeder f).partialFrame d a.1).isSome).length := by
    rw [List.filter_map, List.length_map, List.filter_filter]
    exact congrArg List.length (List.filter_congr fun a _ => Bool.and_comm _ _)
  obtain ⟨t, dropped, emptied, whole⟩ := dropWindow_eq f hd _ (once.sublist (List.filter_sublist.map _)) (fun l hl => by
    obtain ⟨a, listed, rfl, -⟩ := (granted l).1 hl
    exact low a listed) s
  refine ⟨t, dropped, fun k l hk hl => ?_, ?_⟩
  · rw [emptied k l hk hl]
    exact if_congr (and_congr_right fun _ => granted l) rfl rfl
  · rw [count] at whole
    exact whole

/-- The parts of a BURST window's resolution, by name (R62). -/
theorem resolveBurst_eq {w : Nat} {allocs : List (Nat × Nat)} {flag : Option BurstFlag} {excused : Bool} {g : Found}
    {res : Resolution} {s x y z v : State} (hres : res = outcomeOf excused g)
    (hx : x = s.setFeeder f ((s.feeder f).setResolution n (.burst d) res g))
    (hy : y = if res = .received then commitWindow f n d x
      else dropWindow f d ((allocs.filter fun a => decide (a.2 ≠ 0)).map Prod.fst) x)
    (hz : z = y.setFeeder f (resolveLanes n d allocs (reportsTaken (y.feeder f) d res g.reading) (y.feeder f)))
    (hv : v = if res = .excused then burstExcused f n d flag z else burstTaken f n d w res g.reading z) :
    resolveBurst f n d w allocs flag excused g s = carrySymptom f n d (.burst d) res g v := by
  have granted : (fun a : Nat × Nat => decide (a.2 ≠ 0)) = fun a => decide (0 < a.2) := by
    funext a
    simp [Nat.pos_iff_ne_zero]
  rw [granted] at hy
  subst hres hx hy hz hv
  rfl

end

end Sys2Proof.Machine
end

section
/-! PROOFS. BURST_WINDOW_RESOLVED (R20, R47, R54, R59, R62 to R65, R72). -/

namespace Sys2Proof.Machine

section
variable {f : FeederId} {n : CycleNo} {d : Nat}

/-- What is left of a BURST window's resolution in the feeder: the window's outcome and its counter, an empty staging list,
the lanes of the window, and no partial frame in the granted lanes of a window not RECEIVED (R20, R64, R65). -/
theorem resolveBurst_spec {w : Nat} {allocs : List (Nat × Nat)} {flag : Option BurstFlag} {g : Found}
    {res : Resolution} {s : State} {sl : Slot} (held : (s.feeder f).slotOf n = some sl)
    (hres : res = outcomeOf ((s.feeder f).excusesBurst n d) g) :
    ∃ t x y z v : State, resolveBurst f n d w allocs flag ((s.feeder f).excusesBurst n d) g s = t ∧
      x = s.setFeeder f { s.feeder f with
        ring := (x.feeder f).ring, receptionCount := countResolution res g (s.feeder f).receptionCount } ∧
      (∀ m, (x.feeder f).slotOf m = if m = n
        then some (sl.onWindow (.burst d) fun v => { v with resolution := res }) else (s.feeder f).slotOf m) ∧
      y = (if res = .received then commitWindow f n d x
        else dropWindow f d ((allocs.filter fun a => decide (a.2 ≠ 0)).map Prod.fst) x) ∧
      z = y.setFeeder f { y.feeder f with lanes := (z.feeder f).lanes } ∧
      v = (if res = .excused then burstExcused f n d flag z else burstTaken f n d w res g.reading z) ∧
      t = carrySymptom f n d (.burst d) res g v ∧
      (v.feeder f).slotOf n = some (sl.onWindow (.burst d) fun v => { v with resolution := res }) ∧
      (∃ l, (t.feeder f).slotOf n =
        some { sl.onWindow (.burst d) fun v => { v with resolution := res } with light := l }) ∧
      (t.feeder f).receptionCount = countResolution res g (s.feeder f).receptionCount ∧
      (t.feeder f).staging = [] ∧ (t.feeder f).reader = (s.feeder f).reader ∧
      (t.feeder f).lanes =
        (resolveLanes n d allocs (reportsTaken (s.feeder f) d res g.reading) (y.feeder f)).lanes ∧
      (y.feeder f).lanes = (s.feeder f).lanes ∧
      ∀ k l, (y.feeder f).partialFrame k l = none → (t.feeder f).partialFrame k l = none := by
  have slots := Feeder.slotOf_setResolution held (.burst d) res g
  have frame := Feeder.setResolution_frame (s.feeder f) n (.burst d) res g
  obtain ⟨x1, hx1⟩ : ∃ x1, (s.feeder f).setResolution n (.burst d) res g = x1 := ⟨_, rfl⟩
  rw [hx1] at slots frame
  obtain ⟨x, hx⟩ : ∃ x, x = s.setFeeder f x1 := ⟨_, rfl⟩
  have record : x.feeder f = x1 := by rw [hx, State.feeder_setFeeder_self]
  obtain ⟨y, hy, staged⟩ := committedOrDropped_feeder (f := f) n d
    ((allocs.filter fun a : Nat × Nat => decide (a.2 ≠ 0)).map Prod.fst) x (res = .received)
  have drops : (y.feeder f).drops = (s.feeder f).drops := by rw [staged, record, frame]
  have empties : ((y.feeder f).drop d).state = ((s.feeder f).drop d).state := by unfold Feeder.drop; rw [drops]
  have reports : reportsTaken (y.feeder f) d res g.reading = reportsTaken (s.feeder f) d res g.reading := by
    unfold reportsTaken
    rw [empties]
  obtain ⟨z, hz⟩ : ∃ z, z = y.setFeeder f (resolveLanes n d allocs (reportsTaken (y.feeder f) d res g.reading) (y.feeder f)) :=
    ⟨_, rfl⟩
  have laned := resolveLanes_frame (n := n) (d := d) allocs (reportsTaken (y.feeder f) d res g.reading) (y.feeder f)
  have own : z.feeder f = { y.feeder f with lanes := (z.feeder f).lanes } := by
    rw [hz, State.feeder_setFeeder_self, ← laned]
  obtain ⟨v, hv⟩ : ∃ v, v = if res = .excused then burstExcused f n d flag z else burstTaken f n d w res g.reading z :=
    ⟨_, rfl⟩
  have kept : LanesKept f z v := by
    rw [hv]
    split
    · exact (lanesKept_closed f).burstExcused _ _ _ _
    · exact (lanesKept_closed f).burstTaken _ _ _ _ _ _
  have slotV : (v.feeder f).slotOf n = some (sl.onWindow (.burst d) fun v => { v with resolution := res }) := by
    have ring : (z.feeder f).ring = x1.ring := by rw [own, staged, record]
    rw [Feeder.slotOf_congr kept.line.ring, Feeder.slotOf_congr ring, slots, if_pos rfl]
  obtain ⟨t, carried, slotT, count, staging, reader, lanes, partials⟩ :=
    carrySymptom_keeps (d := d) slotV (.burst d) res g
  refine ⟨t, x, y, z, v, ?_, ?_, fun m => ?_, hy.symm, ?_, hv, carried.symm, slotV, slotT, ?_, ?_, ?_, ?_, ?_,
    fun k l none => ?_⟩
  · rw [← carried]
    exact resolveBurst_eq hres (by rw [hx, hx1]) hy.symm hz hv
  · rw [record, ← frame, hx]
  · rw [record, slots]
  · rw [← own, hz, State.feeder_setFeeder_self]
  · rw [count, kept.line.receptionCount, own, staged, record, frame]
  · rw [staging, kept.line.staging, own, staged]
  · rw [reader, kept.line.reader, own, staged, record, frame]
  · rw [lanes, kept.lanes, hz, State.feeder_setFeeder_self, reports]
  · rw [staged, record, frame]
  · refine partials k l (kept.partials k l ?_)
    rw [own]
    exact none

end

/-- Settles O41. -/
theorem burstResolutionIsHandedOn : Obligations.BurstResolutionIsHandedOn := by
  unfold Obligations.BurstResolutionIsHandedOn
  intro f n d w len allocs flag g0 g res sl s counted live held state named hcounted hg h1 h64 once low hres
  obtain ⟨x0, left, frame0, slots0, named0, apart⟩ :=
    resolveWindow_left (w := .burst d) nofun held (by rw [state]; exact nofun) named hg
  obtain ⟨sl0, hsl0⟩ : ∃ sl0, sl0 = sl.onWindow (.burst d) fun v => { v with
    found := if (s.feeder f).reader.serving = some (n, .burst d) then .garbledSpan else v.found } := ⟨_, rfl⟩
  rw [← hsl0] at slots0 named0
  obtain ⟨s0, hs0⟩ : ∃ s0, s0 = s.setFeeder f x0 := ⟨_, rfl⟩
  have record0 : s0.feeder f = x0 := by rw [hs0, State.feeder_setFeeder_self]
  have held0 : (s0.feeder f).slotOf n = some sl0 := by rw [record0, slots0, if_pos rfl]
  have state0 : sl0.state = .receiving := by rw [hsl0]; exact state
  have outcome : res = outcomeOf ((s0.feeder f).excusesBurst n d) g := by
    have same : (s0.feeder f).excusesBurst n d = (s.feeder f).excusesBurst n d := by rw [record0, frame0]; rfl
    rw [hres, same]
    refine (if_congr (Feeder.excusesBurst_iff (s.feeder f) n d).symm rfl ?_).trans rfl
    cases g <;> rfl
  obtain ⟨t, x, y, z, v, resolved, hx, slots, hy, hz, hv, ht, slotV, ⟨light, slotT⟩, count, staging, reader, lanes, lanesY,
    partials⟩ := resolveBurst_spec (w := w) (flag := flag) held0 outcome
  have counts : countResolution res g (s0.feeder f).receptionCount = counted := by
    rw [hcounted, countResolution_burst _ g _ outcome, record0, frame0]
  have lanes0 : (s0.feeder f).lanes = (s.feeder f).lanes := by rw [record0, frame0]
  have drop0 : (s0.feeder f).drop d = s.drop f d := by rw [record0, frame0]; rfl
  have lane0 : ∀ k l, (y.feeder f).lane k l = (s.feeder f).lane k l := fun k l => by
    unfold Feeder.lane
    rw [lanesY, lanes0]
  have laneT : ∀ k l, ((arbitrate t).feeder f).lane k l =
      (resolveLanes n d allocs (reportsTaken (s0.feeder f) d res g.reading) (y.feeder f)).lane k l := fun k l => by
    rw [arbitrate_feeder]
    unfold Feeder.lane
    rw [lanes]
  have heldX : (x.feeder f).partialFrame = (s.feeder f).partialFrame := by
    have whole := congrArg (fun x => x.feeder f) hx
    simp only [State.feeder_setFeeder_self] at whole
    rw [whole, record0, frame0]
    rfl
  have countX : (x.feeder f).upCount = (s.feeder f).upCount := by
    have whole := congrArg (fun x => x.feeder f) hx
    simp only [State.feeder_setFeeder_self] at whole
    rw [whole, record0, frame0]
  obtain ⟨dropped, hdropped, emptied, frameY⟩ := dropWindow_granted h1 once low x (f := f)
  have lost : res ≠ .received → y = dropped := fun other => by rw [hy, if_neg other, hdropped]
  refine ⟨arbitrate t, ?_, ⟨{ sl0.onWindow (.burst d) (fun v => { v with resolution := res }) with light := light },
    (congrArg (·.slotOf n) (arbitrate_feeder t f)).trans slotT, state0, ?_⟩, by rw [arbitrate_feeder, count, counts],
    by rw [arbitrate_feeder, staging], by rw [arbitrate_feeder, reader, record0, frame0], fun k l hk hl other => ?_,
    fun i l granted here => ?_, fun other a ha granted => ?_, x, y, z, v, ?_, ?_, fun m hm => ?_, hy,
    fun other => ⟨fun k l hk hl => ?_, ?_⟩, hz, ?_, fun garbled => ?_, fun m hm mislabelled => ?_, fun clean => ?_,
    fun excused found => ?_⟩
  · rw [exec_live (c := .burstWindowResolved f n d) (g := resolveWindow f n (.burst d)) rfl live, left, ← hs0,
      resolveWindow_of_window held0 (by rw [state0]; exact nofun) named0 (by rw [record0]; exact apart)]
    change Host.Outcome.next (arbitrate (completeIfDrained f n
      (resolveBurst f n d w allocs flag ((s0.feeder f).excusesBurst n d) g s0))) = _
    rw [resolved, completeIfDrained_of_receiving slotT state0]
  · exact Slot.onWindow_window_self named0 (fun v => { v with resolution := res }) fun _ => rfl
  · rw [laneT, resolveLanes_lane_of_other h1 low _ _ hk hl other, lane0]
  · rw [laneT, resolveLanes_lane_at h1 low once _ _ here, lane0]
    refine ⟨?_, ?_, fun untaken => ?_, fun r report received found listed => ?_⟩
    · cases (reportsTaken (s0.feeder f) d res g.reading)[i]?.bind id <;> rfl
    · cases (reportsTaken (s0.feeder f) d res g.reading)[i]?.bind id <;> rfl
    · rw [reportsTaken_none (by rw [drop0]; exact untaken)]
      exact ⟨rfl, rfl⟩
    · have present : ((s0.feeder f).drop d).state ≠ .empty := fun empty => by
        rw [received, if_pos (.inl (drop0 ▸ empty))] at hres
        exact nomatch hres
      rw [received, found]
      change (((s.feeder f).lane d l).resolved n granted ((reportsTaken _ d .received (some r))[i]?.bind id)).backlog = _ ∧
        (((s.feeder f).lane d l).resolved n granted ((reportsTaken _ d .received (some r))[i]?.bind id)).lastReport = _
      rw [reportsTaken_received present, List.getElem?_map, listed]
      exact ⟨rfl, rfl⟩
  · rw [arbitrate_feeder]
    refine partials d a.1 ?_
    rw [lost other, emptied d a.1 h1 (low a ha), if_pos ⟨rfl, a, ha, rfl, granted⟩]
  · rw [counts, record0, hs0, State.setFeeder_setFeeder, frame0] at hx
    exact hx
  · rw [slots, if_pos rfl, hsl0, Slot.onWindow_onWindow sl (.burst d) (fun _ => by rfl)]
  · rw [slots, if_neg hm, record0, slots0, if_neg hm]
  · rw [lost other, emptied k l hk hl, heldX]
  · rw [lost other, ← countX, ← heldX]
    exact frameY
  · rw [hv]
    cases g <;> rfl
  · rw [ht, garbled]
    rfl
  · rw [ht, mislabelled, hm]
    rfl
  · obtain missing | received | ⟨excused, nothing⟩ := clean
    · rw [ht, carrySymptom_of_clean (.inl missing)]
    · rw [ht, carrySymptom_of_clean (.inr received)]
    · rw [ht, excused, nothing]
      rfl
  · refine ⟨_, slotV, ?_⟩
    rw [ht, excused, carrySymptom_excused, if_neg found]
    unfold Feeder.onLight
    rw [excused] at slotV
    rw [slotV]

end Sys2Proof.Machine
end

section
/-! PROOFS. Requests written as frames read back (R178, R187). -/

namespace Sys2Proof.Machine

/-! ## Numbers as bytes -/

theorem length_putNat (k n : Nat) : (putNat k n).length = k := by
  induction k with
  | zero => rfl
  | succ k ih => exact congrArg (· + 1) ih

theorem foldl_putNat (k n a : Nat) :
    (putNat k n).foldl (fun n b => n * 256 + b.toNat) a = a * 256 ^ k + n % 256 ^ k := by
  induction k generalizing a with
  | zero => simp [putNat, Nat.mod_one]
  | succ k ih =>
    have split : n % 256 ^ (k + 1) = n % 256 ^ k + 256 ^ k * (n / 256 ^ k % 256) := by rw [pow_succ, Nat.mod_mul]
    have digit : (BitVec.ofNat 8 (n / 256 ^ k)).toNat = n / 256 ^ k % 256 := rfl
    rw [putNat, List.foldl_cons, ih, digit, split]
    ring

theorem natOf_putNat {k n : Nat} (h : n < 256 ^ k) : natOf (putNat k n) = n := by
  rw [natOf, foldl_putNat, Nat.zero_mul, Nat.zero_add, Nat.mod_eq_of_lt h]

theorem takeNat_putNat {k n : Nat} (h : n < 256 ^ k) (rest : List Byte) :
    takeNat k (putNat k n ++ rest) = some (n, rest) := by
  rw [takeNat_of_le (by simp [length_putNat]), List.take_left' (length_putNat k n), List.drop_left' (length_putNat k n),
    natOf_putNat h]

/-- A field in its place in a list of bytes. -/
theorem natOf_field {bytes before after : List Byte} {i k n : Nat} (whole : bytes = before ++ (putNat k n ++ after))
    (place : before.length = i) (h : n < 256 ^ k) : natOf ((bytes.drop i).take k) = n := by
  rw [whole, List.drop_left' place, List.take_left' (length_putNat k n), natOf_putNat h]

/-! ## Lists of fields -/

/-- Fields written in order, each a width and a value. -/
def putFields (fs : List (Nat × Nat)) : List Byte := fs.flatMap fun p => putNat p.1 p.2

theorem fieldsOf_putFields {fs : List (Nat × Nat)} (h : ∀ p ∈ fs, p.2 < 256 ^ p.1) :
    fieldsOf (fs.map Prod.fst) (putFields fs) = some (fs.map Prod.snd) := by
  induction fs with
  | nil => rfl
  | cons p fs ih =>
    have head := takeNat_putNat (h p List.mem_cons_self) (putFields fs)
    have tail := ih fun q hq => h q (List.mem_cons_of_mem p hq)
    simp only [putFields] at head tail
    simp [fieldsOf, putFields, head, tail]

theorem takeList_put4 {l : List Nat} (h : ∀ n ∈ l, n < 2 ^ 32) (rest : List Byte) :
    takeList l.length (l.flatMap put4 ++ rest) = some (l, rest) := by
  induction l with
  | nil => rfl
  | cons n l ih =>
    have head : takeNat 4 (put4 n ++ (l.flatMap put4 ++ rest)) = some (n, l.flatMap put4 ++ rest) :=
      takeNat_putNat (h n List.mem_cons_self) _
    have tail := ih fun m hm => h m (List.mem_cons_of_mem n hm)
    simp [takeList, head, tail]

theorem length_put4s (l : List Nat) : (l.flatMap put4).length = 4 * l.length := by
  induction l with
  | nil => rfl
  | cons n l ih =>
    have four : (put4 n).length = 4 := length_putNat 4 n
    rw [List.flatMap_cons, List.length_append, ih, four, List.length_cons]
    omega

theorem optOf_getD {o : Option Nat} (h : fitsOpt4 o = true) :
    optOf (o.getD (2 ^ 32 - 1)) = o ∧ o.getD (2 ^ 32 - 1) < 2 ^ 32 := by
  cases o with
  | none => exact ⟨rfl, by decide⟩
  | some n =>
    have small : n < 2 ^ 32 - 1 := of_decide_eq_true h
    exact ⟨if_neg (Nat.ne_of_lt small), by simp only [Option.getD_some]; omega⟩

theorem fits4_iff {n : Nat} : fits4 n = true ↔ n < 2 ^ 32 := by
  change decide _ = true ↔ _
  rw [decide_eq_true_eq]

theorem fits8_iff {n : Nat} : fits8 n = true ↔ n < 2 ^ 64 := by
  change decide _ = true ↔ _
  rw [decide_eq_true_eq]

theorem fieldsOf_body (fs : List (Nat × Nat)) {bs : List Byte} (whole : bs = putFields fs)
    (fit : ∀ p ∈ fs, p.2 < 256 ^ p.1) : fieldsOf (fs.map Prod.fst) bs = some (fs.map Prod.snd) := by
  rw [whole, fieldsOf_putFields fit]

/-! ## Bodies of a few fields (R187) -/

section
variable {a b c : Nat} (ha : fits4 a = true)
include ha

theorem readOne_put (g : Nat → Instr) : readOne g (put4 a) = .request (g a) := by
  have fields : fieldsOf [4] (put4 a) = some [a] :=
    fieldsOf_body [(4, a)] (by simp [putFields, put4]) (by simpa using fits4_iff.1 ha)
  rw [readOne, fields]

theorem readTwo_put (g : Nat → Nat → Instr) (hb : b < 2 ^ 32) : readTwo g (put4 a ++ put4 b) = .request (g a b) := by
  have fields : fieldsOf [4, 4] (put4 a ++ put4 b) = some [a, b] :=
    fieldsOf_body [(4, a), (4, b)] (by simp [putFields, put4]) (by simpa using ⟨fits4_iff.1 ha, hb⟩)
  rw [readTwo, fields]

theorem readLong_put (g : Nat → Nat → Instr) (hb : b < 2 ^ 64) : readLong g (put4 a ++ put8 b) = .request (g a b) := by
  have fields : fieldsOf [4, 8] (put4 a ++ put8 b) = some [a, b] :=
    fieldsOf_body [(4, a), (8, b)] (by simp [putFields, put4, put8]) (by simpa using ⟨fits4_iff.1 ha, hb⟩)
  rw [readLong, fields]

theorem readThree_put (g : Nat → Nat → Nat → Instr) (hb : fits4 b = true) (hc : fits4 c = true) :
    readThree g (put4 a ++ put4 b ++ put4 c) = .request (g a b c) := by
  have fields : fieldsOf [4, 4, 4] (put4 a ++ put4 b ++ put4 c) = some [a, b, c] :=
    fieldsOf_body [(4, a), (4, b), (4, c)] (by simp [putFields, put4])
      (by simpa using ⟨fits4_iff.1 ha, fits4_iff.1 hb, fits4_iff.1 hc⟩)
  rw [readThree, fields]

end

/-! ## The records of WRITE, ADMIT and CLEAR_FLAGS (R88, R180, R184, R187) -/

/-- What a WRITE of a table reads its index and record as. -/
def readRecord (h : MgmtHead) (table i : Nat) (record : List Byte) : BodyReading :=
  match table with
  | 1 => formed (readAdmission h i record)
  | 2 => formed (readProfile h i record)
  | 3 => formed (readFlow h i record)
  | 4 => formed (readTagMap h i record)
  | 5 => formed (readAccount h i record)
  | 6 => formed (readPlan h i record)
  | 7 => formed (readFeeder h i record)
  | _ => .badTable

theorem readWrite_put (h : MgmtHead) {table i : Nat} (ht : table < 2 ^ 32) (hi : fits4 i = true) (record : List Byte) :
    readWrite h (put4 table ++ put4 i ++ record) = readRecord h table i record := by
  have first : takeNat 4 (put4 table ++ (put4 i ++ record)) = some (table, put4 i ++ record) := takeNat_putNat ht _
  have second : takeNat 4 (put4 i ++ record) = some (i, record) := takeNat_putNat (fits4_iff.1 hi) _
  rw [List.append_assoc, readWrite, first]
  dsimp only
  rw [second]
  rfl

section
variable (h : MgmtHead) (i : Nat)

theorem readAdmission_put {r : AdmissionFields} (fits : r.fits = true) :
    readAdmission h i (put8 r.tag.toNat ++ put4 r.verdict ++ put4 r.restriction ++ putOpt4 r.preferred ++ put4 r.account ++
      putQuad r.profiles) = some (.writeAdmission h i r) := by
  obtain ⟨tag, v, rs, p, a, ⟨p0, p1, p2, p3⟩⟩ := r
  simp only [AdmissionFields.fits, Quad.allq, Bool.and_eq_true, fits4_iff] at fits
  obtain ⟨⟨⟨⟨hv, hrs⟩, hp⟩, ha⟩, ⟨⟨h0, h1⟩, h2⟩, h3⟩ := fits
  obtain ⟨same, small⟩ := optOf_getD hp
  have fields := fieldsOf_body [(8, tag.toNat), (4, v), (4, rs), (4, p.getD (2 ^ 32 - 1)), (4, a), (4, p0), (4, p1), (4, p2),
    (4, p3)] rfl (by simpa using ⟨tag.isLt, hv, hrs, small, ha, h0, h1, h2, h3⟩)
  have whole : put8 tag.toNat ++ put4 v ++ put4 rs ++ putOpt4 p ++ put4 a ++ putQuad ⟨p0, p1, p2, p3⟩ = putFields
      [(8, tag.toNat), (4, v), (4, rs), (4, p.getD (2 ^ 32 - 1)), (4, a), (4, p0), (4, p1), (4, p2), (4, p3)] := by
    simp [putFields, put4, put8, putOpt4, putQuad]
  rw [whole, readAdmission]
  simp only [List.map_cons, List.map_nil] at fields
  rw [fields]
  simp only [same, BitVec.ofNat_toNat, BitVec.setWidth_eq]

theorem readAdmit_put {f : Nat} (hf : fits4 f = true) {r : AdmitFields} (fits : r.fits = true) :
    readAdmit h (put4 f ++ put8 r.tag.toNat ++ put4 r.restriction ++ putOpt4 r.preferred ++ put4 r.account ++
      putQuad r.profiles) = some (.admitReply h f r) := by
  obtain ⟨tag, rs, p, a, ⟨p0, p1, p2, p3⟩⟩ := r
  simp only [AdmitFields.fits, Quad.allq, Bool.and_eq_true, fits4_iff] at fits
  obtain ⟨⟨⟨hrs, hp⟩, ha⟩, ⟨⟨h0, h1⟩, h2⟩, h3⟩ := fits
  obtain ⟨same, small⟩ := optOf_getD hp
  have fields := fieldsOf_body [(4, f), (8, tag.toNat), (4, rs), (4, p.getD (2 ^ 32 - 1)), (4, a), (4, p0), (4, p1), (4, p2),
    (4, p3)] rfl (by simpa using ⟨fits4_iff.1 hf, tag.isLt, hrs, small, ha, h0, h1, h2, h3⟩)
  have whole : put4 f ++ put8 tag.toNat ++ put4 rs ++ putOpt4 p ++ put4 a ++ putQuad ⟨p0, p1, p2, p3⟩ = putFields
      [(4, f), (8, tag.toNat), (4, rs), (4, p.getD (2 ^ 32 - 1)), (4, a), (4, p0), (4, p1), (4, p2), (4, p3)] := by
    simp [putFields, put4, put8, putOpt4, putQuad]
  rw [whole, readAdmit]
  simp only [List.map_cons, List.map_nil] at fields
  rw [fields]
  simp only [same, BitVec.ofNat_toNat, BitVec.setWidth_eq]

theorem readProfile_put {r : ProfileFields} (fits : r.fits = true) :
    readProfile h i (put4 r.cls ++ put4 r.rate ++ put4 r.cap ++ put4 r.minGrant) = some (.writeProfile h i r) := by
  obtain ⟨c, rate, cap, m⟩ := r
  simp only [ProfileFields.fits, Bool.and_eq_true, fits4_iff] at fits
  obtain ⟨⟨⟨hc, hrate⟩, hcap⟩, hm⟩ := fits
  have fields : fieldsOf [4, 4, 4, 4] (put4 c ++ put4 rate ++ put4 cap ++ put4 m) = some [c, rate, cap, m] :=
    fieldsOf_body [(4, c), (4, rate), (4, cap), (4, m)] (by simp [putFields, put4]) (by simpa using ⟨hc, hrate, hcap, hm⟩)
  simp only [readProfile, fields]

theorem readFlow_put {r : FlowFields} (fits : r.fits = true) :
    readFlow h i (put4 r.feeder ++ put4 r.drop ++ put4 r.lane ++ put4 r.tag ++ put4 r.enable) = some (.writeFlow h i r) := by
  obtain ⟨f, d, l, t, e⟩ := r
  simp only [FlowFields.fits, Bool.and_eq_true, fits4_iff] at fits
  obtain ⟨⟨⟨⟨hf, hd⟩, hl⟩, ht⟩, he⟩ := fits
  have fields : fieldsOf [4, 4, 4, 4, 4] (put4 f ++ put4 d ++ put4 l ++ put4 t ++ put4 e) = some [f, d, l, t, e] :=
    fieldsOf_body [(4, f), (4, d), (4, l), (4, t), (4, e)] (by simp [putFields, put4])
      (by simpa using ⟨hf, hd, hl, ht, he⟩)
  simp only [readFlow, fields]

theorem readTagMap_put {r : Option Nat} (fits : fitsOpt4 r = true) :
    readTagMap h i (putOpt4 r) = some (.writeTagMap h i r) := by
  obtain ⟨same, small⟩ := optOf_getD fits
  have fields : fieldsOf [4] (putOpt4 r) = some [r.getD (2 ^ 32 - 1)] :=
    fieldsOf_body [(4, r.getD (2 ^ 32 - 1))] (by simp [putFields, put4, putOpt4]) (by simpa using small)
  simp only [readTagMap, fields, same]

theorem readAccount_put {r : AccountFields} (fits : r.fits = true) :
    readAccount h i (put4 r.loaded ++ (if r.loaded = 0 then [] else
      put4 r.code ++ put4 r.mode ++ put4 r.plan ++ put4 r.scale ++ put8 r.allowance ++ put4 r.floorProfile ++
      put4 r.floorRate)) = some (.writeAccount h i r) := by
  obtain ⟨loaded, c, m, p, e, a, fp, fr⟩ := r
  simp only [AccountFields.fits, Bool.and_eq_true, fits4_iff, fits8_iff] at fits
  obtain ⟨⟨⟨⟨⟨⟨⟨⟨hloaded, hc⟩, hm⟩, hp⟩, he⟩, ha⟩, hfp⟩, hfr⟩, zeros⟩ := fits
  have first : ∀ rest, takeNat 4 (put4 loaded ++ rest) = some (loaded, rest) := takeNat_putNat hloaded
  simp only [readAccount, first]
  by_cases unload : loaded = 0
  · have empty : (⟨loaded, c, m, p, e, a, fp, fr⟩ : AccountFields) = ⟨0, 0, 0, 0, 0, 0, 0, 0⟩ := by simpa [unload] using zeros
    obtain ⟨rfl, rfl, rfl, rfl, rfl, rfl, rfl, rfl⟩ := AccountFields.mk.inj empty
    rfl
  · have fields : fieldsOf [4, 4, 4, 4, 8, 4, 4] (put4 c ++ put4 m ++ put4 p ++ put4 e ++ put8 a ++ put4 fp ++ put4 fr) =
        some [c, m, p, e, a, fp, fr] :=
      fieldsOf_body [(4, c), (4, m), (4, p), (4, e), (8, a), (4, fp), (4, fr)] (by simp [putFields, put4, put8])
        (by simpa using ⟨hc, hm, hp, he, ha, hfp, hfr⟩)
    simp only [if_neg unload, fields]

theorem readPlan_put {r : PlanFields} (fits : r.fits = true) :
    readPlan h i (r.bands.flatMap put4 ++ r.weights.flatMap put4) = some (.writeTariffPlan h i r) := by
  obtain ⟨bands, weights⟩ := r
  simp only [PlanFields.fits, Bool.and_eq_true, decide_eq_true_eq, List.all_eq_true, fits4_iff] at fits
  obtain ⟨⟨⟨ninetySix, four⟩, hb⟩, hw⟩ := fits
  have first := takeList_put4 hb (weights.flatMap put4)
  have second := takeList_put4 hw []
  rw [ninetySix] at first
  rw [four, List.append_nil] at second
  simp only [readPlan, first, second]

theorem readFeeder_put {r : FeederFields} (fits : r.fits = true) :
    readFeeder h i (r.list.flatMap put4) = some (.writeFeeder h i r) := by
  have listed := takeList_put4 (l := r.list) (fun n hn => fits4_iff.1 (List.all_eq_true.1 fits n hn)) []
  rw [List.append_nil, show r.list.length = 19 from rfl] at listed
  rw [readFeeder, listed]
  rfl

theorem readFlags_put {l : List Nat} (short : 4 + 4 * l.length < 2 ^ 16) (fits : l.all fits4 = true) :
    readFlags h (put4 l.length ++ l.flatMap put4) = some (.clearFlags h l) := by
  have count : takeNat 4 (put4 l.length ++ l.flatMap put4) = some (l.length, l.flatMap put4) :=
    takeNat_putNat (by omega) _
  have listed := takeList_put4 (fun n hn => fits4_iff.1 (List.all_eq_true.1 fits n hn)) []
  rw [List.append_nil] at listed
  simp only [readFlags, count, length_put4s, if_true, listed]

end

end Sys2Proof.Machine
end

section
/-! PROOFS. The frame of a request reads back (R178, R187). -/

namespace Sys2Proof.Machine

/-! ## Lengths -/

theorem length_put4 (n : Nat) : (put4 n).length = 4 := length_putNat 4 n

theorem length_put8 (n : Nat) : (put8 n).length = 8 := length_putNat 8 n

theorem length_putOpt4 (o : Option Nat) : (putOpt4 o).length = 4 := length_putNat 4 _

theorem length_putQuad (q : Quad Nat) : (putQuad q).length = 16 := by
  simp [putQuad, length_put4]

/-- What the frame of a request must keep for it to be read back. -/
def ReadsBack (c : Instr) (h : MgmtHead) (kind : Nat) (body : List Byte) : Prop :=
  readBody h kind body = .request c ∧ kind < 256 ∧ body.length < 2 ^ 16

section
variable (h : MgmtHead)

/-- A WRITE reads back once its record does. -/
theorem readsBack_write {c : Instr} {reader : List Byte → Option Instr} {table i : Nat} {record body : List Byte}
    (ofTable : readRecord h table i record = formed (reader record)) (reads : reader record = some c)
    (split : body = put4 table ++ put4 i ++ record) (ht : table < 2 ^ 32) (hi : fits4 i = true)
    (short : record.length < 60000) : ReadsBack c h 3 body := by
  subst split
  refine ⟨?_, by decide, ?_⟩
  · exact (readWrite_put h ht hi record).trans (by rw [ofTable, reads]; rfl)
  · simp only [List.length_append, length_put4]
    omega

theorem readsBack_one {g : Nat → Instr} {a kind : Nat} (ha : fits4 a = true) (read : readBody h kind = readOne g)
    (hk : kind < 256) : ReadsBack (g a) h kind (put4 a) :=
  ⟨by rw [read, readOne_put ha], hk, by rw [length_put4]; decide⟩

theorem readsBack_two {g : Nat → Nat → Instr} {a b kind : Nat} (fits : (fits4 a && fits4 b) = true)
    (read : readBody h kind = readTwo g) (hk : kind < 256) : ReadsBack (g a b) h kind (put4 a ++ put4 b) := by
  obtain ⟨ha, hb⟩ := Bool.and_eq_true_iff.1 fits
  exact ⟨by rw [read, readTwo_put ha _ (fits4_iff.1 hb)], hk, by simp [length_put4]⟩

/-- Every well-formed request's body reads back (R178, R180, R187). -/
theorem readsBack_of_parts {c : Instr} {h : MgmtHead} {kind : Nat} {body : List Byte} (wf : c.wellFormed = true)
    (parts : requestParts c = some (h, kind, body)) : ReadsBack c h kind body := by
  cases c with
  | bind g n => cases parts; exact readsBack_one h wf rfl (by decide)
  | read g t i => cases parts; exact readsBack_two h wf rfl (by decide)
  | writeAdmission g i r =>
    cases parts
    obtain ⟨hi, fits⟩ := Bool.and_eq_true_iff.1 wf
    exact readsBack_write h (reader := readAdmission h i) (table := 1) rfl (readAdmission_put h i fits) (by simp only [List.append_assoc])
      (by decide) hi
      (by simp [length_put4, length_put8, length_putOpt4, length_putQuad])
  | writeProfile g i r =>
    cases parts
    obtain ⟨hi, fits⟩ := Bool.and_eq_true_iff.1 wf
    exact readsBack_write h (reader := readProfile h i) (table := 2) rfl (readProfile_put h i fits) (by simp only [List.append_assoc])
      (by decide) hi (by simp [length_put4])
  | writeFlow g i r =>
    cases parts
    obtain ⟨hi, fits⟩ := Bool.and_eq_true_iff.1 wf
    exact readsBack_write h (reader := readFlow h i) (table := 3) rfl (readFlow_put h i fits) (by simp only [List.append_assoc])
      (by decide) hi (by simp [length_put4])
  | writeTagMap g i r =>
    cases parts
    obtain ⟨hi, fits⟩ := Bool.and_eq_true_iff.1 wf
    exact readsBack_write h (reader := readTagMap h i) (table := 4) rfl (readTagMap_put h i fits) rfl
      (by decide) hi (by simp [length_putOpt4])
  | writeAccount g i r =>
    cases parts
    obtain ⟨hi, fits⟩ := Bool.and_eq_true_iff.1 wf
    refine readsBack_write h (reader := readAccount h i) (table := 5) rfl (readAccount_put h i fits) (by simp only [List.append_assoc])
      (by decide) hi ?_
    split <;> simp [length_put4, length_put8]
  | writeTariffPlan g i r =>
    cases parts
    obtain ⟨hi, fits⟩ := Bool.and_eq_true_iff.1 wf
    refine readsBack_write h (reader := readPlan h i) (table := 6) rfl (readPlan_put h i fits) (by simp only [List.append_assoc])
      (by decide) hi ?_
    simp only [PlanFields.fits, Bool.and_eq_true, decide_eq_true_eq] at fits
    obtain ⟨⟨⟨bands, weights⟩, -⟩, -⟩ := fits
    rw [List.length_append, length_put4s, length_put4s, bands, weights]
    decide
  | writeFeeder g i r =>
    cases parts
    obtain ⟨hi, fits⟩ := Bool.and_eq_true_iff.1 wf
    refine readsBack_write h (reader := readFeeder h i) (table := 7) rfl (readFeeder_put h i fits) rfl
      (by decide) hi ?_
    rw [length_put4s, show r.list.length = 19 from rfl]
    decide
  | feederStart g f => cases parts; exact readsBack_one h wf rfl (by decide)
  | feederStop g f => cases parts; exact readsBack_one h wf rfl (by decide)
  | discovery g f m => cases parts; exact readsBack_two h wf rfl (by decide)
  | admitReply g f r =>
    cases parts
    obtain ⟨hf, fits⟩ := Bool.and_eq_true_iff.1 wf
    exact ⟨congrArg formed (readAdmit_put h hf fits), by decide,
      by simp [length_put4, length_put8, length_putOpt4, length_putQuad]⟩
  | refuse g f tag =>
    cases parts
    refine ⟨?_, by decide, by simp [length_put4, length_put8]⟩
    refine (readLong_put wf (fun f tag => .refuse h f (BitVec.ofNat 64 tag)) tag.isLt).trans ?_
    simp
  | remove g f d => cases parts; exact readsBack_two h wf rfl (by decide)
  | darken g f d => cases parts; exact readsBack_two h wf rfl (by decide)
  | relight g f d => cases parts; exact readsBack_two h wf rfl (by decide)
  | release g f d => cases parts; exact readsBack_two h wf rfl (by decide)
  | isolate g f d =>
    cases parts
    obtain ⟨hf, hd⟩ := Bool.and_eq_true_iff.1 wf
    obtain ⟨same, small⟩ := optOf_getD hd
    refine ⟨(readTwo_put hf (fun f d => .isolate h f (optOf d)) small).trans ?_, by decide,
      by simp [length_put4, length_putOpt4]⟩
    rw [same]
  | topUp g a p =>
    cases parts
    obtain ⟨ha, hp⟩ := Bool.and_eq_true_iff.1 wf
    exact ⟨readLong_put ha _ (fits8_iff.1 hp), by decide, by simp [length_put4, length_put8]⟩
  | suspend g a => cases parts; exact readsBack_one h wf rfl (by decide)
  | resume g a => cases parts; exact readsBack_one h wf rfl (by decide)
  | setTariffClock g d q k =>
    cases parts
    obtain ⟨fits, hk⟩ := Bool.and_eq_true_iff.1 wf
    obtain ⟨hd, hq⟩ := Bool.and_eq_true_iff.1 fits
    exact ⟨readThree_put hd _ hq hk, by decide, by simp [length_put4]⟩
  | exportHold g => cases parts; exact ⟨rfl, by decide, by decide⟩
  | exportResume g => cases parts; exact ⟨rfl, by decide, by decide⟩
  | clearFlags g l =>
    cases parts
    obtain ⟨short, fits⟩ := Bool.and_eq_true_iff.1 wf
    have short' : 4 + 4 * l.length < 2 ^ 16 := of_decide_eq_true short
    exact ⟨congrArg formed (readFlags_put h short' fits), by decide,
      by rwa [List.length_append, length_put4, length_put4s]⟩
  | partReset g => cases parts; exact ⟨rfl, by decide, by decide⟩
  | _ => cases parts

end

/-! ## The frame (R187) -/

section
variable {dst src : Mac} {cls kind outcome : Nat} {tag : BitVec 16} {body : List Byte}

/-- The header of a management frame, field by field, before the body and the padding. -/
theorem mgmtBytes_eq : mgmtBytes dst src cls kind tag outcome body =
    putNat 6 dst.toNat ++ (putNat 6 src.toNat ++ (putNat 2 0x9B11 ++ (putNat 1 cls ++ (putNat 1 kind ++
      (putNat 2 tag.toNat ++ (putNat 2 body.length ++ (putNat 2 outcome ++ (body ++
        List.replicate (60 - (22 + body.length)) 0)))))))) := by
  have length : (putNat 6 dst.toNat ++ putNat 6 src.toNat ++ putNat 2 0x9B11 ++ putNat 1 cls ++ putNat 1 kind ++
      putNat 2 tag.toNat ++ putNat 2 body.length ++ putNat 2 outcome ++ body).length = 22 + body.length := by
    simp only [List.length_append, length_putNat]
  rw [mgmtBytes, padFrame, length]
  simp only [List.append_assoc]

theorem length_mgmtBytes :
    (mgmtBytes dst src cls kind tag outcome body).length = 22 + body.length + (60 - (22 + body.length)) := by
  simp only [mgmtBytes_eq, List.length_append, length_putNat, List.length_replicate]
  omega

end

/-- A request frame reads as its head, class REQUEST, its kind and its body. -/
theorem readFrame_mgmtBytes {h : MgmtHead} {kind : Nat} {body : List Byte} (hk : kind < 256) (short : body.length < 2 ^ 16) :
    readFrame (mgmtBytes h.dst h.src 1 kind h.tag 0 body) = some ⟨h, 1, kind, readBody h kind body⟩ := by
  have long := length_mgmtBytes (dst := h.dst) (src := h.src) (cls := 1) (kind := kind) (tag := h.tag) (outcome := 0)
    (body := body)
  have whole := mgmtBytes_eq (dst := h.dst) (src := h.src) (cls := 1) (kind := kind) (tag := h.tag) (outcome := 0)
    (body := body)
  obtain ⟨bytes, hb⟩ : ∃ bytes, mgmtBytes h.dst h.src 1 kind h.tag 0 body = bytes := ⟨_, rfl⟩
  rw [hb] at long whole ⊢
  have dst : natOf ((bytes.drop 0).take 6) = h.dst.toNat := natOf_field (before := []) whole rfl h.dst.isLt
  have src : natOf ((bytes.drop 6).take 6) = h.src.toNat := natOf_field whole (length_putNat 6 _) h.src.isLt
  rw [← List.append_assoc, ← List.append_assoc] at whole
  have cls : natOf ((bytes.drop 14).take 1) = 1 := natOf_field whole (by simp [length_putNat]) (by decide)
  rw [← List.append_assoc] at whole
  have kinds : natOf ((bytes.drop 15).take 1) = kind := natOf_field whole (by simp [length_putNat]) hk
  rw [← List.append_assoc] at whole
  have tag : natOf ((bytes.drop 16).take 2) = h.tag.toNat := natOf_field whole (by simp [length_putNat]) h.tag.isLt
  rw [← List.append_assoc] at whole
  have len : natOf ((bytes.drop 18).take 2) = body.length := natOf_field whole (by simp [length_putNat]) short
  rw [← List.append_assoc, ← List.append_assoc] at whole
  have rest : bytes.drop 22 = body ++ List.replicate (60 - (22 + body.length)) 0 := by
    rw [whole, List.drop_left' (by simp [length_putNat])]
  have fits : body.length ≤ (bytes.drop 22).length := by rw [rest, List.length_append]; omega
  rw [readFrame, if_neg (by omega)]
  simp only [dst, src, cls, kinds, tag, len, BitVec.ofNat_toNat, BitVec.setWidth_eq]
  rw [if_pos ⟨trivial, fits⟩, rest, List.take_left' rfl]

/-- Settles O56. -/
theorem requestFramesReadBack : Obligations.RequestFramesReadBack := by
  unfold Obligations.RequestFramesReadBack
  intro c h kind body wf parts
  obtain ⟨reads, small, short⟩ := readsBack_of_parts wf parts
  have long := length_mgmtBytes (dst := h.dst) (src := h.src) (cls := 1) (kind := kind) (tag := h.tag) (outcome := 0)
    (body := body)
  have whole := mgmtBytes_eq (dst := h.dst) (src := h.src) (cls := 1) (kind := kind) (tag := h.tag) (outcome := 0)
    (body := body)
  rw [← List.append_assoc] at whole
  refine ⟨_, by rw [requestBytes, parts]; rfl, by omega, natOf_field whole (by simp [length_putNat]) (by decide), ?_⟩
  rw [readFrame_mgmtBytes small short, reads]

end Sys2Proof.Machine
end

section
/-! PROOFS. The order of a cycle start's work (R1, R3, R6, R160). -/

namespace Sys2Proof.Machine

/-! ## A list with later repeats left out -/

section
variable {α : Type} [DecidableEq α]

theorem dedup_concat (l : List α) (x : α) : dedup (l ++ [x]) = if x ∈ dedup l then dedup l else dedup l ++ [x] := by
  unfold dedup
  rw [List.foldl_concat]
  by_cases held : x ∈ l.foldl (fun acc x => if x ∈ acc then acc else x :: acc) []
  · rw [if_pos held, if_pos (List.mem_reverse.2 held)]
  · rw [if_neg held, if_neg (mt List.mem_reverse.1 held), List.reverse_cons]

theorem mem_dedup {l : List α} {x : α} : x ∈ dedup l ↔ x ∈ l := by
  induction l using List.reverseRecOn with
  | nil => rfl
  | append_singleton l y ih =>
    rw [dedup_concat]
    split
    next held =>
      rw [ih, List.mem_append, List.mem_singleton]
      exact ⟨.inl, fun h => h.elim id fun same => same ▸ ih.1 (by rwa [same])⟩
    next => rw [List.mem_append, List.mem_append, ih]

theorem nodup_dedup (l : List α) : (dedup l).Nodup := by
  induction l using List.reverseRecOn with
  | nil => exact List.nodup_nil
  | append_singleton l y ih =>
    rw [dedup_concat]
    split
    · exact ih
    next fresh => exact List.nodup_append.2 ⟨ih, List.nodup_singleton y, fun a ha b hb same =>
        fresh (by rw [← List.mem_singleton.1 hb, ← same]; exact ha)⟩

/-- What comes later does not move what came before. -/
theorem dedup_append (l m : List α) : ∃ r, dedup (l ++ m) = dedup l ++ r := by
  induction m using List.reverseRecOn with
  | nil => exact ⟨[], by simp⟩
  | append_singleton m y ih =>
    obtain ⟨r, hr⟩ := ih
    rw [← List.append_assoc, dedup_concat]
    split
    · exact ⟨r, hr⟩
    · exact ⟨r ++ [y], by rw [hr, List.append_assoc]⟩

/-- A first occurrence comes after everything before it. -/
theorem dedup_first {l m : List α} {x : α} (fresh : x ∉ l) : ∃ r, dedup (l ++ x :: m) = dedup l ++ x :: r := by
  obtain ⟨r, hr⟩ := dedup_append (l ++ [x]) m
  rw [dedup_concat, if_neg (mt mem_dedup.1 fresh), List.append_assoc, List.append_assoc] at hr
  exact ⟨r, hr⟩

end

/-! ## Each piece after what it needs -/

/-- Every piece of work in the list comes after the pieces it needs. -/
def InOrder (l : List CycleWork) : Prop := ∀ p w q, l = p ++ w :: q → ∀ v ∈ workNeeds w, v ∈ p

theorem InOrder.nil : InOrder [] := fun p w q h => by simp at h

theorem inOrder_append {l m : List CycleWork} (hl : InOrder l) (hm : InOrder m) : InOrder (l ++ m) := by
  intro p w q split v needed
  obtain ⟨r, rfl, rest⟩ | ⟨r, rfl, rest⟩ := List.append_eq_append_iff.1 split
  · exact List.mem_append_right _ (hm r w q rest v needed)
  · cases r with
    | nil => exact absurd (hm [] w q rest.symm v needed) List.not_mem_nil
    | cons y r =>
      obtain ⟨rfl, rfl⟩ := List.cons.inj rest
      exact hl p w r rfl v needed

theorem InOrder.left {l m : List CycleWork} (h : InOrder (l ++ m)) : InOrder l := fun p w q split v needed =>
  h p w (q ++ m) (by rw [split, List.append_assoc, List.cons_append]) v needed

/-- A piece may follow what it needs. -/
theorem InOrder.concat {l : List CycleWork} {w : CycleWork} (h : InOrder l) (needs : ∀ v ∈ workNeeds w, v ∈ l) :
    InOrder (l ++ [w]) := by
  intro p u q split v needed
  obtain ⟨r, rfl, rest⟩ | ⟨r, rfl, rest⟩ := List.append_eq_append_iff.1 split
  · cases r with
    | nil =>
      obtain ⟨rfl, -⟩ := List.cons.inj rest
      rw [List.append_nil]
      exact needs v needed
    | cons y r => simp at rest
  · cases r with
    | nil =>
      obtain ⟨rfl, -⟩ := List.cons.inj rest
      rw [List.append_nil] at needs
      exact needs v needed
    | cons y r =>
      obtain ⟨rfl, -⟩ := List.cons.inj rest
      exact h p u r rfl v needed

/-- The pieces that a piece needs, in their order, and then the piece itself. -/
theorem inOrder_needs (w : CycleWork) : InOrder (workNeeds w ++ [w]) := by
  have alone : ∀ {v}, workNeeds v = [] → InOrder [v] := fun none => InOrder.nil.concat (by rw [none]; exact nofun)
  have same : ∀ {l : List CycleWork}, ∀ v ∈ l, v ∈ l := fun _ h => h
  cases w with
  | frames f => exact ((alone (v := .build f) rfl).concat (w := .orders f) nofun).concat (w := .frames f) same
  | framesFirst f => exact (alone (v := .orders f) rfl).concat (w := .framesFirst f) same
  | framesTo f k => exact (alone (v := .orders f) rfl).concat (w := .framesTo f k) same
  | doze f => exact (alone (v := .idle f) rfl).concat (w := .doze f) same
  | queryTimeout f => exact (alone (v := .queryAge f) rfl).concat (w := .queryTimeout f) same
  | strikeDecay f => exact (alone (v := .decay f) rfl).concat (w := .strikeDecay f) same
  | boundary => exact (alone (v := .quarter) rfl).concat (w := .boundary) same
  | closeThrough j => exact ((alone (v := .quarter) rfl).concat (w := .boundary) same).concat (w := .closeThrough j) same
  | bindTimeout => exact (alone (v := .bindAge) rfl).concat (w := .bindTimeout) same
  | _ => exact alone rfl

theorem inOrder_flatMap (l : List CycleWork) : InOrder (l.flatMap fun w => workNeeds w ++ [w]) := by
  induction l with
  | nil => exact .nil
  | cons w l ih => exact inOrder_append (inOrder_needs w) ih

theorem InOrder.dedup {l : List CycleWork} (h : InOrder l) : InOrder (dedup l) := by
  induction l using List.reverseRecOn with
  | nil => exact .nil
  | append_singleton l w ih =>
    have before := ih h.left
    rw [dedup_concat]
    split
    · exact before
    · exact before.concat fun v needed => mem_dedup.2 (h l w [] rfl v needed)

/-! ## The schedule -/

/-- The pieces of a command's order and the work of every cycle start, each after what it needs, repeats included. -/
def neededWork (order : List CycleWork) : List CycleWork := (order ++ mandatoryWork).flatMap fun w => workNeeds w ++ [w]

theorem schedule_eq (order : List CycleWork) :
    schedule order = (dedup (neededWork order)).filter fun w => !standsFor order w := rfl

theorem mem_schedule {order : List CycleWork} {w : CycleWork} :
    w ∈ schedule order ↔ w ∈ neededWork order ∧ standsFor order w = false := by
  rw [schedule_eq, List.mem_filter, mem_dedup, Bool.not_eq_true']

theorem mem_neededWork {order : List CycleWork} {w : CycleWork} :
    w ∈ neededWork order ↔ ∃ v, (v ∈ order ∨ v ∈ mandatoryWork) ∧ (w ∈ workNeeds v ∨ w = v) := by
  simp only [neededWork, List.mem_flatMap, List.mem_append, List.mem_singleton]

theorem standsFor_cases {order : List CycleWork} {w : CycleWork} (h : standsFor order w = true) :
    ∃ f, (w = .build f ∨ w = .frames f) ∧ .framesFirst f ∈ order := by
  cases w with
  | build f => exact ⟨f, .inl rfl, of_decide_eq_true h⟩
  | frames f => exact ⟨f, .inr rfl, of_decide_eq_true h⟩
  | _ => cases h

/-- A piece of the command's order, or of every cycle start, is in the schedule, or a framing taken first stands for it. -/
theorem scheduled_or_stood_for {order : List CycleWork} {w : CycleWork} (h : w ∈ order ∨ w ∈ mandatoryWork) :
    w ∈ schedule order ∨ ∃ f, (w = .build f ∨ w = .frames f) ∧ .framesFirst f ∈ schedule order := by
  have needed : ∀ {v}, v ∈ order ∨ v ∈ mandatoryWork → v ∈ neededWork order := fun hv => mem_neededWork.2 ⟨_, hv, .inr rfl⟩
  cases stands : standsFor order w with
  | false => exact .inl (mem_schedule.2 ⟨needed h, stands⟩)
  | true =>
    obtain ⟨f, which, first⟩ := standsFor_cases stands
    exact .inr ⟨f, which, mem_schedule.2 ⟨needed (.inl first), rfl⟩⟩

/-- In the schedule a piece comes after every piece it needs, but for one that a framing taken first stands for. -/
theorem schedule_needs {order before after : List CycleWork} {w v : CycleWork}
    (split : schedule order = before ++ w :: after) (needed : v ∈ workNeeds w) (own : standsFor order v = false) :
    v ∈ before := by
  rw [schedule_eq] at split
  obtain ⟨l, m, whole, rfl, rest⟩ := List.filter_eq_append_iff.1 split
  obtain ⟨p, q, rfl, none, -, rfl⟩ := List.filter_eq_cons_iff.1 rest
  have earlier : v ∈ l ++ p := (inOrder_flatMap (order ++ mandatoryWork)).dedup (l ++ p) w q
    (by rw [List.append_assoc]; exact whole) v needed
  obtain first | skipped := List.mem_append.1 earlier
  · exact List.mem_filter.2 ⟨first, by rw [own]; rfl⟩
  · exact absurd (by rw [own]; rfl) (none v skipped)

/-- Of two pieces that the command names, the first is done first, unless the second was needed before. -/
theorem schedule_keeps_order {order before between after : List CycleWork} {a b : CycleWork}
    (split : order = before ++ a :: between ++ b :: after) (fresh : b ∉ before ++ a :: between)
    (unneeded : ∀ w ∈ before ++ a :: between, b ∉ workNeeds w) (ha : a ∈ schedule order) (hb : b ∈ schedule order) :
    ∃ p q r, schedule order = p ++ a :: q ++ b :: r := by
  obtain ⟨first, hfirst⟩ : ∃ first, first = (before ++ a :: between).flatMap (fun w => workNeeds w ++ [w]) ++ workNeeds b :=
    ⟨_, rfl⟩
  have later : b ∉ first := by
    rw [hfirst]
    simp only [List.mem_append, List.mem_flatMap, List.mem_singleton, not_or, not_exists, not_and]
    refine ⟨fun w hw => ⟨unneeded w (List.mem_append.2 hw), fun same => fresh (by rw [same]; exact List.mem_append.2 hw)⟩, ?_⟩
    cases b <;> simp [workNeeds]
  obtain ⟨rest, whole⟩ : ∃ rest, neededWork order = first ++ b :: rest := by
    refine ⟨(after ++ mandatoryWork).flatMap fun w => workNeeds w ++ [w], ?_⟩
    rw [hfirst, split, neededWork]
    simp
  have earlier : a ∈ dedup first := by
    rw [mem_dedup, hfirst]
    exact List.mem_append_left _ (List.mem_flatMap.2 ⟨a, by simp, by simp⟩)
  obtain ⟨p, q, hpq⟩ := List.append_of_mem earlier
  obtain ⟨r, hr⟩ := dedup_first (m := rest) later
  obtain ⟨-, ownA⟩ := mem_schedule.1 ha
  obtain ⟨-, ownB⟩ := mem_schedule.1 hb
  refine ⟨p.filter fun w => !standsFor order w, q.filter fun w => !standsFor order w, r.filter fun w => !standsFor order w, ?_⟩
  rw [schedule_eq, whole, hr, hpq]
  simp [ownA, ownB]

end Sys2Proof.Machine
end

section
/-! PROOFS. What a feeder's work at a cycle start leaves alone (R1). -/

namespace Sys2Proof.Machine

/-! ## Work for one feeder -/

/-- From `s` to `t` only feeder `f`, the accounts and the notices move. -/
structure FeederWork (f : FeederId) (s t : State) : Prop where
  others : ∀ g, g ≠ f → t.feeder g = s.feeder g
  part : t.aside = s.aside
  books : t.meter = { s.meter with accounts := t.meter.accounts, unbilled := t.meter.unbilled }
  agent : AgentQuiet s t

namespace FeederWork

variable {f : FeederId} {s t u : State}

theorem refl (f : FeederId) (s : State) : FeederWork f s s := ⟨fun _ _ => rfl, rfl, rfl, rfl⟩

theorem trans (h : FeederWork f s t) (k : FeederWork f t u) : FeederWork f s u :=
  ⟨fun g hg => (k.others g hg).trans (h.others g hg), k.part.trans h.part, by rw [k.books, h.books], h.agent.trans k.agent⟩

theorem onFeeder (s : State) (k : Feeder → Feeder) : FeederWork f s (s.onFeeder f k) :=
  ⟨fun _ hg => State.feeder_onFeeder_ne _ _ _ _ hg, rfl, rfl, rfl⟩

/-- Work that leaves every feeder and moves accounts and notices alone. -/
theorem of_books (feeders : t.feeders = s.feeders) (part : t.aside = s.aside)
    (books : t.meter = { s.meter with accounts := t.meter.accounts, unbilled := t.meter.unbilled })
    (agent : AgentQuiet s t) : FeederWork f s t :=
  ⟨fun g _ => by rw [State.feeder, feeders]; rfl, part, books, agent⟩

theorem notify (n : Notice) (s : State) : FeederWork f s (notify n s) := by
  have line := lineKept_notify f n s
  exact of_books (by rw [notify_frame]) line.part (by rw [notify_frame]) line.agent

theorem resetHeld (h : FeederWork f s t) : t.resetHeld = s.resetHeld := congrArg Prod.fst h.part

theorem cycle (h : FeederWork f s t) : t.cycle = s.cycle := congrArg (fun p => p.2.1) h.part

theorem uplink (h : FeederWork f s t) : t.uplink = s.uplink := congrArg (fun p => p.2.2.2.2.2.2.2.1) h.part

theorem pending (h : FeederWork f s t) : t.pending = s.pending := congrArg (fun p => p.2.2.2.2.2.2.2.2) h.part

end FeederWork

/-- What the line of a feeder shows of its cycles: the run, the RESTART due, the ring, and the cycle under construction. -/
def Feeder.cycleLine (x : Feeder) := (x.running, x.restartDue, x.ring, x.sending)

/-- Work for one feeder that leaves its cycles. -/
structure LineWork (f : FeederId) (s t : State) : Prop where
  work : FeederWork f s t
  line : (t.feeder f).cycleLine = (s.feeder f).cycleLine

namespace LineWork

variable {f : FeederId} {s t u : State}

theorem refl (f : FeederId) (s : State) : LineWork f s s := ⟨.refl f s, rfl⟩

theorem trans (h : LineWork f s t) (k : LineWork f t u) : LineWork f s u := ⟨h.work.trans k.work, k.line.trans h.line⟩

theorem onFeeder {k : Feeder → Feeder} (h : (k (s.feeder f)).cycleLine = (s.feeder f).cycleLine) :
    LineWork f s (s.onFeeder f k) := ⟨.onFeeder s k, by rwa [State.feeder_onFeeder_self]⟩

theorem notify (n : Notice) (s : State) : LineWork f s (notify n s) := ⟨.notify n s, by rw [notify_feeder]⟩

theorem foldl {α : Type} {g : State → α → State} (hg : ∀ s a, LineWork f s (g s a)) (l : List α) (s : State) :
    LineWork f s (l.foldl g s) := by
  induction l generalizing s with
  | nil => exact .refl f s
  | cons a l ih => exact (hg s a).trans (ih _)

end LineWork

theorem Feeder.cycleLine_of_aside {x y : Feeder} (h : y.aside = x.aside) : y.cycleLine = x.cycleLine := by
  have running : y.running = x.running := congrArg Prod.fst h
  have sending : y.sending = x.sending := congrArg (fun p => p.2.2.2.2.2.2.1) h
  have restart : y.restartDue = x.restartDue := congrArg (fun p => p.2.2.2.2.2.2.2.1) h
  have ring : y.ring = x.ring := congrArg (fun p => p.2.2.2.2.2.2.2.2.2.2.1) h
  rw [Feeder.cycleLine, Feeder.cycleLine, running, sending, restart, ring]

theorem lineWork_closed (f : FeederId) : MonitorClosed f (LineWork f) where
  refl := .refl f
  trans := .trans
  notify := LineWork.notify
  record _ _ _ := .onFeeder rfl
  fill _ := .onFeeder (Feeder.cycleLine_of_aside (Feeder.fillOrders_aside _))
  discard s d count := by
    obtain ⟨slots, counts, h⟩ := Feeder.discardPartials_frame count d laneNumbers (s.feeder f)
    exact .onFeeder (by rw [h]; rfl)
  mark _ _ _ := .onFeeder rfl
  light _ _ _ _ _ _ := .onFeeder rfl

/-! ## The tests and counts -/

section
variable {f : FeederId}

theorem lineWork_dozeTest (s : State) (d : Nat) : LineWork f s (dozeTest f s d) := by
  by_cases h : Dozes f d s
  · rw [dozeTest_of_dozes h]
    exact .onFeeder rfl
  · obtain ⟨same, -⟩ | cleared := dozeTest_of_not h
    · rw [same]
      exact .refl f s
    · rw [cleared]
      exact .onFeeder rfl

theorem lineWork_declineEntry (e : ReplyEntry) (why : DeclineReason) (s : State) :
    LineWork f s (declineEntry f e why s) := by
  rw [declineEntry_eq, ← notify_feeder (.declined f e.tag why) s f]
  exact (LineWork.notify _ s).trans (.onFeeder (k := fun x => (x.withDecline e.serial why).fillOrders)
    ((Feeder.cycleLine_of_aside (Feeder.fillOrders_aside _)).trans rfl))

theorem lineWork_queryTimeouts (s : State) : LineWork f s (queryTimeouts f s) := by
  rw [queryTimeouts_eq]
  exact .foldl (fun s e => lineWork_declineEntry e .timeout s) _ s

theorem lineWork_strikeDecay (s : State) : LineWork f s (strikeDecay f s) :=
  .onFeeder (by split <;> rfl)

theorem lineWork_countDecay (s : State) : LineWork f s (countDecay f s) :=
  .onFeeder (by split; · rfl
                split <;> rfl)

theorem lineWork_countIdle (s : State) : LineWork f s (countIdle f s) := .onFeeder (by split <;> rfl)

theorem lineWork_growQueryAges (s : State) : LineWork f s (growQueryAges f s) := .onFeeder rfl

theorem lineWork_ageOutSlot (s : State) (k : Nat × Nat) : LineWork f s (ageOutSlot f s k) := by
  refine .onFeeder ?_
  split
  · rfl
  · split
    · unfold discardPartial
      split <;> rfl
    · rfl

theorem lineWork_ageOuts (s : State) : LineWork f s (ageOuts f s) := .foldl lineWork_ageOutSlot _ s

theorem lineWork_autoIsolate (s : State) : LineWork f s (autoIsolate f s) := by
  unfold autoIsolate
  dsimp only
  split
  · exact (lineWork_closed f).beginIsolation _ _ s
  · exact .refl f s

/-! ## The orders of a cycle (R15, R75, R78) -/

theorem lineWork_unbindAccount (d : Nat) (s : State) : LineWork f s (unbindAccount f d s) := by
  rw [unbindAccount_frame]
  exact ⟨.of_books rfl rfl rfl rfl, rfl⟩

theorem lineWork_freeRecord (d : Nat) (why : RemoveReason) (s : State) : LineWork f s (freeRecord f d why s) := by
  have closed := lineWork_closed f
  have lanes : ∀ s : State, LineWork f s (resetLanes f d s) := fun s => by
    obtain ⟨table, h⟩ := Feeder.resetLanes_frame d laneNumbers (s.feeder f)
    exact .onFeeder (by rw [h]; rfl)
  unfold freeRecord
  extract_lets r t t' t''
  have cleared : LineWork f s t := (lineWork_unbindAccount d s).trans (lanes _)
  have discarded : LineWork f s t' := by
    unfold t'
    split
    · exact cleared.trans (closed.leaveShining _ _)
    · exact cleared
  have freed : LineWork f s t'' := discarded.trans (.onFeeder rfl)
  exact (freed.trans (closed.departure _ _ _ _)).trans (.notify _ _)

theorem lineWork_leavingTest (d : Nat) (s : State) : LineWork f s (leavingTest f s d) := by
  unfold leavingTest
  split
  · exact lineWork_freeRecord _ _ s
  · exact .refl f s

theorem MonitorClosed.isolationReport {R : State → State → Prop} (h : MonitorClosed f R) (d : Nat) (kind : OrderKind)
    (m : CycleNo) (s : State) : R s (isolationReport f d kind m s) := by
  unfold Machine.isolationReport
  dsimp only
  split
  · exact h.refl s
  · split
    · split
      · exact h.trans (h.onIsolation _ s) (h.beginObservation _)
      · exact h.onIsolation _ s
    · split
      · exact h.trans (h.onIsolation _ s) (h.nextStep _)
      · exact h.onIsolation _ s
    · exact h.onIsolation _ s
    · exact h.trans (h.onIsolation _ s) (h.reachEnd _ _)
    · exact h.refl s

theorem lineWork_markTransmitted (d : Nat) (m : CycleNo) (s : State) : LineWork f s (markTransmitted f d m s) :=
  .onFeeder (by split <;> rfl)

theorem lineWork_equaliseReported (d : Nat) (m : CycleNo) (s : State) : LineWork f s (equaliseReported f d m s) := by
  have closed := lineWork_closed f
  unfold equaliseReported
  dsimp only
  split
  · exact ((closed.record s d _).trans (closed.record _ d _)).trans (.notify _ _)
  · exact closed.record s d _

theorem lineWork_reportHandedOn (d : Nat) (kind : OrderKind) (m : CycleNo) (s : State) :
    LineWork f s (reportHandedOn f d kind m s) := by
  have closed := lineWork_closed f
  cases kind with
  | assign => exact closed.record s d _
  | equalise => exact lineWork_equaliseReported d m s
  | darken =>
    unfold reportHandedOn
    dsimp only
    split
    · exact closed.isolationReport _ _ _ s
    · exact .refl f s
  | disable => exact closed.isolationReport _ _ _ s
  | relight => exact (lineWork_markTransmitted d m s).trans (closed.isolationReport d .relight m _)
  | enable => exact (lineWork_markTransmitted d m s).trans (closed.isolationReport d .enable m _)
  | remove => exact lineWork_leavingTest d s
  | decline => exact .refl f s

theorem lineWork_orderReport (m : CycleNo) (s : State) (o : LineOrder) : LineWork f s (orderReport f m s o) := by
  have closed := lineWork_closed f
  unfold orderReport
  split
  · dsimp only
    split
    · exact .refl f s
    · exact ((closed.record s _ _).trans (closed.fill _)).trans (lineWork_reportHandedOn _ _ _ _)
  · exact .onFeeder rfl

/-- The orders of a cycle: at most 8 more go into it, and nothing else of the feeder's cycles moves. -/
theorem takeOrders_line (n : CycleNo) (s : State) : ∃ taken : List LineOrder, taken.length ≤ 8 ∧
    FeederWork f s (takeOrders f n s) ∧ ((takeOrders f n s).feeder f).cycleLine = ((s.feeder f).running,
      (s.feeder f).restartDue, (s.feeder f).ring, (s.feeder f).sending.map fun c => { c with orders := c.orders ++ taken }) := by
  unfold takeOrders
  split
  · dsimp only
    have reported := ((lineWork_closed f).fill (s.onFeeder f fun x =>
      { x with orderQueue := x.orderQueue.drop Config.ordersPerCycle
               sending := x.sending.map fun c => { c with
                 orders := c.orders ++ (s.feeder f).orderQueue.take Config.ordersPerCycle } })).trans
      (.foldl (lineWork_orderReport n) ((s.feeder f).orderQueue.take Config.ordersPerCycle) _)
    refine ⟨(s.feeder f).orderQueue.take Config.ordersPerCycle, List.length_take_le _ _,
      (FeederWork.onFeeder s _).trans reported.work, reported.line.trans ?_⟩
    rw [State.feeder_onFeeder_self]
    rfl
  · refine ⟨[], Nat.zero_le _, .refl f s, ?_⟩
    cases sending : (s.feeder f).sending with
    | none => rw [Feeder.cycleLine, sending]; rfl
    | some c => rw [Feeder.cycleLine, sending, Option.map_some, List.append_nil]

end

end Sys2Proof.Machine
end

section
/-! PROOFS. What the last cycle start made due on a feeder is taken before the next (R69, R87, R110, R126). -/

namespace Sys2Proof.Machine

/-! ## The doze tests (R110) -/

theorem dozeTest_due (f : FeederId) (k : Nat) (s : State) (d : Nat) :
    ((dozeTest f s k).drop f d).dozeDue = if d = k then false else (s.drop f d).dozeDue := by
  by_cases own : d = k
  · subst own
    rw [if_pos rfl]
    by_cases h : Dozes f d s
    · rw [dozeTest_of_dozes h, State.drop_onDrop_self]
    · obtain ⟨same, off⟩ | cleared := dozeTest_of_not h
      · rw [same, off]
      · rw [cleared, State.drop_onDrop_self]
  · rw [if_neg own]
    by_cases h : Dozes f k s
    · rw [dozeTest_of_dozes h, State.drop_onDrop_ne (h := own)]
    · obtain ⟨same, -⟩ | cleared := dozeTest_of_not h
      · rw [same]
      · rw [cleared, State.drop_onDrop_ne (h := own)]

theorem dozeTests_due (f : FeederId) (s : State) {d : Nat} (h1 : 1 ≤ d) (h64 : d ≤ 64) :
    ((dozeTests f s).drop f d).dozeDue = false := by
  have tested : ∀ (l : List Nat) (s : State), d ∈ l ∨ (s.drop f d).dozeDue = false →
      ((l.foldl (dozeTest f) s).drop f d).dozeDue = false := by
    intro l
    induction l with
    | nil => exact fun s h => h.resolve_left List.not_mem_nil
    | cons k l ih =>
      refine fun s h => ih _ ?_
      rw [dozeTest_due]
      by_cases own : d = k
      · exact .inr (if_pos own)
      · rw [if_neg own]
        exact h.imp_left fun listed => (List.mem_cons.1 listed).resolve_left own
  exact tested dropIndices s (.inl (by rw [dropIndices]; simp; exact ⟨d - 1, by omega, by omega⟩))

/-! ## The admission timeouts (R87) -/

/-- The entry's timeout is due and no DECLINE is pending on it. -/
def ReplyEntry.overdue (e : ReplyEntry) : Bool := e.timeoutDue && e.decline.isNone

/-- The entries that are overdue, by their serials. -/
def overdue (l : List ReplyEntry) : List Nat := (l.filter ReplyEntry.overdue).map ReplyEntry.serial

theorem overdue_undecided (l : List ReplyEntry) : overdue (l.map ReplyEntry.undecided) = overdue l := by
  have due : ReplyEntry.overdue ∘ ReplyEntry.undecided = ReplyEntry.overdue := by
    funext e
    simp [ReplyEntry.overdue, ReplyEntry.undecided]
  rw [overdue, List.filter_map, List.map_map, due]
  rfl

theorem overdue_congr {l m : List ReplyEntry} (h : l.map ReplyEntry.undecided = m.map ReplyEntry.undecided) :
    overdue l = overdue m := by
  rw [← overdue_undecided l, h, overdue_undecided]

theorem overdue_declineEntry (f : FeederId) (e : ReplyEntry) (why : DeclineReason) (s : State) :
    overdue ((declineEntry f e why s).feeder f).replies =
      (overdue (s.feeder f).replies).filter fun k => decide (k ≠ e.serial) := by
  rw [declineEntry_feeder_self, overdue_congr (Feeder.fillOrders_replies _), Feeder.withDecline]
  dsimp only
  generalize (s.feeder f).replies = l
  unfold overdue
  induction l with
  | nil => rfl
  | cons r l ih =>
    rw [List.map_cons]
    by_cases own : r.serial = e.serial
    · rw [if_pos own, List.filter_cons_of_neg (by simp [ReplyEntry.overdue, ReplyEntry.declinedFor]), ih]
      cases due : r.overdue with
      | false => rw [List.filter_cons_of_neg (by simp [due])]
      | true => rw [List.filter_cons_of_pos due, List.map_cons, List.filter_cons_of_neg (by simp [own])]
    · rw [if_neg own]
      cases due : r.overdue with
      | false => rw [List.filter_cons_of_neg (by simp [due]), List.filter_cons_of_neg (by simp [due]), ih]
      | true => rw [List.filter_cons_of_pos due, List.filter_cons_of_pos due, List.map_cons, List.map_cons,
          List.filter_cons_of_pos (by simp [own]), ih]

/-- Once every timeout due has been taken, none is due without a DECLINE pending. -/
theorem overdue_queryTimeouts (f : FeederId) (s : State) : overdue ((queryTimeouts f s).feeder f).replies = [] := by
  have declined : ∀ (l : List ReplyEntry) (s : State),
      overdue ((l.foldl (fun y e => declineEntry f e .timeout y) s).feeder f).replies =
        (overdue (s.feeder f).replies).filter fun k => decide (k ∉ l.map ReplyEntry.serial) := by
    intro l
    induction l with
    | nil => exact fun s => by simp
    | cons e l ih =>
      intro s
      rw [List.foldl_cons, ih, overdue_declineEntry, List.filter_filter]
      refine List.filter_congr fun k _ => ?_
      simp only [List.map_cons, List.mem_cons, not_or, ← Bool.decide_and, and_comm]
  rw [queryTimeouts_eq, declined]
  refine List.filter_eq_nil_iff.2 fun k listed => ?_
  rw [decide_eq_true_eq, not_not]
  exact listed

theorem not_due_of_overdue {l : List ReplyEntry} (h : overdue l = []) {e : ReplyEntry} (he : e ∈ l)
    (due : e.timeoutDue = true) : e.decline ≠ none := fun none => by
  have listed : e.serial ∈ overdue l := List.mem_map_of_mem (List.mem_filter.2 ⟨he, by rw [ReplyEntry.overdue, due, none]; rfl⟩)
  rw [h] at listed
  cases listed

theorem declineEntry_dozeDue (f : FeederId) (e : ReplyEntry) (why : DeclineReason) (s : State) (d : Nat) :
    ((declineEntry f e why s).drop f d).dozeDue = (s.drop f d).dozeDue := by
  have same : (((s.feeder f).withDecline e.serial why).drop d).SameButStatus ((declineEntry f e why s).drop f d) := by
    rw [State.drop, declineEntry_feeder_self]
    exact Feeder.fillOrders_drop _ d
  rw [same.1]
  rfl

theorem queryTimeouts_dozeDue (f : FeederId) (s : State) (d : Nat) :
    ((queryTimeouts f s).drop f d).dozeDue = (s.drop f d).dozeDue := by
  rw [queryTimeouts_eq]
  generalize (s.feeder f).replies.filter _ = l
  induction l generalizing s with
  | nil => rfl
  | cons e l ih => rw [List.foldl_cons, ih, declineEntry_dozeDue]

/-! ## The strike decay (R126) -/

theorem strikeDecay_feeder (f : FeederId) (s : State) : ((strikeDecay f s).feeder f).decayDue = false ∧
    ((strikeDecay f s).feeder f).replies = (s.feeder f).replies ∧
    ∀ d, ((strikeDecay f s).drop f d).dozeDue = (s.drop f d).dozeDue := by
  cases due : (s.feeder f).decayDue with
  | false =>
    rw [strikeDecay_of_not_due due]
    exact ⟨due, rfl, fun _ => rfl⟩
  | true =>
    refine ⟨?_, ?_, fun d => ?_⟩
    · rw [strikeDecay, State.feeder_onFeeder_self, if_pos due]
    · rw [strikeDecay, State.feeder_onFeeder_self, if_pos due]
    · rw [strikeDecay_drop due, DropRecord.decayed]
      split <;> rfl

/-! ## The partial frames (R69) -/

/-- A slot's partial frame, if it holds one, is younger than 4,000 cycles. -/
def YoungSlot (f : FeederId) (s : State) (d lane : Nat) : Prop :=
  ∀ p, (s.feeder f).partialFrame d lane = some p → (s.cycle - p.arrival).toNat < 4000

theorem ageOutSlot_frame (f : FeederId) (s : State) (k : Nat × Nat) :
    ((ageOutSlot f s k).feeder f).drops = (s.feeder f).drops ∧
    ((ageOutSlot f s k).feeder f).replies = (s.feeder f).replies ∧
    ((ageOutSlot f s k).feeder f).decayDue = (s.feeder f).decayDue ∧ (ageOutSlot f s k).cycle = s.cycle ∧
    ∀ d lane p, ((ageOutSlot f s k).feeder f).partialFrame d lane = some p → (s.feeder f).partialFrame d lane = some p := by
  by_cases young : YoungSlot f s k.1 k.2
  · rw [ageOutSlot_of_young (d := k.1) (lane := k.2) young]
    exact ⟨rfl, rfl, rfl, rfl, fun _ _ _ h => h⟩
  · simp only [YoungSlot, not_forall, not_lt] at young
    obtain ⟨p, held, old⟩ := young
    rw [ageOutSlot_of_old (d := k.1) (lane := k.2) held old, State.feeder_setFeeder_self]
    refine ⟨rfl, rfl, rfl, rfl, fun d lane q h => ?_⟩
    have emptied : ((s.feeder f).setPartial k.1 k.2 none).partialFrame d lane = some q := h
    rw [Feeder.partialFrame, Feeder.setPartial, Tbl.get_set] at emptied
    split at emptied
    · cases emptied
    · exact emptied

theorem ageOutSlot_young (f : FeederId) (s : State) (d lane : Nat) : YoungSlot f (ageOutSlot f s (d, lane)) d lane := by
  by_cases young : YoungSlot f s d lane
  · rwa [ageOutSlot_of_young young]
  · simp only [YoungSlot, not_forall, not_lt] at young
    obtain ⟨p, held, old⟩ := young
    rw [ageOutSlot_of_old held old]
    intro q hq
    rw [State.feeder_setFeeder_self] at hq
    have emptied : ((s.feeder f).setPartial d lane none).partialFrame d lane = some q := hq
    rw [Feeder.partialFrame, Feeder.setPartial, Tbl.get_set, if_pos rfl] at emptied
    cases emptied

theorem foldl_ageOutSlot (f : FeederId) (l : List (Nat × Nat)) (s : State) :
    ((l.foldl (ageOutSlot f) s).feeder f).drops = (s.feeder f).drops ∧
    ((l.foldl (ageOutSlot f) s).feeder f).replies = (s.feeder f).replies ∧
    ((l.foldl (ageOutSlot f) s).feeder f).decayDue = (s.feeder f).decayDue ∧ (l.foldl (ageOutSlot f) s).cycle = s.cycle ∧
    ∀ d lane, (d, lane) ∈ l ∨ YoungSlot f s d lane → YoungSlot f (l.foldl (ageOutSlot f) s) d lane := by
  induction l generalizing s with
  | nil => exact ⟨rfl, rfl, rfl, rfl, fun _ _ h => h.resolve_left List.not_mem_nil⟩
  | cons k l ih =>
    obtain ⟨drops, replies, decay, cycle, young⟩ := ih (ageOutSlot f s k)
    obtain ⟨drops', replies', decay', cycle', slots⟩ := ageOutSlot_frame f s k
    refine ⟨drops.trans drops', replies.trans replies', decay.trans decay', cycle.trans cycle', fun d lane h => young d lane ?_⟩
    by_cases own : (d, lane) = k
    · subst own
      exact .inr (ageOutSlot_young f s d lane)
    · refine h.imp (fun listed => (List.mem_cons.1 listed).resolve_left own) fun young p held => ?_
      rw [cycle']
      exact young p (slots d lane p held)

theorem ageOuts_feeder (f : FeederId) (s : State) : ((ageOuts f s).feeder f).drops = (s.feeder f).drops ∧
    ((ageOuts f s).feeder f).replies = (s.feeder f).replies ∧ ((ageOuts f s).feeder f).decayDue = (s.feeder f).decayDue ∧
    ∀ d lane, 1 ≤ d → lane < 4 → YoungSlot f (ageOuts f s) d lane := by
  obtain ⟨drops, replies, decay, -, young⟩ :=
    foldl_ageOutSlot f ((s.feeder f).reassembly.map fun e => (e.1 / 4 + 1, e.1 % 4)) s
  refine ⟨drops, replies, decay, fun d lane h1 h4 => young d lane ?_⟩
  by_cases listed : ∃ e ∈ (s.feeder f).reassembly, e.1 = laneKey d lane
  · obtain ⟨e, he, key⟩ := listed
    refine .inl (List.mem_map.2 ⟨e, he, ?_⟩)
    rw [key, laneKey]
    exact Prod.ext (by dsimp only; omega) (by dsimp only; omega)
  · refine .inr fun p held => ?_
    have absent : (s.feeder f).partialFrame d lane = none :=
      Tbl.get_of_not_listed none _ _ fun e he key => listed ⟨e, he, key⟩
    rw [absent] at held
    cases held

/-! ## A feeder settled (log 4) -/

/-- Nothing that a cycle start makes due waits on the feeder. -/
structure Feeder.Settled (cycle : CycleNo) (x : Feeder) : Prop where
  decay : x.decayDue = false
  doze : ∀ d, 1 ≤ d → d ≤ 64 → (x.drop d).dozeDue = false
  timeouts : ∀ e ∈ x.replies, e.timeoutDue = true → e.decline ≠ none
  slots : ∀ d l p, 1 ≤ d → l < 4 → x.partialFrame d l = some p → (cycle - p.arrival).toNat < 4000

theorem lineWork_settleFeeder (f : FeederId) (s : State) : LineWork f s (settleFeeder s f) :=
  (((LineWork.foldl (lineWork_dozeTest (f := f)) dropIndices s).trans (lineWork_queryTimeouts _)).trans
    (lineWork_strikeDecay _)).trans (lineWork_ageOuts _)

theorem settleFeeder_settled (f : FeederId) (s : State) : ((settleFeeder s f).feeder f).Settled s.cycle := by
  have cycle : (settleFeeder s f).cycle = s.cycle := (lineWork_settleFeeder f s).work.cycle
  obtain ⟨y, hy⟩ : ∃ y, queryTimeouts f (dozeTests f s) = y := ⟨_, rfl⟩
  obtain ⟨decayed, replies, dozes⟩ := strikeDecay_feeder f y
  obtain ⟨drops', replies', decay', young⟩ := ageOuts_feeder f (strikeDecay f y)
  have settled : settleFeeder s f = ageOuts f (strikeDecay f y) := by rw [← hy]; rfl
  rw [settled] at cycle ⊢
  refine ⟨decay'.trans decayed, fun d h1 h64 => ?_, fun e he due => ?_, fun d l p h1 h4 held => ?_⟩
  · have same : ((ageOuts f (strikeDecay f y)).feeder f).drop d = (strikeDecay f y).drop f d :=
      congrArg (fun t => t.get DropRecord.empty d) drops'
    rw [same, dozes, ← hy, queryTimeouts_dozeDue, dozeTests_due f s h1 h64]
  · rw [replies', replies, ← hy] at he
    exact not_due_of_overdue (overdue_queryTimeouts f _) he due
  · rw [← cycle]
    exact young d l h1 h4 p held

end Sys2Proof.Machine
end

section
/-! PROOFS. What was due is taken before a cycle start (R170, R173, R176, R179, R183). -/

namespace Sys2Proof.Machine

/-! ## The feeders in their turn -/

/-- From `s` to `t` only feeders, accounts and notices move. -/
structure PartKept (s t : State) : Prop where
  part : t.aside = s.aside
  books : t.meter = { s.meter with accounts := t.meter.accounts, unbilled := t.meter.unbilled }
  agent : AgentQuiet s t

theorem PartKept.refl (s : State) : PartKept s s := ⟨rfl, rfl, rfl⟩

theorem PartKept.trans {s t u : State} (h : PartKept s t) (k : PartKept t u) : PartKept s u :=
  ⟨k.part.trans h.part, by rw [k.books, h.books], h.agent.trans k.agent⟩

theorem PartKept.cycle {s t : State} (h : PartKept s t) : t.cycle = s.cycle := congrArg (fun p => p.2.1) h.part

theorem PartKept.resetHeld {s t : State} (h : PartKept s t) : t.resetHeld = s.resetHeld := congrArg Prod.fst h.part

theorem FeederWork.kept {f : FeederId} {s t : State} (h : FeederWork f s t) : PartKept s t := ⟨h.part, h.books, h.agent⟩

theorem partKept_settleFeeders (l : List FeederId) (s : State) : PartKept s (l.foldl settleFeeder s) := by
  induction l generalizing s with
  | nil => exact .refl s
  | cons f l ih => exact (lineWork_settleFeeder f s).work.kept.trans (ih _)

theorem settleFeeders_feeder {l : List FeederId} (nodup : l.Nodup) (s : State) {f : FeederId} (listed : f ∈ l) :
    ((l.foldl settleFeeder s).feeder f).Settled s.cycle := by
  have left : ∀ (l : List FeederId) (s : State), f ∉ l → (l.foldl settleFeeder s).feeder f = s.feeder f := by
    intro l
    induction l with
    | nil => exact fun _ _ => rfl
    | cons g l ih =>
      intro s absent
      refine (ih _ fun h => absent (List.mem_cons_of_mem g h)).trans ?_
      exact (lineWork_settleFeeder g s).work.others f fun same => absent (same ▸ List.mem_cons_self)
  induction l generalizing s with
  | nil => cases listed
  | cons g l ih =>
    obtain ⟨other, nodup⟩ := List.nodup_cons.1 nodup
    obtain rfl | later := List.mem_cons.1 listed
    · rw [List.foldl_cons, left l _ other]
      exact settleFeeder_settled f s
    · have settled := ih nodup (settleFeeder s g) later
      rwa [(lineWork_settleFeeder g s).work.cycle] at settled

/-! ## The close pass (R170) -/

/-- From `s` to `t` only what a close pass moves has moved: accounts, statements and the pass, and what exporting lets go. -/
def ClosedAlong (s t : State) : Prop := t = { s with
  meter := { s.meter with
    accounts := t.meter.accounts, queue := t.meter.queue, nextNumber := t.meter.nextNumber
    exportCount := t.meter.exportCount, exported := t.meter.exported, lateCloses := t.meter.lateCloses
    pass := t.meter.pass }
  uplink := { s.uplink with statements := t.uplink.statements, sending := t.uplink.sending } }

theorem ClosedAlong.refl (s : State) : ClosedAlong s s := rfl

theorem ClosedAlong.trans {s t u : State} (h : ClosedAlong s t) (k : ClosedAlong t u) : ClosedAlong s u := by
  unfold ClosedAlong at *
  rw [k, h]

theorem closedAlong_exportFirst (k : Nat) (s : State) : ClosedAlong s (exportFirst k s) := rfl

theorem closedAlong_arbitrate (s : State) : ClosedAlong s (arbitrate s) := by
  unfold ClosedAlong
  rw [arbitrate_eq]

theorem closedAlong_exportAndSend (s : State) : ClosedAlong s (exportAndSend s) := by
  obtain ⟨same, -⟩ | ⟨-, sent⟩ := exportAndSend_cases s
  · rw [same]
    exact .refl s
  · rw [sent]
    exact (closedAlong_exportFirst _ s).trans (closedAlong_arbitrate _)

theorem closedAlong_appendStatement (r : Statement) (s : State) : ClosedAlong s (appendStatement r s) := by
  unfold appendStatement
  dsimp only
  split
  · exact (show ClosedAlong s (recordJoined r s) from rfl).trans (closedAlong_exportAndSend _)
  · rfl

theorem closedAlong_closeAccount (slot : Nat) (stamp : CloseStamp) (s : State) :
    ClosedAlong s (closeAccount slot stamp s) := by
  unfold closeAccount
  split
  · exact (closedAlong_appendStatement _ s).trans rfl
  · rfl

theorem closedAlong_closeStep (s : State) : ClosedAlong s (closeStep s) := by
  cases pass : s.meter.pass with
  | none =>
    simp only [closeStep, pass]
    exact .refl s
  | some p =>
    rw [closeStep_of_pass pass]
    split
    · exact (closedAlong_closeAccount _ _ s).trans rfl
    · rfl

theorem closedAlong_closeSteps (n : Nat) (s : State) : ClosedAlong s (closeSteps n s) := by
  induction n generalizing s with
  | zero => exact .refl s
  | succ n ih =>
    rw [closeSteps]
    split
    · exact (closedAlong_closeStep s).trans (ih _)
    · exact .refl s

theorem closeStep_pass {s : State} {p : ClosePass} (h : s.meter.pass = some p) : (closeStep s).meter.pass = p.next := by
  rw [closeStep_of_pass h, State.onMeter_meter]

/-- A pass ends once a step has been taken for every slot left. -/
theorem closeSteps_pass (n : Nat) (s : State)
    (enough : ∀ p, s.meter.pass = some p → 1 ≤ n ∧ 256 ≤ p.cursor + n) : (closeSteps n s).meter.pass = none := by
  induction n generalizing s with
  | zero =>
    cases pass : s.meter.pass with
    | none => exact pass
    | some p => exact absurd (enough p pass).1 (by omega)
  | succ n ih =>
    cases pass : s.meter.pass with
    | none => rw [closeSteps_none _ pass, pass]
    | some p =>
      rw [closeSteps, if_pos (by rw [pass]; rfl)]
      refine ih _ fun q hq => ?_
      rw [closeStep_pass pass, ClosePass.next] at hq
      split at hq
      next room =>
        cases hq
        have steps := (enough p pass).2
        exact ⟨by omega, by dsimp only; omega⟩
      next => cases hq

theorem closeSteps_eq (n : Nat) (s : State) : closeSteps n s = Nat.repeat closeStep n s := by
  induction n generalizing s with
  | zero => rfl
  | succ n ih =>
    rw [← repeat_comm, ← ih, closeSteps]
    split
    · rfl
    next none =>
      have off : s.meter.pass = Option.none := by simpa using none
      have idle : closeStep s = s := by simp only [closeStep, off]
      rw [idle, closeSteps_none n off]

/-! ## What joins a class (R173, R179, R183) -/

theorem repeat_releaseHeld (n : Nat) (s : State) :
    (Nat.repeat releaseHeld n s).agent.hold = [] ∨ 8 ≤ (Nat.repeat releaseHeld n s).uplink.responses.length ∨
      n ≤ (Nat.repeat releaseHeld n s).uplink.responses.length := by
  induction n with
  | zero => exact .inr (.inr (Nat.zero_le _))
  | succ n ih =>
    change (releaseHeld (Nat.repeat releaseHeld n s)).agent.hold = [] ∨ _ ≤ (releaseHeld _).uplink.responses.length ∨
      _ ≤ (releaseHeld _).uplink.responses.length
    generalize Nat.repeat releaseHeld n s = y at ih ⊢
    obtain ⟨same, stuck⟩ | ⟨r, rest, held, room, joined⟩ := releaseHeld_cases y
    · rw [same]
      exact stuck.imp id fun full => .inl full
    · rw [joined, arbitrate_agent, arbitrate_responses]
      dsimp only
      rw [List.length_append, List.length_singleton]
      rw [held] at ih
      obtain none | full | some := ih
      · cases none
      · exact .inr (.inl (by omega))
      · exact .inr (.inr (by omega))

theorem repeat_offerNotice (n : Nat) (s : State) :
    ((Nat.repeat offerNotice n s).agent.notices = [] ∨ 8 ≤ (Nat.repeat offerNotice n s).uplink.notices.length ∨
      n ≤ (Nat.repeat offerNotice n s).uplink.notices.length) ∧
    (Nat.repeat offerNotice n s).agent.hold = s.agent.hold ∧
    (Nat.repeat offerNotice n s).uplink.responses = s.uplink.responses := by
  induction n with
  | zero => exact ⟨.inr (.inr (Nat.zero_le _)), rfl, rfl⟩
  | succ n ih =>
    change ((offerNotice (Nat.repeat offerNotice n s)).agent.notices = [] ∨ _ ≤ (offerNotice _).uplink.notices.length ∨
      _ ≤ (offerNotice _).uplink.notices.length) ∧ (offerNotice _).agent.hold = _ ∧ (offerNotice _).uplink.responses = _
    generalize Nat.repeat offerNotice n s = y at ih ⊢
    obtain ⟨waits, hold, responses⟩ := ih
    obtain ⟨same, stuck⟩ | ⟨r, rest, held, room, joined⟩ := offerNotice_cases y
    · rw [same]
      exact ⟨stuck.imp id fun full => .inl full, hold, responses⟩
    · rw [joined, arbitrate_agent, arbitrate_notices, arbitrate_responses]
      dsimp only
      rw [List.length_append, List.length_singleton]
      rw [held] at waits
      refine ⟨?_, hold, responses⟩
      obtain none | full | some := waits
      · cases none
      · exact .inr (.inl (by omega))
      · exact .inr (.inr (by omega))

/-- After the hand-over nothing that may join a class still waits. -/
theorem handOver_settled (s : State) :
    ((handOver s).agent.hold = [] ∨ 8 ≤ (handOver s).uplink.responses.length) ∧
    ((handOver s).agent.notices = [] ∨ 8 ≤ (handOver s).uplink.notices.length) ∧ exportNumber (handOver s) = 0 := by
  have held := repeat_releaseHeld 8 s
  obtain ⟨y, hy⟩ : ∃ y, Nat.repeat releaseHeld 8 s = y := ⟨_, rfl⟩
  rw [hy] at held
  obtain ⟨offered, hold, responses⟩ := repeat_offerNotice 8 y
  obtain ⟨z, hz⟩ : ∃ z, Nat.repeat offerNotice 8 y = z := ⟨_, rfl⟩
  rw [hz] at offered hold responses
  have done : handOver s = exportAndSend z := by rw [← hz, ← hy]; rfl
  have kept := closedAlong_exportAndSend z
  have agent : (handOver s).agent = z.agent := by rw [done, kept]
  have sentResponses : (handOver s).uplink.responses = z.uplink.responses := by rw [done, kept]
  have sentNotices : (handOver s).uplink.notices = z.uplink.notices := by rw [done, kept]
  refine ⟨?_, ?_, by rw [done, exportNumber_exportAndSend]⟩
  · rw [agent, sentResponses, hold, responses]
    exact held.imp_right fun full => full.elim id id
  · rw [agent, sentNotices]
    exact offered.imp_right fun full => full.elim id id

/-! ## Everything still due (log 4, log 36) -/

/-- The state once a pass under way is complete, before the hand-over. -/
def passDone (s : State) : State :=
  closeSteps Config.accountSlots (quarterBoundary (bindTimeout (FeederId.all.foldl settleFeeder s)))

theorem settle_eq (s : State) : settle s = handOver (passDone s) := rfl

theorem bindTimeout_frame (s : State) : bindTimeout s = { s with agent := (bindTimeout s).agent } := rfl

theorem bindTimeout_over (s : State) : ¬ ((bindTimeout s).agent.bind = .binding ∧ 4000 ≤ (bindTimeout s).agent.bindAge) := by
  rw [bindTimeout_eq]
  split
  · exact fun h => nomatch h.1
  next early => exact early

theorem bindTimeout_hold (s : State) : (bindTimeout s).agent.hold = s.agent.hold := by
  rw [bindTimeout_eq]
  split <;> rfl

theorem quarterBoundary_boundaryDue (s : State) : (quarterBoundary s).meter.boundaryDue = false := by
  unfold quarterBoundary
  split
  next early => simpa using early
  next => rfl

section
variable {s t : State} (h : ClosedAlong s t)
include h

theorem ClosedAlong.feeders : t.feeders = s.feeders := by rw [h]

theorem ClosedAlong.agent : t.agent = s.agent := by rw [h]

theorem ClosedAlong.cycle : t.cycle = s.cycle := by rw [h]

theorem ClosedAlong.boundaryDue : t.meter.boundaryDue = s.meter.boundaryDue := by rw [h]

end

section
variable {s t : State} (h : Joined s t)
include h

theorem Joined.feeders : t.feeders = s.feeders := by rw [h.frame]

theorem Joined.cycle : t.cycle = s.cycle := by rw [h.frame]

theorem Joined.bind : t.agent.bind = s.agent.bind ∧ t.agent.bindAge = s.agent.bindAge := by
  rw [h.frame]
  exact ⟨rfl, rfl⟩

theorem Joined.clock : t.meter.boundaryDue = s.meter.boundaryDue ∧ t.meter.pass = s.meter.pass := by
  rw [h.frame]
  exact ⟨rfl, rfl⟩

end

section
variable (s : State)

/-- Before the pass is completed, the boundary and the end of a binding have been taken. -/
theorem passDone_closed :
    ClosedAlong (quarterBoundary (bindTimeout (FeederId.all.foldl settleFeeder s))) (passDone s) :=
  closedAlong_closeSteps _ _

theorem passDone_feeders : (passDone s).feeders = (FeederId.all.foldl settleFeeder s).feeders := by
  rw [(passDone_closed s).feeders, quarterBoundary_frame, bindTimeout_frame]

theorem passDone_agent : (passDone s).agent = (bindTimeout (FeederId.all.foldl settleFeeder s)).agent := by
  rw [(passDone_closed s).agent, quarterBoundary_frame]

/-- Once what was due is taken, a feeder is as its own due work left it. -/
theorem settle_feeder (f : FeederId) : (settle s).feeder f = (FeederId.all.foldl settleFeeder s).feeder f := by
  rw [State.feeder, settle_eq, (handOver_joined _).feeders, passDone_feeders]
  rfl

theorem settle_cycle : (settle s).cycle = s.cycle := by
  have first := (partKept_settleFeeders FeederId.all s).cycle
  rw [settle_eq, (handOver_joined _).cycle, (passDone_closed s).cycle]
  generalize FeederId.all.foldl settleFeeder s = y at first ⊢
  rw [quarterBoundary_frame, bindTimeout_frame]
  exact first

theorem settle_settled : (settle s).meter.boundaryDue = false ∧ (settle s).meter.pass = none ∧
    ¬ ((settle s).agent.bind = .binding ∧ 4000 ≤ (settle s).agent.bindAge) := by
  obtain ⟨bind, age⟩ := (handOver_joined (passDone s)).bind
  obtain ⟨boundary, pass⟩ := (handOver_joined (passDone s)).clock
  refine ⟨?_, ?_, ?_⟩
  · rw [settle_eq, boundary, (passDone_closed s).boundaryDue]
    exact quarterBoundary_boundaryDue _
  · rw [settle_eq, pass, passDone]
    refine closeSteps_pass Config.accountSlots _ fun p _ => ?_
    have slots : Config.accountSlots = 256 := rfl
    omega
  · rw [settle_eq, bind, age, passDone_agent]
    exact bindTimeout_over _

end

end Sys2Proof.Machine
end

section
/-! PROOFS. The plan and the frames of a cycle start, and what was due taken by its commands (R3, R5, R6, R160, R173). -/

namespace Sys2Proof.Machine

/-! ## The build of a plan (R42) -/

/-- What a cycle under construction becomes as a plan is built. -/
def DownCycle.planned (plan : List Entry) (c : DownCycle) : DownCycle := { c with plan := plan }

/-- The slot that a plan enters (R44). -/
def Slot.planned (n : CycleNo) (plan : List Entry) : Slot :=
  ⟨.waiting, n, plan.map fun e => ⟨e, .nothing, .unresolved⟩, LightRecord.dark⟩

theorem Feeder.handOn_line (x : Feeder) (n : CycleNo) (plan : List Entry) : (x.handOn n plan).cycleLine =
    (x.running, x.restartDue, x.ring.set (slotNumber n) (some (.planned n plan)), x.sending.map (.planned plan)) := rfl

/-- A build enters its plan in the framer's cycle and in its ring slot, and moves nothing else of the feeder's cycles. -/
theorem Feeder.build_line (x : Feeder) (force : Nat → Nat → Option Profile) (n : CycleNo) :
    ∃ plan, (x.build force n).1.cycleLine = (x.running, x.restartDue,
      x.ring.set (slotNumber n) (some (.planned n plan)), x.sending.map (.planned plan)) := by
  obtain ⟨lanes, pointer, grants⟩ := buildGrants_frame (capacityOf (x.decideDiscovery n).settings (x.plansDiscovery n)
    ((x.decideDiscovery n).rangingList n).length) n force (x.decideDiscovery n)
  unfold Feeder.build
  dsimp only
  generalize layPlan _ _ _ _ _ = plan
  obtain ⟨drops, reported⟩ := Feeder.foldl_reportEntry_frame n plan (buildGrants (capacityOf
    (x.decideDiscovery n).settings (x.plansDiscovery n) ((x.decideDiscovery n).rangingList n).length) n force
    (x.decideDiscovery n)).feeder
  refine ⟨plan, ?_⟩
  rw [Feeder.handOn_line, reported, grants, x.decideDiscovery_frame n]

section
variable {f : FeederId} {n : CycleNo} {s : State}

theorem lineWork_setOverbooked (n : CycleNo) (s : State) : LineWork f s (setOverbooked f n s) := by
  unfold setOverbooked
  split
  · exact .refl f s
  · exact .trans (.onFeeder rfl) (.notify _ _)

theorem buildPlan_of_stopped (stopped : (s.feeder f).running = false) : buildPlan f n s = s := by
  rw [buildPlan, stopped, if_neg Bool.false_ne_true]

theorem buildPlan_line (running : (s.feeder f).running = true) : FeederWork f s (buildPlan f n s) ∧
    ∃ plan, ((buildPlan f n s).feeder f).cycleLine = ((s.feeder f).running, (s.feeder f).restartDue,
      (s.feeder f).ring.set (slotNumber n) (some (.planned n plan)), (s.feeder f).sending.map (.planned plan)) := by
  obtain ⟨plan, line⟩ := (s.feeder f).build_line (s.inForce f) n
  have built : FeederWork f s (s.setFeeder f ((s.feeder f).build (s.inForce f) n).1) := .onFeeder s fun _ => _
  rw [← State.feeder_setFeeder_self s f ((s.feeder f).build (s.inForce f) n).1] at line
  rw [buildPlan, if_pos running]
  dsimp only
  split
  · have flagged := lineWork_setOverbooked (f := f) n (s.setFeeder f ((s.feeder f).build (s.inForce f) n).1)
    exact ⟨built.trans flagged.work, plan, flagged.line.trans line⟩
  · exact ⟨built, plan, line⟩

/-! ## The frames (R6) -/

theorem feederWork_meterFrame (up : Bool) (d len : Nat) (s : State) : FeederWork f s (meterFrame up f d len s) := by
  unfold meterFrame
  split
  · exact .of_books rfl rfl rfl rfl
  · dsimp only
    split
    · refine .trans ?_ (.notify _ _)
      exact .of_books rfl rfl rfl rfl
    · exact .of_books rfl rfl rfl rfl

theorem framesBeforePlan_of_stopped (stopped : (s.feeder f).running = false) :
    framesBeforePlan f n s = frameCycle f (buildPlan f n s) := by
  unfold framesBeforePlan
  dsimp only
  rw [stopped, if_neg Bool.false_ne_true]

theorem framesBeforePlan_of_running (running : (s.feeder f).running = true) {room : Nat} {framed built : State}
    (hframed : framed = takeFrames f (s.feeder f).downQueue ((buildPlan f n s).dataRoom f - s.dataUsed f) s)
    (hbuilt : built = buildPlan f n framed) (hroom : room = built.dataRoom f - s.dataUsed f) :
    framesBeforePlan f n s = if ((takeFrames f (s.feeder f).downQueue room s).feeder f).downQueue.length =
      (framed.feeder f).downQueue.length then built else frameCycle f (buildPlan f n s) := by
  subst hroom hbuilt hframed
  exact if_pos running

theorem dataRoom_of_sending {c : DownCycle} (h : (s.feeder f).sending = some c) : s.dataRoom f = c.dataArea := by
  rw [State.dataRoom, h]
  rfl

/-- A build leaves the segments of the cycle under construction. -/
theorem dataUsed_of_built (running : (s.feeder f).running = true) {c : DownCycle}
    (h : ((buildPlan f n s).feeder f).sending = some c) : s.dataUsed f = (c.segments.map DownFrame.bytes).sum := by
  obtain ⟨-, plan, line⟩ := buildPlan_line (n := n) running
  have planned : ((buildPlan f n s).feeder f).sending = (s.feeder f).sending.map (.planned plan) :=
    congrArg (fun p => p.2.2.2) line
  rw [h] at planned
  obtain ⟨c', sending, rfl⟩ := Option.map_eq_some_iff.1 planned.symm
  rw [State.dataUsed, sending]
  rfl

end

/-! ## Commands taken again and again -/

theorem ran_repeat {c : Instr} {g : State → State} (hc : ∀ s, exec c s = live s g)
    (hg : ∀ s, (g s).resetHeld = s.resetHeld) (n : Nat) {s : State} (live : s.resetHeld = false) :
    Ran (List.replicate n c) s (Nat.repeat g n s) := by
  induction n generalizing s with
  | zero => rfl
  | succ n ih =>
    rw [← repeat_comm]
    exact ⟨g s, exec_live (hc s) live, ih (by rw [hg, live])⟩

theorem Nat.repeat_resetHeld {g : State → State} (hg : ∀ s, (g s).resetHeld = s.resetHeld) (n : Nat) (s : State) :
    (Nat.repeat g n s).resetHeld = s.resetHeld := by
  induction n with
  | zero => rfl
  | succ n ih => exact (hg _).trans ih

theorem Joined.resetHeld {s t : State} (h : Joined s t) : t.resetHeld = s.resetHeld := by rw [h.frame]

theorem ClosedAlong.resetHeld {s t : State} (h : ClosedAlong s t) : t.resetHeld = s.resetHeld := by rw [h]

/-! ## Records handed over one by one (R173) -/

theorem exportFirst_exportFirst (j k : Nat) (s : State) : exportFirst j (exportFirst k s) = exportFirst (k + j) s := by
  simp [exportFirst, State.onMeter, State.onUplink, List.take_add, Nat.add_assoc, BitVec.ofNat_add, BitVec.add_assoc]

/-- The arbiter has no other choice once it has chosen among statements that wait. -/
theorem arbitrate_exportFirst_arbitrate (j : Nat) {s : State} (waits : s.uplink.statements ≠ []) :
    arbitrate (exportFirst j (arbitrate s)) = arbitrate (exportFirst j s) := by
  have first : ∀ more, ({ s.uplink with statements := s.uplink.statements ++ more } : Uplink).firstClass =
      s.uplink.firstClass := fun more => by
    simp [Uplink.firstClass, waits]
  have some : s.uplink.firstClass ≠ Option.none := by
    unfold Uplink.firstClass
    repeat' split
    all_goals simp_all
  by_cases free : s.uplink.linkUp = true ∧ s.uplink.sending = none
  · have chosen : arbitrate s = s.onUplink fun u => { u with sending := u.firstClass } := if_pos free
    have again : arbitrate (exportFirst j s) =
        (exportFirst j s).onUplink fun u => { u with sending := u.firstClass } := if_pos free
    have busy : arbitrate (exportFirst j (arbitrate s)) = exportFirst j (arbitrate s) := by
      refine if_neg fun h => some ?_
      rw [chosen] at h
      exact h.2
    rw [busy, again, chosen]
    simp only [exportFirst, State.onMeter, State.onUplink, first]
  · have busy : arbitrate s = s := if_neg free
    rw [busy]

theorem exportNumber_exportFirst {k : Nat} {s : State} (h : k ≤ exportNumber s) :
    exportNumber (exportFirst k s) = exportNumber s - k := by
  cases held : s.meter.held with
  | true => simp [exportNumber, exportFirst, State.onMeter, State.onUplink, held]
  | false =>
    simp only [exportNumber, exportFirst, State.onMeter, State.onUplink, held, Bool.false_eq_true, if_false,
      List.length_drop, List.length_append, List.length_take] at h ⊢
    omega

theorem exportNumber_le (s : State) : exportNumber s ≤ 4 := by
  have four : Config.exportsPerCycle = 4 := rfl
  unfold exportNumber
  split <;> omega

theorem repeat_exportStatement (m : Nat) (s : State) : Nat.repeat exportStatement m s =
    if min m (exportNumber s) = 0 then s else arbitrate (exportFirst (min m (exportNumber s)) s) := by
  induction m with
  | zero => rw [Nat.zero_min, if_pos rfl]; rfl
  | succ m ih =>
    change exportStatement (Nat.repeat exportStatement m s) = _
    rw [ih]
    by_cases none : exportNumber s = 0
    · rw [none, Nat.min_zero, Nat.min_zero, if_pos rfl, exportStatement, if_pos none]
    · have next : min (m + 1) (exportNumber s) ≠ 0 := by omega
      rw [if_neg next]
      by_cases zero : m = 0
      · subst zero
        rw [Nat.zero_min, if_pos rfl, exportStatement, if_neg none, show min (0 + 1) (exportNumber s) = 1 by omega]
      · have some : min m (exportNumber s) ≠ 0 := by omega
        have left := exportNumber_exportFirst (Nat.min_le_right m (exportNumber s))
        rw [if_neg some, exportStatement, exportNumber_arbitrate, left]
        by_cases more : m < exportNumber s
        · have waits : (exportFirst (min m (exportNumber s)) s).uplink.statements ≠ [] := by
            have queue : s.meter.queue ≠ [] := fun empty => none ((exportNumber_eq_zero s).2 (.inl empty))
            simp [exportFirst, State.onMeter, State.onUplink, queue, some]
          rw [if_neg (by omega), arbitrate_exportFirst_arbitrate 1 waits, exportFirst_exportFirst,
            show min m (exportNumber s) + 1 = min (m + 1) (exportNumber s) by omega]
        · rw [if_pos (by omega), show min (m + 1) (exportNumber s) = min m (exportNumber s) by omega]

theorem exportAndSend_eq_repeat (s : State) : exportAndSend s = Nat.repeat exportStatement 4 s := by
  rw [repeat_exportStatement, Nat.min_eq_right (exportNumber_le s)]
  rfl

/-! ## What is due, taken by its commands -/

theorem ran_passDone {s : State} (live : s.resetHeld = false) :
    Ran (.bindTimeout :: .quarterBoundary :: List.replicate 256 .closeStep) (FeederId.all.foldl settleFeeder s)
      (passDone s) := by
  have held := (partKept_settleFeeders FeederId.all s).resetHeld.trans live
  unfold passDone
  generalize FeederId.all.foldl settleFeeder s = y at held ⊢
  have held' : (bindTimeout y).resetHeld = false := held
  have held'' : (quarterBoundary (bindTimeout y)).resetHeld = false := by
    rw [quarterBoundary_frame]; exact held'
  refine ⟨_, exec_live (c := .bindTimeout) (g := bindTimeout) rfl held, _,
    exec_live (c := .quarterBoundary) (g := quarterBoundary) rfl held', ?_⟩
  rw [closeSteps_eq]
  exact ran_repeat (fun _ => rfl) (fun s => (closedAlong_closeStep s).resetHeld) 256 held''

theorem ran_handOver {s : State} (live : s.resetHeld = false) : Ran (List.replicate 8 .responseHoldRelease ++
    List.replicate 8 .noticeOffer ++ List.replicate 4 .statementExport) s (handOver s) := by
  have released := ran_repeat (c := .responseHoldRelease) (fun _ => rfl) (fun s => (releaseHeld_joined s).resetHeld) 8 live
  have held := (Nat.repeat_resetHeld (fun s => (releaseHeld_joined s).resetHeld) 8 s).trans live
  have offered := ran_repeat (c := .noticeOffer) (fun _ => rfl) (fun s => (offerNotice_joined s).resetHeld) 8 held
  have held' := (Nat.repeat_resetHeld (fun s => (offerNotice_joined s).resetHeld) 8 _).trans held
  have exported := ran_repeat (c := .statementExport) (fun _ => rfl) (fun s => (exportStatement_joined s).resetHeld) 4 held'
  rw [← exportAndSend_eq_repeat] at exported
  exact (released.append offered).append exported

end Sys2Proof.Machine
end

section
/-! PROOFS. CYCLE_START takes what is due and each piece of its work once (R1, R3, R6, R69, R87, R110, R126, R160, R170). -/

namespace Sys2Proof.Machine

theorem ringReady_iff (s : State) : ringReady s = true ↔
    ∀ f, (s.feeder f).running = true → (s.feeder f).ring.get ((s.cycle + 1).toNat % 4) = none := by
  have slot : slotNumber (s.cycle + 1) = (s.cycle + 1).toNat % 4 := rfl
  unfold ringReady
  rw [List.all_eq_true, slot]
  refine ⟨fun h f running => ?_, fun h f _ => ?_⟩
  · have ready := h f (by cases f <;> decide)
    rw [running] at ready
    simpa using ready
  · cases running : (s.feeder f).running with
    | false => rfl
    | true => simpa using h f running

theorem newOrigin_cycle (s : State) : (newOrigin s).cycle = s.cycle + 1 := rfl

theorem exec_cycleStart (order : List CycleWork) {s : State} (live : s.resetHeld = false)
    (ready : ∀ f, (s.feeder f).running = true → (s.feeder f).ring.get ((s.cycle + 1).toNat % 4) = none) :
    exec (.cycleStart order) s = .next ((schedule order).foldl (runWork (s.cycle + 1)) (newOrigin (settle s))) := by
  have cycle : (newOrigin (settle s)).cycle = s.cycle + 1 := by rw [newOrigin_cycle, settle_cycle]
  have started : exec (.cycleStart order) s = .next (cycleStart order s) := by
    change (if _ then _ else Machine.live s (cycleStart order)) = _
    rw [(ringReady_iff s).2 ready, Machine.live, live]
    rfl
  rw [started, cycleStart, cycle]

theorem exec_cycleStart_occupied (order : List CycleWork) {s : State} (live : s.resetHeld = false)
    (occupied : ∃ f, (s.feeder f).running = true ∧ (s.feeder f).ring.get ((s.cycle + 1).toNat % 4) ≠ none) :
    exec (.cycleStart order) s = .fault .ringSlotOccupied := by
  have unready : ringReady s = false := by
    rw [← Bool.not_eq_true, ringReady_iff]
    obtain ⟨f, running, held⟩ := occupied
    exact fun ready => held (ready f running)
  change (if _ then _ else Machine.live s (cycleStart order)) = _
  rw [unready, live]
  rfl

theorem mem_mandatoryWork (f : FeederId) : ∀ w ∈ [CycleWork.build f, .orders f, .frames f, .idle f, .queryAge f, .decay f,
    .autoIsolate f], w ∈ mandatoryWork := by
  cases f <;> decide

theorem mem_mandatoryWork_part : ∀ w ∈ [CycleWork.refill, .outage, .quarter, .exportCount, .bindAge], w ∈ mandatoryWork := by
  decide

/-- The work of every cycle start, and nothing that it needs, is beyond the pieces named. -/
theorem mandatoryWork_cases {w : CycleWork} (h : w ∈ mandatoryWork) :
    (∃ f, w ∈ [CycleWork.build f, .orders f, .frames f, .idle f, .queryAge f, .decay f, .autoIsolate f]) ∨
      w ∈ [CycleWork.refill, .outage, .quarter, .exportCount, .bindAge] := by
  simp only [mandatoryWork, List.mem_append, List.mem_flatMap] at h
  obtain (⟨f, -, listed⟩ | ⟨f, -, listed⟩) | part := h
  · refine .inl ⟨f, ?_⟩
    simp only [List.mem_cons, List.not_mem_nil, or_false] at listed ⊢
    tauto
  · refine .inl ⟨f, ?_⟩
    simp only [List.mem_cons, List.not_mem_nil, or_false] at listed ⊢
    tauto
  · exact .inr part

/-- What a piece needs is work of every cycle start, or the boundary that a close step needs. -/
theorem workNeeds_cases {w v : CycleWork} (needed : w ∈ workNeeds v) :
    w ∈ mandatoryWork ∨ w = .boundary ∧ ∃ j, v = .closeThrough j := by
  have feeders := fun f => mem_mandatoryWork f
  cases v with
  | closeThrough j =>
    simp only [workNeeds, List.mem_cons, List.not_mem_nil, or_false] at needed
    obtain rfl | rfl := needed
    · exact .inl (mem_mandatoryWork_part _ (by simp))
    · exact .inr ⟨rfl, j, rfl⟩
  | frames f | framesFirst f | framesTo f | doze f | queryTimeout f | strikeDecay f =>
    refine .inl (mem_mandatoryWork f w ?_)
    simp only [workNeeds, List.mem_cons, List.not_mem_nil, or_false] at needed ⊢
    tauto
  | boundary | bindTimeout =>
    refine .inl (mem_mandatoryWork_part w ?_)
    simp only [workNeeds, List.mem_cons, List.not_mem_nil, or_false] at needed ⊢
    tauto
  | _ => cases needed

theorem schedule_cases {order : List CycleWork} {w : CycleWork} (h : w ∈ schedule order) : w ∈ order ∨
    (∃ f, w ∈ [CycleWork.build f, .orders f, .frames f, .idle f, .queryAge f, .decay f, .autoIsolate f]) ∨
    w ∈ [CycleWork.refill, .outage, .quarter, .exportCount, .bindAge] ∨
    (w = .boundary ∧ ∃ j, CycleWork.closeThrough j ∈ order) := by
  have always : w ∈ mandatoryWork → _ := fun h => (mandatoryWork_cases h).imp_right
    (Or.inl (b := w = CycleWork.boundary ∧ ∃ j, CycleWork.closeThrough j ∈ order))
  obtain ⟨v, listed, needed | rfl⟩ := mem_neededWork.1 (mem_schedule.1 h).1
  · obtain mandatory | ⟨rfl, j, rfl⟩ := workNeeds_cases needed
    · exact .inr (always mandatory)
    · obtain own | mandatory := listed
      · exact .inr (.inr (.inr ⟨rfl, j, own⟩))
      · obtain ⟨f, absurd⟩ | absurd := mandatoryWork_cases mandatory <;> simp at absurd
  · exact listed.imp id always

/-- The framing taken first, whatever the feeder does (R160). -/
theorem framesFirst_spec {f : FeederId} {n : CycleNo} {s first : State}
    (hfirst : first = runWork n (runWork n s (.build f)) (.frames f)) :
    ((s.feeder f).running = false → runWork n s (.framesFirst f) = first) ∧
    ∀ {framed built : State} {c c' : DownCycle} {used : Nat}, (s.feeder f).running = true →
      ((runWork n s (.build f)).feeder f).sending = some c → used = (c.segments.map DownFrame.bytes).sum →
      framed = takeFrames f (s.feeder f).downQueue (c.dataArea - used) s → built = runWork n framed (.build f) →
      (built.feeder f).sending = some c' → runWork n s (.framesFirst f) =
        if ((takeFrames f (s.feeder f).downQueue (c'.dataArea - used) s).feeder f).downQueue.length =
          (framed.feeder f).downQueue.length then built else first := by
  subst hfirst
  refine ⟨framesBeforePlan_of_stopped, fun running sending hused hframed hbuilt sending' => ?_⟩
  have spent := dataUsed_of_built running sending
  rw [← hused] at spent
  have room : (buildPlan f n s).dataRoom f = _ := dataRoom_of_sending sending
  refine framesBeforePlan_of_running running ?_ hbuilt ?_
  · rw [hframed, room, spent]
  · rw [dataRoom_of_sending sending', spent]

/-- What was due since the last cycle start, taken by its commands (log 4, log 36). -/
theorem ran_settle (n : CycleNo) {s : State} (live : s.resetHeld = false) :
    Ran (.bindTimeout :: .quarterBoundary :: (List.replicate 256 .closeStep ++ List.replicate 8 .responseHoldRelease ++
        List.replicate 8 .noticeOffer ++ List.replicate 4 .statementExport))
      ([FeederId.f0, .f1, .f2, .f3].foldl (fun y f => ageOuts f
        (runWork n (runWork n (runWork n y (.doze f)) (.queryTimeout f)) (.strikeDecay f))) s) (settle s) := by
  have turn : (fun (y : State) (f : FeederId) => ageOuts f
      (runWork n (runWork n (runWork n y (.doze f)) (.queryTimeout f)) (.strikeDecay f))) = settleFeeder := rfl
  have all : [FeederId.f0, .f1, .f2, .f3] = FeederId.all := rfl
  have held : (passDone s).resetHeld = false := by
    have first := (partKept_settleFeeders FeederId.all s).resetHeld.trans live
    rw [(passDone_closed s).resetHeld]
    generalize FeederId.all.foldl settleFeeder s = y at first ⊢
    rw [quarterBoundary_frame]
    exact first
  have ran := (ran_passDone live).append (ran_handOver held)
  rw [← settle_eq] at ran
  rw [turn, all]
  simpa only [List.cons_append, List.append_assoc] using ran

theorem settle_nothingDue (s : State) :
    (settle s).cycle = s.cycle ∧ (settle s).meter.boundaryDue = false ∧ (settle s).meter.pass = none ∧
    ¬ ((settle s).agent.bind = .binding ∧ 4000 ≤ (settle s).agent.bindAge) ∧
    (∀ f, ((settle s).feeder f).decayDue = false ∧ (∀ d, 1 ≤ d → d ≤ 64 → ((settle s).drop f d).dozeDue = false) ∧
      (∀ e ∈ ((settle s).feeder f).replies, e.timeoutDue = true → e.decline ≠ none) ∧
      (∀ d l p, 1 ≤ d → l < 4 → ((settle s).feeder f).partialFrame d l = some p →
        ((settle s).cycle - p.arrival).toNat < 4000)) ∧
    ((settle s).agent.hold = [] ∨ 8 ≤ (settle s).uplink.responses.length) ∧
    ((settle s).agent.notices = [] ∨ 8 ≤ (settle s).uplink.notices.length) ∧
    ((settle s).meter.queue = [] ∨ (settle s).meter.held = true ∨ 4 ≤ (settle s).meter.exportCount ∨
      8 ≤ (settle s).uplink.statements.length) := by
  obtain ⟨boundary, pass, bind⟩ := settle_settled s
  obtain ⟨hold, notices, exported⟩ := handOver_settled (passDone s)
  rw [← settle_eq] at hold notices exported
  refine ⟨settle_cycle s, boundary, pass, bind, fun f => ?_, hold, notices, (exportNumber_eq_zero _).1 exported⟩
  have settled := settleFeeders_feeder (l := FeederId.all) (by decide) s (f := f) (by cases f <;> decide)
  rw [← settle_feeder] at settled
  obtain ⟨decay, doze, timeouts, slots⟩ := settled
  exact ⟨decay, doze, timeouts, fun d l p h1 h4 held => by rw [settle_cycle]; exact slots d l p h1 h4 held⟩

/-- Settles O26. -/
theorem cycleStartTakesEachWorkOnce : Obligations.CycleStartTakesEachWorkOnce := by
  unfold Obligations.CycleStartTakesEachWorkOnce
  refine ⟨fun order s live ready => exec_cycleStart order live ready,
    fun order before between after a b split fresh free ha hb => schedule_keeps_order split fresh (fun w hw => ?_) ha hb,
    fun order w hw => schedule_cases hw, fun f n s first framed built c c' used hfirst => ?_,
    fun order => ⟨?_, fun w hw => scheduled_or_stood_for hw, fun f => ?_, mem_mandatoryWork_part,
      fun before w after split => ?_⟩,
    fun n s live => ⟨fun f => ran_ageOuts f live, ran_settle n live⟩, ?_⟩
  · have needs := free w hw
    cases w with
    | frames f | framesFirst f | framesTo f | doze f | queryTimeout f | strikeDecay f =>
      have own := needs f
      simp only [workNeeds, List.mem_cons, List.not_mem_nil, or_false]
      grind
    | boundary | bindTimeout | closeThrough =>
      have own := needs .f0
      simp only [workNeeds, List.mem_cons, List.not_mem_nil, or_false]
      grind
    | _ => exact List.not_mem_nil
  · obtain ⟨stopped, running⟩ := framesFirst_spec hfirst
    exact ⟨stopped, running⟩
  · exact (nodup_dedup _).filter _
  · have mandatory := mem_mandatoryWork f
    exact ⟨mandatory _ (by simp), mandatory _ (by simp), mandatory _ (by simp), mandatory _ (by simp), mandatory _ (by simp),
      mandatory _ (by simp), mandatory _ (by simp)⟩
  · have earlier : ∀ {v}, v ∈ workNeeds w → standsFor order v = false → v ∈ before := schedule_needs split
    have own : standsFor order w = false := (mem_schedule.1 (split ▸ by simp)).2
    refine ⟨fun f => ⟨?_, ?_, ?_, ?_, ?_, ?_⟩, ?_, ?_, ?_⟩
    · rintro rfl
      exact ⟨earlier (.head _) own, earlier (.tail _ (.head _)) rfl⟩
    · rintro rfl
      exact earlier (.head _) rfl
    · rintro rfl
      exact earlier (.head _) rfl
    · rintro k rfl
      exact earlier (.head _) rfl
    · rintro rfl
      exact earlier (.head _) rfl
    · rintro rfl
      exact earlier (.head _) rfl
    · rintro rfl
      exact earlier (.head _) rfl
    · rintro rfl
      exact earlier (.head _) rfl
    · rintro j rfl
      exact earlier (.tail _ (.head _)) rfl
  · intro s t ht
    have settled := settle_nothingDue s
    rwa [← ht] at settled

end Sys2Proof.Machine
end

section
/-! PROOFS. What each piece of a cycle start's work does to the cycles of a feeder (R1 to R6, R42). -/

namespace Sys2Proof.Machine

/-! ## The shape of a cycle under construction -/

/-- A feeder's cycles but for the segments placed in the one under construction. -/
def Feeder.shape (x : Feeder) :=
  (x.running, x.restartDue, x.ring, x.sending.map fun c => (c.cycle, c.restart, c.orders, c.plan))

theorem Feeder.shape_of_line {x y : Feeder} (h : y.cycleLine = x.cycleLine) : y.shape = x.shape := by
  simp only [Feeder.cycleLine, Prod.mk.injEq] at h
  obtain ⟨running, restart, ring, sending⟩ := h
  rw [Feeder.shape, Feeder.shape, running, restart, ring, sending]

/-- Work that leaves the shape of every feeder's cycles. -/
def ShapeKept (s t : State) : Prop := ∀ f, (t.feeder f).shape = (s.feeder f).shape

theorem ShapeKept.refl (s : State) : ShapeKept s s := fun _ => rfl

theorem ShapeKept.trans {s t u : State} (h : ShapeKept s t) (k : ShapeKept t u) : ShapeKept s u :=
  fun f => (k f).trans (h f)

theorem ShapeKept.of_feeders {s t : State} (h : t.feeders = s.feeders) : ShapeKept s t := fun f => by
  rw [State.feeder, h]; rfl

theorem ShapeKept.of_own {f : FeederId} {s t : State} (work : FeederWork f s t)
    (own : (t.feeder f).shape = (s.feeder f).shape) : ShapeKept s t := fun g => by
  by_cases same : g = f
  · rw [same, own]
  · rw [work.others g same]

/-! ## Frames taken (R6) -/

section
variable {f : FeederId}

theorem placeFrame_work (fr : DownFrame) (s : State) : FeederWork f s (placeFrame f fr s) ∧
    ((placeFrame f fr s).feeder f).shape = (s.feeder f).shape := by
  unfold placeFrame
  split
  · refine ⟨(FeederWork.onFeeder s _).trans (feederWork_meterFrame _ _ _ _), ?_⟩
    have metered : ∀ y : State, (meterFrame false f fr.index (fr.data.length + 4) y).feeder f = y.feeder f := fun y => by
      rw [meterFrame_frame]; rfl
    rw [metered, State.feeder_onFeeder_self, Feeder.shape, Option.map_map]
    rfl
  · refine ⟨.onFeeder s _, ?_⟩
    rw [State.feeder_onFeeder_self]
    rfl

theorem takeFrames_work (q : List DownFrame) (room : Nat) (s : State) : FeederWork f s (takeFrames f q room s) ∧
    ((takeFrames f q room s).feeder f).shape = (s.feeder f).shape := by
  have queued : ∀ (q : List DownFrame) (s : State), FeederWork f s (s.onFeeder f fun x => { x with downQueue := q }) ∧
      ((s.onFeeder f fun x => { x with downQueue := q }).feeder f).shape = (s.feeder f).shape := fun q s =>
    ⟨.onFeeder s _, by rw [State.feeder_onFeeder_self]; rfl⟩
  induction q generalizing room s with
  | nil => exact queued [] s
  | cons fr q ih =>
    rw [takeFrames]
    split
    · exact queued (fr :: q) s
    · obtain ⟨placed, shape⟩ := placeFrame_work (f := f) fr s
      obtain ⟨rest, shape'⟩ := ih (if (s.drop f fr.index).state.delivering then room - fr.bytes else room) (placeFrame f fr s)
      exact ⟨placed.trans rest, shape'.trans shape⟩

theorem frameCycle_work (s : State) : FeederWork f s (frameCycle f s) ∧
    ((frameCycle f s).feeder f).shape = (s.feeder f).shape := by
  unfold frameCycle
  split
  · split
    · exact takeFrames_work _ _ s
    · exact ⟨.refl f s, rfl⟩
  · exact ⟨.refl f s, rfl⟩

theorem framePart_work (n : CycleNo) (k : Nat) (s : State) : FeederWork f s (framePart f n k s) ∧
    ((framePart f n k s).feeder f).shape = (s.feeder f).shape := by
  unfold framePart
  dsimp only
  split
  · split
    · obtain ⟨taken, shape⟩ := takeFrames_work (f := f) _ _ s
      refine ⟨taken.trans (.onFeeder _ _), ?_⟩
      rw [State.feeder_onFeeder_self]
      exact shape
    · exact ⟨.refl f s, rfl⟩
  · exact ⟨.refl f s, rfl⟩

/-! ## Orders and plan -/

/-- A shape with a plan built into its cycle and its ring slot. -/
def shapePlanned (n : CycleNo) (plan : List Entry)
    (p : Bool × Bool × Quad (Option Slot) × Option (CycleNo × Bool × List LineOrder × List Entry)) :=
  (p.1, p.2.1, p.2.2.1.set (slotNumber n) (some (.planned n plan)), p.2.2.2.map fun c => (c.1, c.2.1, c.2.2.1, plan))

/-- A shape with more orders taken into its cycle. -/
def shapeOrdered (taken : List LineOrder)
    (p : Bool × Bool × Quad (Option Slot) × Option (CycleNo × Bool × List LineOrder × List Entry)) :=
  (p.1, p.2.1, p.2.2.1, p.2.2.2.map fun c => (c.1, c.2.1, c.2.2.1 ++ taken, c.2.2.2))

theorem takeOrders_work (n : CycleNo) (s : State) : FeederWork f s (takeOrders f n s) ∧
    ∃ taken : List LineOrder, taken.length ≤ 8 ∧
      ((takeOrders f n s).feeder f).shape = shapeOrdered taken (s.feeder f).shape := by
  obtain ⟨taken, few, work, line⟩ := takeOrders_line (f := f) n s
  refine ⟨work, taken, few, ?_⟩
  simp only [Feeder.cycleLine, Prod.mk.injEq] at line
  obtain ⟨running, restart, ring, sending⟩ := line
  rw [shapeOrdered, Feeder.shape, Feeder.shape, running, restart, ring, sending, Option.map_map, Option.map_map]
  rfl

theorem buildPlan_planned {n : CycleNo} {s : State} (running : (s.feeder f).running = true) :
    FeederWork f s (buildPlan f n s) ∧
      ∃ plan, ((buildPlan f n s).feeder f).shape = shapePlanned n plan (s.feeder f).shape := by
  obtain ⟨work, plan, line⟩ := buildPlan_line (n := n) running
  refine ⟨work, plan, ?_⟩
  simp only [Feeder.cycleLine, Prod.mk.injEq] at line
  obtain ⟨run, restart, ring, sending⟩ := line
  rw [shapePlanned, Feeder.shape, Feeder.shape, run, restart, ring, sending, Option.map_map, Option.map_map]
  rfl

theorem framesBeforePlan_planned {n : CycleNo} {s : State} (running : (s.feeder f).running = true) :
    FeederWork f s (framesBeforePlan f n s) ∧
      ∃ plan, ((framesBeforePlan f n s).feeder f).shape = shapePlanned n plan (s.feeder f).shape := by
  rw [framesBeforePlan_of_running running rfl rfl rfl]
  obtain ⟨taken, kept⟩ := takeFrames_work (f := f) (s.feeder f).downQueue ((buildPlan f n s).dataRoom f - s.dataUsed f) s
  generalize takeFrames f (s.feeder f).downQueue ((buildPlan f n s).dataRoom f - s.dataUsed f) s = framed at *
  have running' : (framed.feeder f).running = true := (congrArg Prod.fst kept).trans running
  split
  · obtain ⟨work, plan, planned⟩ := buildPlan_planned (n := n) running'
    exact ⟨taken.trans work, plan, by rw [planned, kept]⟩
  · obtain ⟨work, plan, planned⟩ := buildPlan_planned (n := n) running
    obtain ⟨more, shape⟩ := frameCycle_work (f := f) (buildPlan f n s)
    exact ⟨work.trans more, plan, by rw [shape, planned]⟩

end

end Sys2Proof.Machine
end

section
/-! PROOFS. What a cycle start's work keeps of the part, piece by piece (R1, R173, R179). -/

namespace Sys2Proof.Machine

/-! ## What every piece keeps -/

/-- What a cycle start keeps of the part as its work goes on. -/
structure StartKept (s t : State) : Prop where
  cycle : t.cycle = s.cycle
  pending : t.pending = s.pending
  held : t.meter.held = s.meter.held
  uplink : t.uplink = { s.uplink with responses := t.uplink.responses, notices := t.uplink.notices
                                      statements := t.uplink.statements, sending := t.uplink.sending }
  waiting : waitingResponses t = waitingResponses s

theorem StartKept.refl (s : State) : StartKept s s := ⟨rfl, rfl, rfl, rfl, rfl⟩

theorem StartKept.trans {s t u : State} (h : StartKept s t) (k : StartKept t u) : StartKept s u :=
  ⟨k.cycle.trans h.cycle, k.pending.trans h.pending, k.held.trans h.held, by rw [k.uplink, h.uplink],
    k.waiting.trans h.waiting⟩

/-- Of a state, what exporting sees. -/
def State.exports (s : State) := (s.meter.queue, s.meter.exportCount, s.meter.held, s.uplink.statements)

theorem PartKept.startKept {s t : State} (h : PartKept s t) : StartKept s t ∧ t.exports = s.exports := by
  have uplink : t.uplink = s.uplink := congrArg (fun p => p.2.2.2.2.2.2.2.1) h.part
  have pending : t.pending = s.pending := congrArg (fun p => p.2.2.2.2.2.2.2.2) h.part
  refine ⟨⟨h.cycle, pending, by rw [h.books], by rw [uplink], by rw [waitingResponses, uplink, h.agent.hold]; rfl⟩, ?_⟩
  rw [State.exports, uplink, h.books]
  rfl

theorem ClosedAlong.startKept {s t : State} (h : ClosedAlong s t) : StartKept s t := by
  refine ⟨h.cycle, by rw [h], by rw [h], by rw [h], ?_⟩
  rw [waitingResponses, h]
  rfl

theorem Joined.startKept {s t : State} (h : Joined s t) : StartKept s t :=
  ⟨h.cycle, by rw [h.frame], by rw [h.frame], by rw [h.frame], h.responses⟩

/-- What was due is taken with the part's cycles kept. -/
theorem startKept_settle (s : State) : StartKept s (settle s) := by
  obtain ⟨feeders, -⟩ := (partKept_settleFeeders FeederId.all s).startKept
  have passed : StartKept (FeederId.all.foldl settleFeeder s) (passDone s) := by
    refine .trans ?_ (passDone_closed s).startKept
    generalize FeederId.all.foldl settleFeeder s = y
    have bound : StartKept y (bindTimeout y) := ⟨rfl, rfl, rfl, rfl, congrArg (y.uplink.responses ++ ·) (bindTimeout_hold y)⟩
    refine bound.trans ?_
    generalize bindTimeout y = z
    refine ⟨?_, ?_, quarterBoundary_held z, ?_, ?_⟩
    · rw [quarterBoundary_frame]
    · rw [quarterBoundary_frame]
    · rw [quarterBoundary_frame]
    · rw [quarterBoundary_frame]
      rfl
  rw [settle_eq]
  exact (feeders.trans passed).trans (handOver_joined _).startKept

theorem settle_line (s : State) (f : FeederId) : ((settle s).feeder f).cycleLine = (s.feeder f).cycleLine := by
  have kept : ∀ (l : List FeederId) (s : State), ((l.foldl settleFeeder s).feeder f).cycleLine = (s.feeder f).cycleLine := by
    intro l
    induction l with
    | nil => exact fun _ => rfl
    | cons g l ih =>
      intro s
      refine (ih _).trans ?_
      by_cases same : f = g
      · rw [same, (lineWork_settleFeeder g s).line]
      · rw [(lineWork_settleFeeder g s).work.others f same]
  rw [settle_feeder, kept]

/-! ## The pieces that leave the cycles and what exporting sees -/

/-- Work that leaves every feeder's cycles up to segments, the part's cycles and what exporting sees. -/
structure QuietWork (s t : State) : Prop where
  shape : ShapeKept s t
  start : StartKept s t
  exports : t.exports = s.exports

theorem QuietWork.refl (s : State) : QuietWork s s := ⟨.refl s, .refl s, rfl⟩

theorem QuietWork.trans {s t u : State} (h : QuietWork s t) (k : QuietWork t u) : QuietWork s u :=
  ⟨h.shape.trans k.shape, h.start.trans k.start, k.exports.trans h.exports⟩

theorem FeederWork.quiet {f : FeederId} {s t : State} (h : FeederWork f s t)
    (own : (t.feeder f).shape = (s.feeder f).shape) : QuietWork s t :=
  ⟨.of_own h own, h.kept.startKept.1, h.kept.startKept.2⟩

theorem LineWork.quiet {f : FeederId} {s t : State} (h : LineWork f s t) : QuietWork s t :=
  h.work.quiet (Feeder.shape_of_line h.line)

theorem quietWork_quarterBoundary (s : State) : QuietWork s (quarterBoundary s) := by
  have frame := quarterBoundary_frame s
  have meter := quarterBoundary_meter s
  refine ⟨.of_feeders (by rw [frame]), ⟨by rw [frame], by rw [frame], quarterBoundary_held s, by rw [frame], ?_⟩, ?_⟩
  · rw [frame]
    rfl
  · rw [State.exports, meter, frame]
    rfl

theorem growBindAge_hold (s : State) : (growBindAge s).agent.hold = s.agent.hold := by
  unfold growBindAge State.onAgent
  dsimp only
  split <;> rfl

/-- Work on the agent's binding alone. -/
theorem QuietWork.of_agent {s : State} {a : Agent} (hold : a.hold = s.agent.hold) : QuietWork s { s with agent := a } :=
  ⟨.of_feeders rfl, ⟨rfl, rfl, rfl, rfl, congrArg (s.uplink.responses ++ ·) hold⟩, rfl⟩

/-- Work on accounts and clock alone. -/
theorem QuietWork.of_meter {s : State} {m : Meter} (h : (m.queue, m.exportCount, m.held) =
    (s.meter.queue, s.meter.exportCount, s.meter.held)) : QuietWork s { s with meter := m } := by
  simp only [Prod.mk.injEq] at h
  obtain ⟨queue, count, held⟩ := h
  refine ⟨.of_feeders rfl, ⟨rfl, rfl, held, rfl, rfl⟩, ?_⟩
  simp only [State.exports, queue, count, held]

/-- The pieces that build a plan, take orders, close accounts or let records go. -/
def leavesMark : CycleWork → Bool
  | .build _ | .framesFirst _ | .orders _ | .closeThrough _ | .exportCount => true
  | _ => false

theorem quietWork_runWork (n : CycleNo) (s : State) {w : CycleWork} (plain : leavesMark w = false) :
    QuietWork s (runWork n s w) := by
  cases w with
  | frames f =>
    obtain ⟨work, shape⟩ := frameCycle_work (f := f) s
    exact work.quiet shape
  | framesTo f k =>
    obtain ⟨work, shape⟩ := framePart_work (f := f) n k s
    exact work.quiet shape
  | idle f => exact (lineWork_countIdle (f := f) s).quiet
  | doze f => exact (LineWork.foldl (lineWork_dozeTest (f := f)) dropIndices s).quiet
  | queryAge f => exact (lineWork_growQueryAges (f := f) s).quiet
  | queryTimeout f => exact (lineWork_queryTimeouts (f := f) s).quiet
  | decay f => exact (lineWork_countDecay (f := f) s).quiet
  | strikeDecay f => exact (lineWork_strikeDecay (f := f) s).quiet
  | autoIsolate f => exact (lineWork_autoIsolate (f := f) s).quiet
  | refill => exact .of_meter rfl
  | outage => exact .of_meter rfl
  | quarter =>
    change QuietWork s (countQuarter s)
    rw [countQuarter_eq]
    exact .of_meter rfl
  | boundary => exact quietWork_quarterBoundary s
  | bindAge => exact .of_agent (growBindAge_hold s)
  | bindTimeout => exact .of_agent (bindTimeout_hold s)
  | ageOut =>
    change QuietWork s (FeederId.all.foldl (fun s f => ageOuts f s) s)
    generalize FeederId.all = l
    induction l generalizing s with
    | nil => exact .refl s
    | cons f l ih => exact (lineWork_ageOuts (f := f) s).quiet.trans (ih _)
  | build | framesFirst | orders | closeThrough | exportCount => cases plain

/-! ## The pieces that build and take orders -/

/-- The pieces that build a feeder's plan or take its orders. -/
def Lays (f : FeederId) (w : CycleWork) : Prop := w = .build f ∨ w = .framesFirst f ∨ w = .orders f

theorem feederWork_runWork (n : CycleNo) (s : State) {f : FeederId} {w : CycleWork} (h : Lays f w) :
    FeederWork f s (runWork n s w) := by
  cases running : (s.feeder f).running with
  | true =>
    obtain rfl | rfl | rfl := h
    · exact (buildPlan_planned running).1
    · exact (framesBeforePlan_planned running).1
    · exact (takeOrders_work n s).1
  | false =>
    obtain rfl | rfl | rfl := h
    · change FeederWork f s (buildPlan f n s)
      rw [buildPlan_of_stopped running]
      exact .refl f s
    · change FeederWork f s (framesBeforePlan f n s)
      rw [framesBeforePlan_of_stopped running, buildPlan_of_stopped running]
      exact (frameCycle_work s).1
    · exact (takeOrders_work n s).1

theorem closedAlong_closeThrough (j : Nat) (s : State) : ClosedAlong s (closeThrough j s) := by
  unfold closeThrough
  split
  · exact .refl s
  · exact closedAlong_closeSteps _ s

theorem closedAlong_exportCount (n : CycleNo) (s : State) : ClosedAlong s (runWork n s .exportCount) :=
  (show ClosedAlong s (s.onMeter fun m => { m with exportCount := 0 }) from rfl).trans (closedAlong_exportAndSend _)

theorem marked_cases {w : CycleWork} (h : leavesMark w = true) :
    (∃ f, Lays f w) ∨ (∃ j, w = .closeThrough j) ∨ w = .exportCount := by
  cases w with
  | build f => exact .inl ⟨f, .inl rfl⟩
  | framesFirst f => exact .inl ⟨f, .inr (.inl rfl)⟩
  | orders f => exact .inl ⟨f, .inr (.inr rfl)⟩
  | closeThrough j => exact .inr (.inl ⟨j, rfl⟩)
  | exportCount => exact .inr (.inr rfl)
  | _ => cases h

theorem startKept_runWork (n : CycleNo) (s : State) (w : CycleWork) : StartKept s (runWork n s w) := by
  cases marked : leavesMark w with
  | false => exact (quietWork_runWork n s marked).start
  | true =>
    obtain ⟨f, lays⟩ | ⟨j, rfl⟩ | rfl := marked_cases marked
    · exact (feederWork_runWork n s lays).kept.startKept.1
    · exact (closedAlong_closeThrough j s).startKept
    · exact (closedAlong_exportCount n s).startKept

/-- A piece leaves the shape of a feeder's cycles, but for the build and the orders of the feeder. -/
theorem shape_runWork (n : CycleNo) (s : State) {f : FeederId} {w : CycleWork} (apart : ¬ Lays f w) :
    ((runWork n s w).feeder f).shape = (s.feeder f).shape := by
  cases marked : leavesMark w with
  | false => exact (quietWork_runWork n s marked).shape f
  | true =>
    obtain ⟨g, lays⟩ | ⟨j, rfl⟩ | rfl := marked_cases marked
    · rw [(feederWork_runWork n s lays).others f fun same => apart (same ▸ lays)]
    · exact ShapeKept.of_feeders (closedAlong_closeThrough j s).feeders f
    · exact ShapeKept.of_feeders (closedAlong_exportCount n s).feeders f

/-- A piece leaves what exporting sees, but for a close step and the exporting itself. -/
theorem exports_runWork (n : CycleNo) (s : State) {w : CycleWork} (apart : w ≠ .exportCount)
    (open' : ∀ j, w ≠ .closeThrough j) : (runWork n s w).exports = s.exports := by
  cases marked : leavesMark w with
  | false => exact (quietWork_runWork n s marked).exports
  | true =>
    obtain ⟨f, lays⟩ | ⟨j, closes⟩ | exported := marked_cases marked
    · exact (feederWork_runWork n s lays).kept.startKept.2
    · exact absurd closes (open' j)
    · exact absurd exported apart

end Sys2Proof.Machine
end

section
/-! PROOFS. CYCLE_START hands on one cycle and one plan on every RUNNING feeder (R1 to R3, R42, R44, R46, R173, R179). -/

namespace Sys2Proof.Machine

/-! ## A feeder's cycle while the work goes on -/

/-- The feeder's cycle `n` while the work of the list is still to be done: it takes its orders once, and holds its plan once
that is built. -/
structure Underway (f : FeederId) (n : CycleNo) (restart : Bool) (l : List CycleWork) (x : Feeder) where
  /-- The cycle's orders and plan, and the ring. -/
  cycle : ∃ ring orders plan, x.shape = (true, false, ring, some (n, restart, orders, plan)) ∧ orders.length ≤ 8 ∧
    (.orders f ∈ l → orders = []) ∧
    (.build f ∈ l ∨ .framesFirst f ∈ l ∨ ring.get (slotNumber n) = some (.planned n plan))

theorem Underway.runWork {f : FeederId} {n : CycleNo} {restart : Bool} {w : CycleWork} {l : List CycleWork} {s : State}
    (h : Underway f n restart (w :: l) (s.feeder f)) (once : w ∉ l) :
    Underway f n restart l ((runWork n s w).feeder f) := by
  obtain ⟨ring, orders, plan, shape, few, untaken, built⟩ := h
  have running : (s.feeder f).running = true := congrArg Prod.fst shape
  by_cases lays : Lays f w
  · obtain rfl | rfl | rfl := lays
    · obtain ⟨-, plan', planned⟩ := buildPlan_planned (n := n) running
      exact ⟨_, orders, plan', by rw [Machine.runWork, planned, shape]; rfl, few,
        fun later => untaken (List.mem_cons_of_mem _ later), .inr (.inr (Quad.get_set_self ..))⟩
    · obtain ⟨-, plan', planned⟩ := framesBeforePlan_planned (n := n) running
      exact ⟨_, orders, plan', by rw [Machine.runWork, planned, shape]; rfl, few,
        fun later => untaken (List.mem_cons_of_mem _ later), .inr (.inr (Quad.get_set_self ..))⟩
    · obtain ⟨-, taken, more, ordered⟩ := takeOrders_work (f := f) n s
      refine ⟨ring, orders ++ taken, plan, by rw [Machine.runWork, ordered, shape]; rfl, ?_, fun later => absurd later once,
        ?_⟩
      · rw [untaken List.mem_cons_self]
        exact more
      · simpa using built
  · have other : w ≠ .build f ∧ w ≠ .framesFirst f := ⟨fun h => lays (.inl h), fun h => lays (.inr (.inl h))⟩
    refine ⟨ring, orders, plan, by rw [shape_runWork n s lays, shape], few,
      fun later => untaken (List.mem_cons_of_mem _ later), ?_⟩
    rwa [List.mem_cons, List.mem_cons, or_iff_right other.1.symm, or_iff_right other.2.symm] at built

theorem Underway.foldl {f : FeederId} {n : CycleNo} {restart : Bool} {l : List CycleWork} (nodup : l.Nodup) {s : State}
    (h : Underway f n restart l (s.feeder f)) :
    Underway f n restart [] ((l.foldl (Machine.runWork n) s).feeder f) := by
  induction l generalizing s with
  | nil => exact h
  | cons w l ih =>
    obtain ⟨once, nodup⟩ := List.nodup_cons.1 nodup
    exact ih nodup (h.runWork once)

/-- The cycle and the ring slot that a feeder holds once its work is done. -/
theorem Underway.done {f : FeederId} {n : CycleNo} {restart : Bool} {x : Feeder} (h : Underway f n restart [] x) :
    ∃ (c : DownCycle) (sl : Slot), x.sending = some c ∧ x.ring.get (slotNumber n) = some sl ∧ c.cycle = n ∧
      c.restart = restart ∧ c.orders.length ≤ 8 ∧ sl.state = .waiting ∧ sl.cycle = n ∧
      sl.windows = c.plan.map (fun e => ⟨e, .nothing, .unresolved⟩) ∧ x.restartDue = false := by
  obtain ⟨ring, orders, plan, shape, few, -, built⟩ := h
  simp only [Feeder.shape, Prod.mk.injEq] at shape
  obtain ⟨-, restartDue, rfl, sending⟩ := shape
  obtain ⟨c, sent, fields⟩ := Option.map_eq_some_iff.1 sending
  simp only [Prod.mk.injEq] at fields
  obtain ⟨cycle, restart', rfl, rfl⟩ := fields
  have slot : x.ring.get (slotNumber n) = some (.planned n c.plan) := by simpa using built
  exact ⟨c, _, sent, slot, cycle, restart', few, rfl, rfl, rfl, restartDue⟩

/-! ## The work of a cycle start as a whole -/

theorem foldl_runWork_startKept (n : CycleNo) (l : List CycleWork) (s : State) :
    StartKept s (l.foldl (runWork n) s) := by
  induction l generalizing s with
  | nil => exact .refl s
  | cons w l ih => exact (startKept_runWork n s w).trans (ih _)

theorem running_runWork (n : CycleNo) (s : State) (w : CycleWork) (f : FeederId) :
    ((runWork n s w).feeder f).running = (s.feeder f).running := by
  by_cases lays : Lays f w
  · cases running : (s.feeder f).running with
    | true =>
      obtain rfl | rfl | rfl := lays
      · obtain ⟨-, plan, planned⟩ := buildPlan_planned (n := n) running
        exact (congrArg Prod.fst planned).trans running
      · obtain ⟨-, plan, planned⟩ := framesBeforePlan_planned (n := n) running
        exact (congrArg Prod.fst planned).trans running
      · obtain ⟨-, taken, -, ordered⟩ := takeOrders_work (f := f) n s
        exact (congrArg Prod.fst ordered).trans running
    | false =>
      obtain rfl | rfl | rfl := lays
      · rw [Machine.runWork, buildPlan_of_stopped running, running]
      · rw [Machine.runWork, framesBeforePlan_of_stopped running, buildPlan_of_stopped running,
          frameCycle_of_stopped running, running]
      · rw [runWork_orders_of_stopped running, running]
  · exact congrArg Prod.fst (shape_runWork n s lays)

theorem foldl_runWork_running (n : CycleNo) (l : List CycleWork) (s : State) (f : FeederId) :
    ((l.foldl (runWork n) s).feeder f).running = (s.feeder f).running := by
  induction l generalizing s with
  | nil => rfl
  | cons w l ih => exact (ih _).trans (running_runWork n s w f)

/-! ## The records exported in a cycle (R173) -/

/-- No record may go any more, and no more than 4 went, or none while exporting is held. -/
structure Exported (s : State) : Prop where
  none : exportNumber s = 0
  few : s.meter.exportCount ≤ if s.meter.held = true then 0 else 4

theorem exportNumber_congr {s t : State} (h : t.exports = s.exports) : exportNumber t = exportNumber s := by
  simp only [State.exports, Prod.mk.injEq] at h
  obtain ⟨queue, count, held, statements⟩ := h
  rw [exportNumber, exportNumber, queue, count, held, statements]

theorem Exported.congr {s t : State} (h : t.exports = s.exports) (k : Exported s) : Exported t := by
  have number := exportNumber_congr h
  simp only [State.exports, Prod.mk.injEq] at h
  obtain ⟨queue, count, held, statements⟩ := h
  exact ⟨number.trans k.none, by rw [count, held]; exact k.few⟩

theorem exported_exportAndSend {s : State} (few : s.meter.exportCount ≤ if s.meter.held = true then 0 else 4) :
    Exported (exportAndSend s) := by
  refine ⟨exportNumber_exportAndSend s, ?_⟩
  obtain ⟨same, -⟩ | ⟨-, sent⟩ := exportAndSend_cases s
  · rwa [same]
  · rw [sent, arbitrate_meter]
    change s.meter.exportCount + exportNumber s ≤ if s.meter.held = true then 0 else 4
    have four : Config.exportsPerCycle = 4 := rfl
    unfold exportNumber
    cases held : s.meter.held with
    | true => simpa [held] using few
    | false =>
      rw [held] at few
      simp only [Bool.false_eq_true, if_false] at few ⊢
      omega

theorem Exported.appendStatement {s : State} (h : Exported s) (r : Statement) : Exported (appendStatement r s) := by
  have joined : (recordJoined r s).meter.exportCount ≤ if (recordJoined r s).meter.held = true then 0 else 4 := h.few
  unfold Machine.appendStatement
  dsimp only
  split
  · exact exported_exportAndSend joined
  next some =>
    refine ⟨(exportNumber_eq_zero _).2 (.inr ?_), joined⟩
    exact ((exportNumber_eq_zero s).1 h.none).resolve_left fun empty => some (by rw [empty]; rfl)

theorem Exported.closeStep {s : State} (h : Exported s) : Exported (closeStep s) := by
  cases pass : s.meter.pass with
  | none => simpa only [Machine.closeStep, pass] using h
  | some p =>
    rw [closeStep_of_pass pass]
    split
    · unfold closeAccount
      split
      · exact .congr (by rfl) (h.appendStatement _)
      · exact .congr (by rfl) h
    · exact .congr (by rfl) h

theorem Exported.closeSteps {s : State} (h : Exported s) (n : Nat) : Exported (closeSteps n s) := by
  induction n generalizing s with
  | zero => exact h
  | succ n ih =>
    rw [Machine.closeSteps]
    split
    · exact ih h.closeStep
    · exact h

theorem exported_exportCount (n : CycleNo) (s : State) : Exported (runWork n s .exportCount) :=
  exported_exportAndSend (Nat.zero_le _)

theorem Exported.runWork {s : State} (h : Exported s) (n : CycleNo) (w : CycleWork) : Exported (runWork n s w) := by
  by_cases count : w = .exportCount
  · rw [count]
    exact exported_exportCount n s
  · by_cases closes : ∃ j, w = .closeThrough j
    · obtain ⟨j, rfl⟩ := closes
      change Exported (closeThrough j s)
      unfold closeThrough
      split
      · exact h
      · exact h.closeSteps _
    · exact h.congr (exports_runWork n s count (not_exists.1 closes))

theorem foldl_runWork_exported (n : CycleNo) {l : List CycleWork} (s : State)
    (h : .exportCount ∈ l ∨ Exported s) : Exported (l.foldl (runWork n) s) := by
  induction l generalizing s with
  | nil => exact h.resolve_left List.not_mem_nil
  | cons w l ih =>
    refine ih _ ?_
    obtain listed | exported := h
    · obtain rfl | later := List.mem_cons.1 listed
      · exact .inr (exported_exportCount n s)
      · exact .inl later
    · exact .inr (exported.runWork n w)

/-- Without close steps the cycle's count is what exporting lets go at once. -/
theorem foldl_runWork_exportCount (n : CycleNo) {l : List CycleWork} (nodup : l.Nodup)
    (open' : ∀ j, .closeThrough j ∉ l) (listed : .exportCount ∈ l) (s : State) :
    (l.foldl (runWork n) s).meter.exportCount = if s.meter.held = true then 0
      else min 4 (min s.meter.queue.length (8 - s.uplink.statements.length)) := by
  have kept : ∀ (l : List CycleWork), .exportCount ∉ l → (∀ j, .closeThrough j ∉ l) → ∀ s : State,
      (l.foldl (runWork n) s).exports = s.exports := by
    intro l
    induction l with
    | nil => exact fun _ _ _ => rfl
    | cons w l ih =>
      intro absent open' s
      refine (ih (fun h => absent (List.mem_cons_of_mem w h)) (fun j h => open' j (List.mem_cons_of_mem w h)) _).trans ?_
      exact exports_runWork n s (fun same => absent (same ▸ List.mem_cons_self))
        fun j same => open' j (same ▸ List.mem_cons_self)
  induction l generalizing s with
  | nil => cases listed
  | cons w l ih =>
    obtain ⟨once, nodup⟩ := List.nodup_cons.1 nodup
    have open'' := fun j h => open' j (List.mem_cons_of_mem w h)
    rw [List.foldl_cons]
    by_cases count : w = .exportCount
    · subst count
      have rest := kept l once open'' (runWork n s .exportCount)
      simp only [State.exports, Prod.mk.injEq] at rest
      obtain ⟨-, same, -⟩ := rest
      rw [same, ← exportCounted_number rfl]
      change (exportAndSend (s.onMeter fun m => { m with exportCount := 0 })).meter.exportCount = _
      obtain ⟨stays, zero⟩ | ⟨-, sent⟩ := exportAndSend_cases (s.onMeter fun m => { m with exportCount := 0 })
      · rw [stays, zero]
        rfl
      · rw [sent, arbitrate_meter]
        exact Nat.zero_add _
    · have same := exports_runWork n s count fun j same => open' j (same ▸ List.mem_cons_self)
      rw [ih nodup open'' ((List.mem_cons.1 listed).resolve_left (Ne.symm count))]
      simp only [State.exports, Prod.mk.injEq] at same
      obtain ⟨queue, -, held, statements⟩ := same
      rw [queue, held, statements]

end Sys2Proof.Machine
end

section
/-! PROOFS. CYCLE_START hands on one plan (R1, R2, R3, R42, R44, R46, R173, R179). -/

namespace Sys2Proof.Machine

theorem newOrigin_feeder (s : State) (f : FeederId) :
    (newOrigin s).feeder f = (s.feeder f).newCycle (s.cycle + 1) :=
  State.feeder_map { s with cycle := s.cycle + 1 } (fun x => x.newCycle (s.cycle + 1)) f

theorem newOrigin_running (s : State) (f : FeederId) : ((newOrigin s).feeder f).running = (s.feeder f).running := by
  rw [newOrigin_feeder, Feeder.newCycle]
  split <;> rfl

/-- A cycle begins without orders and without a plan (R3). -/
theorem newOrigin_underway {s : State} {f : FeederId} {l : List CycleWork} (running : (s.feeder f).running = true)
    (built : .build f ∈ l ∨ .framesFirst f ∈ l) :
    Underway f (s.cycle + 1) (s.feeder f).restartDue l ((newOrigin s).feeder f) := by
  rw [newOrigin_feeder, Feeder.newCycle, if_pos running]
  exact ⟨(s.feeder f).ring, [], [], by rw [Feeder.shape, running]; rfl, Nat.zero_le _, fun _ => rfl,
    built.imp_right .inl⟩

/-- Every cycle start builds each feeder's plan, by itself or with its framing taken first. -/
theorem schedule_builds (order : List CycleWork) (f : FeederId) :
    CycleWork.build f ∈ schedule order ∨ .framesFirst f ∈ schedule order := by
  obtain listed | ⟨g, which, first⟩ :=
    scheduled_or_stood_for (order := order) (.inr (mem_mandatoryWork f (.build f) (by simp)))
  · exact .inl listed
  · obtain same | same := which
    · cases same
      exact .inr first
    · cases same

theorem schedule_exports (order : List CycleWork) : CycleWork.exportCount ∈ schedule order := by
  obtain listed | ⟨g, which, -⟩ :=
    scheduled_or_stood_for (order := order) (.inr (mem_mandatoryWork_part .exportCount (by simp)))
  · exact listed
  · obtain same | same := which <;> cases same

theorem schedule_closes {order : List CycleWork} {j : Nat} (h : CycleWork.closeThrough j ∈ schedule order) :
    .closeThrough j ∈ order := by
  obtain own | ⟨f, other⟩ | other | ⟨other, -⟩ := schedule_cases h
  · exact own
  · simp at other
  · simp at other
  · cases other

theorem schedule_nodup (order : List CycleWork) : (schedule order).Nodup := (nodup_dedup _).filter _

/-- The part once an origin's work is done, from the state in which nothing was due. -/
theorem foldl_newOrigin_spec (order : List CycleWork) {y t : State}
    (ht : t = (schedule order).foldl (runWork (y.cycle + 1)) (newOrigin y)) :
    t.cycle = y.cycle + 1 ∧
    ((∀ j, CycleWork.closeThrough j ∉ order) → t.meter.exportCount = if y.meter.held = true then 0
      else min 4 (min y.meter.queue.length (8 - y.uplink.statements.length))) ∧
    Exported t ∧ t.meter.held = y.meter.held ∧ t.pending = y.pending ∧
    t.uplink = { y.uplink with responses := t.uplink.responses, notices := t.uplink.notices
                               statements := t.uplink.statements, sending := t.uplink.sending } ∧
    waitingResponses t = waitingResponses y ∧
    ∀ f, (t.feeder f).running = (y.feeder f).running ∧ ((y.feeder f).running = true →
      Underway f (y.cycle + 1) (y.feeder f).restartDue [] (t.feeder f)) := by
  subst ht
  have kept := foldl_runWork_startKept (y.cycle + 1) (schedule order) (newOrigin y)
  refine ⟨kept.cycle, fun open' => ?_, foldl_runWork_exported _ _ (.inl (schedule_exports order)), kept.held, kept.pending,
    kept.uplink, kept.waiting, fun f => ⟨?_, fun running => ?_⟩⟩
  · exact foldl_runWork_exportCount _ (schedule_nodup order) (fun j listed => open' j (schedule_closes listed))
      (schedule_exports order) (newOrigin y)
  · rw [foldl_runWork_running, newOrigin_running]
  · exact (newOrigin_underway running (schedule_builds order f)).foldl (schedule_nodup order)

/-- Settles O25. -/
theorem cycleStartHandsOnOnePlan : Obligations.CycleStartHandsOnOnePlan := by
  unfold Obligations.CycleStartHandsOnOnePlan
  refine ⟨fun order s live ready => ?_, fun order s live occupied => exec_cycleStart_occupied order live occupied⟩
  have ran := exec_cycleStart order live ready
  have before := startKept_settle s
  have lines := settle_line s
  generalize settle s = y at ran before lines ⊢
  obtain ⟨cycle, pending, held, uplink, waiting⟩ := before
  rw [← cycle] at ran
  obtain ⟨t, ht⟩ : ∃ t, t = (schedule order).foldl (runWork (y.cycle + 1)) (newOrigin y) := ⟨_, rfl⟩
  obtain ⟨cycle', count, exported, held', pending', uplink', waiting', feeders⟩ := foldl_newOrigin_spec order ht
  rw [← ht] at ran
  have few := exported.few
  rw [held', held] at few
  refine ⟨t, ran, by rw [cycle', cycle], fun open' => by rw [count open', held], few, ?_, by rw [pending', pending],
    by rw [uplink', uplink], waiting'.trans waiting, fun f => ?_⟩
  · obtain empty | holds | most | full := (exportNumber_eq_zero t).1 exported.none
    · exact .inr (.inl empty)
    · exact .inl (by rw [← held, ← held', holds])
    · have four : 4 ≤ t.meter.exportCount := most
      cases holds : s.meter.held with
      | true => exact .inl rfl
      | false =>
        rw [holds] at few
        exact .inr (.inr (.inl (by simp only [Bool.false_eq_true, if_false] at few; omega)))
    · exact .inr (.inr (.inr full))
  · obtain ⟨running, underway⟩ := feeders f
    have line := lines f
    simp only [Feeder.cycleLine, Prod.mk.injEq] at line
    obtain ⟨runs, restart, -, -⟩ := line
    refine ⟨running.trans runs, fun going => ?_⟩
    have done := (underway (runs.trans going)).done
    rw [cycle, restart] at done
    exact done

end Sys2Proof.Machine
end
